-- ==== Sys2Proof/Word.lean ====
section
/-! DEFINITION. The plain data types every layer uses: bytes, 16-bit words, 4-bit serials and the
fixed-size table. -/

namespace Sys2Proof

/-- One byte of a frame or of a management row (chapter 11). -/
abbrev Byte := BitVec 8

/-- A 16-bit field: tick numbers (00_scope, Ticks), counter values, row numbers. -/
abbrev Word := BitVec 16

/-- A 4-bit serial or generation that wraps from 15 to 0 (00_scope, Serial numbers). -/
abbrev Serial := BitVec 4

/-- A table with exactly `n` rows. -/
abbrev Tbl (n : Nat) (α : Type) := Vector α n

end Sys2Proof
end

