-- ==== Sys2Proof/Syntax.lean ====
section
/-! DEFINITION. The commands of the GX-24: one constructor of `Instr` for each row of spec/opcode_table.json,
with the operands the rule of that row gives it. A frame's fields stand as the bytes and words of chapter 11. -/

namespace Sys2Proof

/-- The parties that may claim an axis (R109). -/
inductive Claimant where
  | exhibit (e : Fin 16)
  | headEnd
  | maintenance
  deriving DecidableEq, Repr

/-- The commands. Frames carry their payload fields as received; management commands carry the request tag
and the body (or, for the writable tables, the row number and the row contents) of chapter 11.3 and 11.4. -/
inductive Instr where
  /-- COLD_RESET (R187): none, RESET_N becomes asserted and stays so; else power-on is done or RESET_N becomes released,
  with what the straps NODE0 to NODE3 read (R179). -/
  | coldReset (straps : Option Serial)
  /-- ESTOP_ASSERTED (R125). -/
  | estopAsserted
  /-- ESTOP_RELEASED (R125). -/
  | estopReleased
  /-- SWEEP_START (R8). -/
  | sweepStart
  /-- SLOT_START (R7): the next slot of the sweep begins. -/
  | slotStart
  /-- DWELL_END (R96) of an axis. -/
  | dwellEnd (axis : Fin 8)
  /-- GUARD_SETTLE (R119) of an axis. -/
  | guardSettle (axis : Fin 8)
  /-- SLOT_END (R3): the slot ends; the bytes that came back after the delimiter, as sent on the line, or none. -/
  | slotEnd (reply : Option (List Byte))
  /-- STATION_LOST (R5). -/
  | stationLost (station : Fin 24)
  /-- QUERY_TIMEOUT (R17). -/
  | queryTimeout
  /-- CHAIN_FAULT_LOOP (R67) of an exhibit's runner. -/
  | chainFaultLoop (exhibit : Fin 16)
  /-- CROWDING (R58) of an exhibit. -/
  | crowding (exhibit : Fin 16)
  /-- GUARD_HELD (R120) of an axis. -/
  | guardHeld (axis : Fin 8)
  /-- CLAIM_TIMEOUT (R113) of one claimant's pending claim. -/
  | claimTimeout (axis : Fin 8) (claimant : Claimant)
  /-- ESCALATION (R140) of the record in a slot. -/
  | escalation (slot : Fin 64)
  /-- COOLDOWN_END (R56) of an exhibit. -/
  | cooldownEnd (exhibit : Fin 16)
  /-- WAIT_TICKS_END (R74) of an exhibit's runner. -/
  | waitTicksEnd (exhibit : Fin 16)
  /-- REFERRAL_TIMEOUT (R81) of an exhibit's runner. -/
  | referralTimeout (exhibit : Fin 16)
  /-- QUIET_TIMER_EXPIRY (R155). -/
  | quietTimerExpiry
  /-- IDLE_EXPIRY (R160) of an exhibit. -/
  | idleExpiry (exhibit : Fin 16)
  /-- LOCAL_TIMER_EXPIRY (R170). -/
  | localTimerExpiry
  /-- ISLAND_ENTRY (R169). -/
  | islandEntry
  /-- TICK (R168): tick number and command code. -/
  | tick (number : Word) (command : Byte)
  /-- CUE_FIRE (R175) of the schedule entry of an exhibit and due tick. -/
  | cueFire (exhibit : Fin 16) (due : Word)
  /-- DOWN_FRAME_DISCARDED (R180): the bytes that followed a delimiter on the trunk, as sent on the line. -/
  | downFrameDiscarded (bytes : List Byte)
  /-- CUE_FRAME (R173). -/
  | cueFrame (due : Word) (exhibit : Byte) (start : Word) (tag : Byte)
  /-- CUE_CANCEL (R174). -/
  | cueCancel (exhibit : Byte) (due : Word)
  /-- MOVE_FRAME (R115). -/
  | moveFrame (axis program mode : Byte)
  /-- HALT (R115). -/
  | halt (axis manner : Byte)
  /-- JOG (R116). -/
  | jog (axis : Byte) (target cruise : Word)
  /-- ACK_ALERT (R137). -/
  | ackAlert (slot generation : Byte)
  /-- VERDICT (R80). -/
  | verdict (exhibit serial verdict : Byte)
  /-- QUERY (R16). -/
  | query (station : Byte) (parameter : Word)
  /-- OUTPUT_LAMP (R13): the four payload bytes of an OUTPUT frame; the selector of this row is 0. -/
  | outputLamp (station selector lamp value : Byte)
  /-- OUTPUT_CUE (R14): the four payload bytes of an OUTPUT frame; the selector of this row is 1. -/
  | outputCue (station selector lamp value : Byte)
  /-- TABLE_READ (R185): the body is table id 1, row 2. -/
  | tableRead (tag : Byte) (body : List Byte)
  /-- TABLE_WRITE (R185) to a read-only or nonexistent table: the body is table id 1, row 2, contents. -/
  | tableWrite (tag : Byte) (body : List Byte)
  /-- STATION_ROW_WRITE (R1), table 1. -/
  | stationRowWrite (tag : Byte) (row : Word) (contents : List Byte)
  /-- SWEEP_SCHEDULE_WRITE (R7), table 2. -/
  | sweepScheduleWrite (tag : Byte) (row : Word) (contents : List Byte)
  /-- INPUT_MAP_WRITE (R24), table 3. -/
  | inputMapWrite (tag : Byte) (row : Word) (contents : List Byte)
  /-- TRIGGER_ROW_WRITE (R25), table 4. -/
  | triggerRowWrite (tag : Byte) (row : Word) (contents : List Byte)
  /-- ACTION_ENTRY_WRITE (R64), table 6. -/
  | actionEntryWrite (tag : Byte) (row : Word) (contents : List Byte)
  /-- EXHIBIT_CONFIG_WRITE (R40), table 7. -/
  | exhibitConfigWrite (tag : Byte) (row : Word) (contents : List Byte)
  /-- AXIS_PARAMETER_WRITE (R88), table 8. -/
  | axisParameterWrite (tag : Byte) (row : Word) (contents : List Byte)
  /-- PROGRAM_WRITE (R89), table 9. -/
  | programWrite (tag : Byte) (row : Word) (contents : List Byte)
  /-- SEGMENT_WRITE (R90), table 10. -/
  | segmentWrite (tag : Byte) (row : Word) (contents : List Byte)
  /-- ALERT_CLASS_WRITE (R130), table 11. -/
  | alertClassWrite (tag : Byte) (row : Word) (contents : List Byte)
  /-- ZONE_NEIGHBOUR_WRITE (R138), table 12. -/
  | zoneNeighbourWrite (tag : Byte) (row : Word) (contents : List Byte)
  /-- SETTINGS_WRITE (R186), table 15. -/
  | settingsWrite (tag : Byte) (row : Word) (contents : List Byte)
  /-- EXHIBIT_MODE (R42): the body is exhibit 1, mode 1. -/
  | exhibitMode (tag : Byte) (body : List Byte)
  /-- AXIS_ENABLE (R107): the body is axis 1, flag 1 with bit 0 set. -/
  | axisEnable (tag : Byte) (body : List Byte)
  /-- AXIS_DISABLE (R108): the body is axis 1, flag 1 with bit 0 clear. -/
  | axisDisable (tag : Byte) (body : List Byte)
  /-- SNAPSHOT (R162): the body is the clear flag 1. -/
  | snapshot (tag : Byte) (body : List Byte)
  /-- RESET_WARM (R188): the body is empty. -/
  | resetWarm (tag : Byte) (body : List Byte)
  /-- CLEAR_COLD (R187): the body is empty. -/
  | clearCold (tag : Byte) (body : List Byte)
  /-- UP_FRAME_SENT (R182). -/
  | upFrameSent
  /-- MGMT_UNKNOWN_OPERATION (R184). -/
  | mgmtUnknownOperation (tag operation : Byte) (body : List Byte)
  deriving DecidableEq, Repr

end Sys2Proof
end

