-- ==== Sys2Proof/Decode.lean ====
section
/-! DEFINITION. The command that a word spells by the opcode table's bits. No row of spec/opcode_table.json gives
bits (every row's "fields" is empty and none has "fixed"), so no word spells a command by the table.
The byte layouts of chapter 11 are read and written in Sys2Proof/Machine/Operands.lean, Rows.lean, Writes.lean and
Receive.lean. -/

namespace Sys2Proof

/-- The opcode table gives no row any bits: no word spells a command. -/
def decodeTableWord (_nbits _w : Nat) : Option Instr := none

end Sys2Proof
end

