-- ==== Sys2Proof/Config.lean ====
section
/-! DEFINITION. The free values: constants with no body, one for each point at which the manual leaves the
machine's answer open. Nothing can be proved of their values. -/

namespace Sys2Proof

/-- Which of several things that have come due together the part takes next, at choice point `n`
(R167, R175, R113, R50, R85: "in no order among themselves", "either may be taken first").
FREE VALUE, assumption 2. -/
opaque Config.freeChoice : Nat → Nat

/-- The answer word of a QUERY-REPLY whose result is not VALUE: R16 and chapter 11.3 give its place in the
frame and no value. FREE VALUE, assumption 12. -/
opaque Config.freeAnswer : Word

/-- The tag byte of a CUE-REPORT whose tag is absent (R174, R176): chapter 11.3 marks it by a flag and gives
the byte no value. FREE VALUE, assumption 12. -/
opaque Config.freeTag : Byte

end Sys2Proof
end

