-- ==== Sys2Proof/Machine/State.lean ====
section
/-! DEFINITION. The state of the GX-24: every table, record, register, counter, queue and pin the manual gives the
part, grouped by the block that owns it (00_scope, Block overview), and the machine right after reset. -/

namespace Sys2Proof.Machine

/-! ### Counters (00_scope, Counters; R20, R60, R86, R104, R127, R150, R161, R189) -/

/-- A 16-bit counter that stops at 65535 and then carries its saturation mark. -/
structure Counter where
  value : Word
  mark : Bool
  deriving DecidableEq, Repr

/-- A counter at 0 without mark. -/
def Counter.zero : Counter := ⟨0#16, false⟩

/-- The six counters of a station, in the order of the table of 1.9. -/
inductive StationCounter where
  | missed | crcErrors | duplicate | gap | stale | unmapped
  deriving DecidableEq, Repr

/-- The counters of an exhibit: R60's seventeen, then R86's six. -/
inductive ExhibitCounter where
  | accepted | queued | merged | refusedFull | refusedHeld | refusedClosed | ignoredDark | stale | cancelled | cleared
  | completed | aborted | attractRuns | attendantRuns | attendantDropped | showCuesRun | showCuesMissed
  | movesSkipped | referralsSent | verdictsTaken | referralsDefaulted | verdictsLate | verdictsStray
  deriving DecidableEq, Repr

/-- The counters of an axis: R104's five, then R127's, the fault counters in the order of chapter 11.4. -/
inductive AxisCounter where
  | heldSteps | clamps | programsStarted | programsDone | programsHalted
  | grants | preemptions | claimsRefused | claimsSkipped | guardOpenings | followingStrikes
  | faultDrive | faultLimit | faultFollowing | faultStation | faultEstop
  deriving DecidableEq, Repr

/-- The Alert Unit's four counters (R150). -/
inductive AlertCounter where
  | raisesLost | headEndAcks | strayAcks | keyAcks
  deriving DecidableEq, Repr

/-- The Trunk Port's eight counters (R189). -/
inductive TrunkCounter where
  | framesTaken | crcErrors | foreignFrames | typeErrors | lengthErrors | frameErrors | upFramesSent | upFramesDropped
  deriving DecidableEq, Repr

/-- Every live counter of the part (the table of 8.4). A snapshot copies this whole record at one instant (R162). -/
structure Counters where
  usage : Tbl 64 Counter
  exhibits : Tbl 16 (Tbl 23 Counter)
  stations : Tbl 24 (Tbl 6 Counter)
  axes : Tbl 8 (Tbl 16 Counter)
  alert : Tbl 4 Counter
  trunk : Tbl 8 Counter
  deriving DecidableEq, Repr

/-- Every counter 0 without mark. -/
def Counters.zero : Counters where
  usage := Vector.replicate 64 .zero
  exhibits := Vector.replicate 16 (Vector.replicate 23 .zero)
  stations := Vector.replicate 24 (Vector.replicate 6 .zero)
  axes := Vector.replicate 8 (Vector.replicate 16 .zero)
  alert := Vector.replicate 4 .zero
  trunk := Vector.replicate 8 .zero

/-- The snapshot bank (R162, R163): header and contents. -/
structure Bank where
  taken : Bool
  tick : Word
  clear : Bool
  contents : Counters
  deriving DecidableEq, Repr

/-! ### Sets -/

/-- A set of exhibits (hold targets, the held set). -/
abbrev ExhibitSet := Tbl 16 Bool

/-- A set of zones (zone sets, neighbour rows, reaches). -/
abbrev ZoneSet := Tbl 4 Bool

/-! ### Branch Scheduler (chapter 1) -/

/-- The kind of a station (1.1). -/
inductive StationKind where
  | panel | drive | beacon
  deriving DecidableEq, Repr

/-- The state of a station (1.2). -/
inductive StationState where
  | absent | joining | present | lost
  deriving DecidableEq, Repr

/-- A lamp pattern (R10). -/
inductive LampPattern where
  | off | on | slow | fast
  deriving DecidableEq, Repr

/-- A beacon pattern (R10, R141). -/
inductive BeaconPattern where
  | dark | steady | slow | fast | red
  deriving DecidableEq, Repr

/-- A station row, table 1 (1.1). -/
structure StationRow where
  enabled : Bool
  kind : StationKind
  zone : Fin 4
  home : Option (Fin 16)
  forwardUnmapped : Bool
  deriving DecidableEq, Repr

/-- A pending cue of an output image (R14). -/
structure PendingCue where
  number : Byte
  serial : Serial
  deriving DecidableEq, Repr

/-- What a DRIVE station last reported (1.5); position absent while none has been reported (R21). -/
structure DriveReport where
  position : Option Word
  ready : Bool
  fault : Bool
  lowLimit : Bool
  highLimit : Bool
  deriving DecidableEq, Repr

/-- Nothing reported, all flags clear (R21). -/
def DriveReport.none : DriveReport := ⟨Option.none, false, false, false, false⟩

/-- The class of an alert cause (R130, the table of 7.2). -/
inductive AlertCause where
  | none | drive | limit | following | station | estop | loop | freeEntry | trunkLost | overflow
  deriving DecidableEq, Repr

/-- The key of an alert record (7.2). -/
structure AlertKey where
  cls : Fin 16
  cause : AlertCause
  exhibit : Option (Fin 16)
  station : Option (Fin 24)
  axis : Option (Fin 8)
  deriving DecidableEq, Repr

/-- The runtime state and output image of a station (1.2, 1.6). -/
structure Station where
  state : StationState
  /-- consecutive misses, stops at 3 (R3) -/
  missCount : Fin 4
  /-- expected event serial (R12) -/
  expected : Serial
  /-- running cue serial, serial of the latest cue written, last-started serial and playing flag as reported (1.6) -/
  runningCue : Serial
  latestCue : Serial
  lastStarted : Serial
  cuePlaying : Bool
  /-- the output image (1.6) -/
  lamps : Tbl 8 LampPattern
  cue : Option PendingCue
  beacon : BeaconPattern
  /-- the level image: bit i is the level of input i (1.5) -/
  levels : Byte
  drive : DriveReport
  /-- its step point of this sweep is past (R9) -/
  stepped : Bool
  /-- the key of the STATION-LOST raise, while that condition holds (R134) -/
  lostKey : Option AlertKey
  deriving DecidableEq, Repr

/-- The poll whose reply is awaited in this slot (R3, R7). -/
structure Awaiting where
  station : Fin 24
  /-- the axis this poll's step point stepped (R9, R91) -/
  stepAxis : Option (Fin 8)
  /-- the poll carried the query parameter (R17) -/
  query : Bool
  /-- the reply is to be discarded (R2) -/
  discard : Bool
  deriving DecidableEq, Repr

/-- The pending query (R16). -/
structure PendingQuery where
  station : Fin 24
  parameter : Word
  polls : Nat
  deriving DecidableEq, Repr

/-- The Branch Scheduler. -/
structure Branch where
  rows : Tbl 24 StationRow
  stations : Tbl 24 Station
  schedule : Tbl 32 (Option (Fin 24))
  /-- the period code of the sweep in progress (R8) -/
  sweepCode : Fin 4
  /-- the slot that begins next, 32 when the sweep has none left (R7) -/
  nextSlot : Fin 33
  awaiting : Option Awaiting
  query : Option PendingQuery
  deriving DecidableEq, Repr

/-! ### Press Dispatcher (chapter 2) -/

/-- An input edge (1.5). -/
inductive Edge where
  | press | release
  deriving DecidableEq, Repr

/-- The class of a trigger row (2.2). -/
inductive RowClass where
  | visitor | help | attendant
  deriving DecidableEq, Repr

/-- The edge field of a trigger row (2.2). -/
inductive RowEdge where
  | press | release | hold
  deriving DecidableEq, Repr

/-- The style of a trigger row (2.2). -/
inductive RowStyle where
  | fresh | stepped
  deriving DecidableEq, Repr

/-- A trigger row, table 4 (2.2). -/
structure TriggerRow where
  exhibit : Option (Fin 16)
  cls : RowClass
  edge : RowEdge
  style : RowStyle
  start : Option (Fin 512)
  deriving DecidableEq, Repr

/-- The Press Dispatcher: input map, trigger rows, continuation table (R23, R25, R35). -/
structure Dispatcher where
  inputMap : Tbl 192 (Option (Fin 128))
  rows : Tbl 128 TriggerRow
  continuation : Tbl 128 (Option (Fin 1023))
  deriving DecidableEq, Repr

/-! ### Exhibit Controller (chapter 3) -/

/-- The members of the idle reload mask (3.1). -/
structure IdleMask where
  acceptedPress : Bool
  anyPress : Bool
  guardOpen : Bool
  chainEnd : Bool
  deriving DecidableEq, Repr

/-- The exhibit record, table 7 (3.1). -/
structure ExhibitRecord where
  zone : Fin 4
  axes : List (Fin 8)
  idleReload : Nat
  attract : Option (Fin 512)
  depth : Nat
  patience : Nat
  cooldown : Nat
  flood : Nat
  mask : IdleMask
  lamp : Option (Fin 24 × Fin 8)
  deriving DecidableEq, Repr

/-- The mode of an exhibit (3.2). -/
inductive Mode where
  | dark | service | pub | held
  deriving DecidableEq, Repr

/-- The activity of an exhibit (R49). -/
inductive Activity where
  | idle | engaged | cooldown
  deriving DecidableEq, Repr

/-- The origin of a request, from low to high (3.5). -/
inductive Origin where
  | attract | visitor | showCue | attendant
  deriving DecidableEq, Repr

/-- Who holds the runner: the origin and the trigger row (3.1). -/
structure Grant where
  origin : Origin
  row : Option (Fin 128)
  deriving DecidableEq, Repr

/-- An entry of a press queue (R51). -/
structure QueueEntry where
  row : Fin 128
  station : Fin 24
  input : Fin 8
  arrival : Word
  waited : Nat
  deriving DecidableEq, Repr

/-- An exhibit: its record and its running state (3.1). -/
structure Exhibit where
  record : ExhibitRecord
  mode : Mode
  activity : Activity
  grant : Option Grant
  /-- cooldown remaining -/
  cooldown : Nat
  queue : List QueueEntry
  /-- flood count -/
  flood : Nat
  deriving DecidableEq, Repr

/-! ### Chain Runner (chapter 4) -/

/-- A link: the next entry, 0 to 1022, or END (4.1). -/
inductive Link where
  | to (i : Fin 1023)
  | endOfChain
  deriving DecidableEq, Repr

/-- The run mode of a program (4.1, 5.3). -/
inductive RunMode where
  | once | loop
  deriving DecidableEq, Repr

/-- The manner of a halt (R98). -/
inductive Manner where
  | now | loopEnd
  deriving DecidableEq, Repr

/-- A verdict, or the default of a REFER action (4.7). -/
inductive Verdict where
  | go | stop
  deriving DecidableEq, Repr

/-- An action entry, table 6 (4.1). -/
inductive Action where
  | free
  | lamp (station : Fin 24) (output : Fin 8) (pattern : LampPattern) (link : Link)
  | cue (station : Fin 24) (number : Byte) (wait : Bool) (link : Link)
  | move (axis : Fin 8) (program : Fin 64) (mode : RunMode) (waitDone : Bool) (link : Link)
  | haltAxis (axis : Fin 8) (manner : Manner) (link : Link)
  | wait (ticks : Nat) (link : Link)
  | pause (link : Link)
  | alert (cls : Fin 16) (link : Link)
  | refer (tag : Byte) (timeout : Nat) (default : Verdict) (link stopLink : Link)
  | count (counter : Fin 64) (amount : Nat) (link : Link)
  deriving DecidableEq, Repr

/-- The state of a runner (4.2). -/
inductive RunnerState where
  | free | stepping | waitTicks | waitCue | waitClaim | waitDone | waitVerdict
  deriving DecidableEq, Repr

/-- A runner's context (4.2). -/
structure Runner where
  state : RunnerState
  origin : Origin
  row : Option (Fin 128)
  /-- the station and input pressed -/
  input : Option (Fin 24 × Fin 8)
  requestTick : Word
  /-- current action index -/
  index : Fin 1023
  /-- wait remaining -/
  wait : Nat
  steps : Nat
  /-- awaited station and cue serial -/
  awaitedCue : Option (Fin 24 × Serial)
  awaitedAxis : Option (Fin 8)
  lastReferral : Option Serial
  deriving DecidableEq, Repr

/-- The Chain Runner: action table and one runner per exhibit. -/
structure Chains where
  actions : Tbl 512 Action
  runners : Tbl 16 Runner
  deriving DecidableEq, Repr

/-! ### Motion Unit (chapters 5 and 6) -/

/-- The guard input of an axis (5.1). -/
structure GuardInput where
  station : Fin 24
  input : Fin 8
  openLevel : Bool
  deriving DecidableEq, Repr

/-- Arbitration among claims of equal origin (R111). -/
inductive Arbitration where
  | fixed | fair
  deriving DecidableEq, Repr

/-- Axis parameters, table 8 (5.1). -/
structure AxisParams where
  drive : Option (Fin 24)
  accel : Nat
  softMin : Int
  softMax : Int
  followLimit : Nat
  guard : Option GuardInput
  guardSettle : Nat
  guardTimeout : Nat
  claimTimeout : Nat
  arbitration : Arbitration
  deriving DecidableEq, Repr

/-- A program row, table 9 (5.2). -/
structure Program where
  first : Fin 256
  count : Nat
  deriving DecidableEq, Repr

/-- A segment row, table 10 (5.2): target and cruise in whole counts. -/
structure Segment where
  target : Int
  cruise : Nat
  dwell : Nat
  deriving DecidableEq, Repr

/-- What a claim asks to run: a program of the table, or a jog's own segment (R109, R116). -/
inductive Job where
  | program (p : Fin 64)
  | jog (segment : Segment)
  deriving DecidableEq, Repr

/-- The state of an axis (6.1). -/
inductive AxisState where
  | off | idle | running | dwell | halting | guardStop | fault
  deriving DecidableEq, Repr

/-- The state to return to from GUARD-STOP (5.3). -/
inductive ResumeState where
  | running | dwell | halting
  deriving DecidableEq, Repr

/-- The cause of an axis fault (6.5). -/
inductive FaultCause where
  | drive | limit | following | station | estop
  deriving DecidableEq, Repr

/-- The stored setpoint (R103): position in sixteenths and drive-enable. -/
structure Setpoint where
  position : Int
  enable : Bool
  deriving DecidableEq, Repr

/-- The owner of an axis: the claimant and the origin of its grant (R109). -/
structure Owner where
  claimant : Claimant
  origin : Origin
  deriving DecidableEq, Repr

/-- A pending claim (R109). -/
structure Claim where
  claimant : Claimant
  origin : Origin
  job : Job
  mode : RunMode
  timeLeft : Nat
  deriving DecidableEq, Repr

/-- An axis: its parameters, commanded state (5.3), ownership (6.2), guard (6.4) and fault state (6.5). -/
structure Axis where
  params : AxisParams
  state : AxisState
  /-- P, V, T and C of 5.3, in sixteenths -/
  position : Int
  velocity : Int
  target : Int
  cruise : Nat
  /-- the program or jog in progress -/
  job : Option Job
  mode : RunMode
  segIndex : Nat
  dwell : Nat
  stopAtLoopEnd : Bool
  resume : ResumeState
  clamped : Bool
  /-- the last step reply is good (R91) -/
  stepGood : Bool
  setpoint : Option Setpoint
  owner : Option Owner
  claims : List Claim
  lastOwner : Option Claimant
  /-- an AXIS-ENABLE with flag clear has been taken and OFF is not reached (R108) -/
  disabling : Bool
  guardOpen : Bool
  settleCount : Nat
  guardOpenTime : Nat
  /-- the key of the GUARD-HELD raise, while that condition holds (R120, R134) -/
  guardHeldKey : Option AlertKey
  strikes : Nat
  /-- following-error reference, in sixteenths (R122) -/
  reference : Int
  cause : Option FaultCause
  /-- fault-acknowledged mark (R124) -/
  acked : Bool
  /-- the key of the AXIS-FAULT raise of the current FAULT (R124, R134) -/
  faultKey : Option AlertKey
  deriving DecidableEq, Repr

/-- The Motion Unit's tables and axes. -/
structure Motion where
  axes : Tbl 8 Axis
  programs : Tbl 64 Program
  segments : Tbl 256 Segment
  deriving DecidableEq, Repr

/-! ### Alert Unit (chapter 7) -/

/-- A class's zone override (7.1). -/
inductive ZoneOverride where
  | none
  | zone (z : Fin 4)
  | all
  deriving DecidableEq, Repr

/-- A row of the alert class table, table 11 (7.1). -/
structure AlertClass where
  severity : Nat
  hold : Bool
  ackRequired : Bool
  interval : Nat
  maxTier : Nat
  zone : ZoneOverride
  deriving DecidableEq, Repr

/-- The state of a record (7.2): OPEN, OWNED, WAITING. The condition is present in the first two. -/
inductive AlertState where
  | opened | owned | waiting
  deriving DecidableEq, Repr

/-- An alert record (7.2); its generation is its slot's. -/
structure AlertRecord where
  key : AlertKey
  state : AlertState
  tier : Nat
  countdown : Nat
  repeats : Nat
  saturated : Bool
  raiseTick : Word
  severity : Nat
  hold : Bool
  ackRequired : Bool
  interval : Nat
  maxTier : Nat
  zones : ZoneSet
  target : ExhibitSet
  deriving DecidableEq, Repr

/-- A slot of the alert table: its generation and its record, or FREE (7.2). -/
structure AlertSlot where
  generation : Serial
  record : Option AlertRecord
  deriving DecidableEq, Repr

/-- The Alert Unit. -/
structure Alerts where
  classes : Tbl 16 AlertClass
  slots : Tbl 64 AlertSlot
  /-- the overflow record's two sets (R146): held exhibits, and lost axes with the key of the lost raise -/
  overflowHeld : ExhibitSet
  lostAxes : Tbl 8 (Option AlertKey)
  neighbours : Tbl 4 ZoneSet
  /-- the zone patterns last computed (R141) -/
  patterns : Tbl 4 BeaconPattern
  /-- the held set last given to the Exhibit Controller (R143) -/
  heldGiven : ExhibitSet
  deriving DecidableEq, Repr

/-! ### Gallery Clock, Activity Unit (chapters 8 and 9) -/

/-- The clock state (9.1). -/
inductive ClockState where
  | unsynced | locked | island
  deriving DecidableEq, Repr

/-- An entry of the cue schedule (9.4). -/
structure CueEntry where
  due : Word
  exhibit : Fin 16
  start : Fin 512
  tag : Byte
  deriving DecidableEq, Repr

/-- The Gallery Clock. -/
structure Clock where
  state : ClockState
  tick : Word
  silence : Nat
  schedule : List CueEntry
  missed : Nat
  deriving DecidableEq, Repr

/-- The gallery state (8.1). -/
inductive Gallery where
  | closed | opened | quiet
  deriving DecidableEq, Repr

/-- The Activity Unit, but for the usage counters, which stand with the others in `Counters`. -/
structure ActivityUnit where
  gallery : Gallery
  /-- quiet timer, remaining count (R155) -/
  quiet : Nat
  /-- idle timers, remaining counts (R158) -/
  idle : Tbl 16 Nat
  bank : Bank
  deriving DecidableEq, Repr

/-! ### Trunk Port (chapter 10) -/

/-- A reply code (R184). -/
inductive ReplyCode where
  | ok | range | live | invalid | busy | full | late | readOnly
  deriving DecidableEq, Repr

/-- A CUE-REPORT result (R176). -/
inductive CueResult where
  | accepted | ran | missedBusy | notPublic | missedJump | replaced | cancelled | late | full | range | invalid
  deriving DecidableEq, Repr

/-- A MOVE-REPLY result (R114). -/
inductive MoveResult where
  | granted | refused | skipped | done | halted | fault
  deriving DecidableEq, Repr

/-- The reason of a REFUSED MOVE-REPLY (R114). -/
inductive RefuseReason where
  | none | off | fault | disabling | live
  deriving DecidableEq, Repr

/-- A QUERY-REPLY result (R16). -/
inductive QueryResult where
  | value | timeout | busy | invalid | range
  deriving DecidableEq, Repr

/-- The state an ALERT-NOTICE carries (R148). -/
inductive NoticeState where
  | opened | owned | waiting | removed
  deriving DecidableEq, Repr

/-- The contents of a STATUS frame (R183). -/
structure StatusFrame where
  tick : Word
  clock : ClockState
  gallery : Gallery
  cold : Bool
  exhibits : Tbl 16 (Mode × Activity)
  zones : Tbl 4 BeaconPattern
  supervisor : Bool
  opened : Nat
  owned : Nat
  waiting : Nat
  axes : Tbl 8 AxisState
  present : Tbl 24 Bool
  lost : Tbl 24 Bool
  missed : Nat
  crcErrors : Counter
  typeErrors : Counter
  lengthErrors : Counter
  frameErrors : Counter
  upFramesDropped : Counter
  deriving DecidableEq, Repr

/-- An up frame, built with its contents as they stand at the moment of giving (R182, 10.3). -/
inductive UpFrame where
  | status (body : StatusFrame)
  | mgmtReply (tag operation : Byte) (code : ReplyCode) (table : Byte) (row : Word) (contents : List Byte)
  | referral (exhibit : Fin 16) (serial : Serial) (tag : Byte) (row : Option (Fin 128))
      (input : Option (Fin 24 × Fin 8)) (tick : Word)
  | alertNotice (slot : Fin 64) (generation : Serial) (key : AlertKey) (state : NoticeState) (tier repeats : Nat)
      (saturated : Bool) (raiseTick tick : Word)
  | cueReport (exhibit : Byte) (due : Word) (tag : Option Byte) (result : CueResult) (tick : Word)
  | moveReply (axis : Fin 8) (maintenance : Bool) (program : Option (Fin 64)) (result : MoveResult)
      (reason : RefuseReason)
  | queryReply (station : Byte) (parameter : Word) (result : QueryResult) (answer : Option Word)
  | inputReport (station : Fin 24) (input : Fin 8) (edge : Edge) (tick : Word)
  deriving DecidableEq, Repr

/-- The Trunk Port (chapter 10), but for its counters, which stand with the others in `Counters`. -/
structure Trunk where
  node : Serial
  coldFlag : Bool
  upQueue : List UpFrame
  /-- the settings row, table 15 (R186) -/
  period : Fin 4
  quietReload : Nat
  deriving DecidableEq, Repr

/-! ### Notices in flight, the whole part, the machine -/

/-- A notice between blocks that has been given and not yet taken, or a runner with actions to execute.
Every command ends by delivering them all (assumption 2). -/
inductive Work where
  /-- the runner of the exhibit is STEPPING and has an entry to execute (R66) -/
  | run (e : Fin 16)
  /-- the Chain Runner reports the end of a chain of this origin to the Exhibit Controller (R55) -/
  | ended (e : Fin 16) (origin : Origin)
  /-- the Alert Unit gives the Exhibit Controller a new held set (R46) -/
  | held (set : ExhibitSet)
  /-- a cooldown has reached 0 (R56) -/
  | cooldownEnd (e : Fin 16)
  /-- a WAIT has reached 0 (R74) -/
  | waitEnd (e : Fin 16)
  /-- a referral's timeout has reached 0 (R81) -/
  | referralTimeout (e : Fin 16)
  /-- a pending claim's time has reached 0 (R113) -/
  | claimTimeout (a : Fin 8) (c : Claimant)
  /-- a guard-open time has reached the guard timeout (R120) -/
  | guardHeld (a : Fin 8)
  /-- the quiet timer has reached 0 (R155) -/
  | quietExpiry
  /-- an idle timer has reached 0 (R160) -/
  | idleExpiry (e : Fin 16)
  /-- a show cue has fallen due (R175) -/
  | fireCue (c : CueEntry)
  /-- the command of a TICK frame, to be applied after the Activity Unit's count: OPEN or CLOSE (R153) -/
  | gallery (opens : Bool)
  deriving DecidableEq, Repr

/-- Everything of the part but the queue of waiting commands. -/
structure Gx24 where
  /-- ESTOP_N is asserted (input pin) -/
  estop : Bool
  /-- RESET_N is asserted (input pin, R187) -/
  resetLow : Bool
  /-- MOTION_PWR is asserted (output pin, R126) -/
  motionPower : Bool
  /-- SUPERVISOR is asserted (output pin, R142) -/
  supervisor : Bool
  /-- the bytes of the poll sent in the slot in progress, empty when the slot is idle (branch pins, R10) -/
  branchOut : List Byte
  /-- the bytes of the up frame last sent whole (trunk pins, R182) -/
  trunkOut : List Byte
  tp : Trunk
  gc : Clock
  bs : Branch
  pd : Dispatcher
  exhibits : Tbl 16 Exhibit
  cr : Chains
  mu : Motion
  au : Alerts
  ac : ActivityUnit
  counters : Counters
  /-- the model's own: notices in flight (assumption 2) -/
  work : List Work
  /-- the model's own: coming choices at points the manual leaves open, used before the free ones (assumption 2) -/
  choices : List Nat
  /-- the model's own: how many free choices have been made (assumption 2) -/
  choicePoint : Nat
  deriving DecidableEq, Repr

/-- The machine: the part, and the commands waiting, first in first out. -/
structure State where
  part : Gx24
  pending : List Instr
  deriving DecidableEq, Repr

/-! ### Cold values -/

/-- A station row after a cold reset (R21). -/
def StationRow.cold : StationRow := ⟨false, .panel, 0, none, false⟩

/-- A station after a cold reset (R21). -/
def Station.cold : Station where
  state := .absent
  missCount := 0
  expected := 0#4
  runningCue := 0#4
  latestCue := 0#4
  lastStarted := 0#4
  cuePlaying := false
  lamps := Vector.replicate 8 .off
  cue := none
  beacon := .dark
  levels := 0#8
  drive := .none
  stepped := false
  lostKey := none

/-- The Branch Scheduler after a cold reset (R21); the first sweep begins at slot 0. -/
def Branch.cold : Branch where
  rows := Vector.replicate 24 .cold
  stations := Vector.replicate 24 .cold
  schedule := Vector.replicate 32 none
  sweepCode := 3
  nextSlot := 0
  awaiting := none
  query := none

/-- A trigger row after a cold reset (R39). -/
def TriggerRow.cold : TriggerRow := ⟨none, .visitor, .press, .fresh, none⟩

/-- The Press Dispatcher after a cold reset (R39). -/
def Dispatcher.cold : Dispatcher where
  inputMap := Vector.replicate 192 none
  rows := Vector.replicate 128 .cold
  continuation := Vector.replicate 128 none

/-- An exhibit record after a cold reset (R61). -/
def ExhibitRecord.cold : ExhibitRecord where
  zone := 0
  axes := []
  idleReload := 0
  attract := none
  depth := 0
  patience := 0
  cooldown := 0
  flood := 0
  mask := ⟨false, false, false, false⟩
  lamp := none

/-- An exhibit after a cold reset (R61). -/
def Exhibit.cold : Exhibit where
  record := .cold
  mode := .dark
  activity := .idle
  grant := none
  cooldown := 0
  queue := []
  flood := 0

/-- A runner after a cold reset (R87). -/
def Runner.cold : Runner where
  state := .free
  origin := .attract
  row := none
  input := none
  requestTick := 0#16
  index := 0
  wait := 0
  steps := 0
  awaitedCue := none
  awaitedAxis := none
  lastReferral := none

/-- The Chain Runner after a cold reset (R87). -/
def Chains.cold : Chains where
  actions := Vector.replicate 512 .free
  runners := Vector.replicate 16 .cold

/-- An axis row after a cold reset (R105). -/
def AxisParams.cold : AxisParams where
  drive := none
  accel := 1
  softMin := 0
  softMax := 0
  followLimit := 1
  guard := none
  guardSettle := 1
  guardTimeout := 0
  claimTimeout := 1
  arbitration := .fixed

/-- An axis after a cold reset (R105, R128). -/
def Axis.cold : Axis where
  params := .cold
  state := .off
  position := 0
  velocity := 0
  target := 0
  cruise := 0
  job := none
  mode := .once
  segIndex := 0
  dwell := 0
  stopAtLoopEnd := false
  resume := .running
  clamped := false
  stepGood := true
  setpoint := none
  owner := none
  claims := []
  lastOwner := none
  disabling := false
  guardOpen := false
  settleCount := 0
  guardOpenTime := 0
  guardHeldKey := none
  strikes := 0
  reference := 0
  cause := none
  acked := false
  faultKey := none

/-- The Motion Unit after a cold reset (R105, R128). -/
def Motion.cold : Motion where
  axes := Vector.replicate 8 .cold
  programs := Vector.replicate 64 ⟨0, 1⟩
  segments := Vector.replicate 256 ⟨0, 1, 0⟩

/-- The class table after a cold reset (the table of 7.1). -/
def coldClasses : Tbl 16 AlertClass := #v[
  ⟨3, true, true, 300, 3, .all⟩,
  ⟨3, true, true, 300, 3, .none⟩,
  ⟨2, false, true, 600, 2, .none⟩,
  ⟨1, false, false, 0, 1, .none⟩,
  ⟨2, false, true, 600, 3, .none⟩,
  ⟨1, false, true, 0, 1, .none⟩,
  ⟨2, true, true, 0, 1, .none⟩,
  ⟨2, false, true, 0, 1, .all⟩,
  ⟨1, false, true, 0, 1, .none⟩, ⟨1, false, true, 0, 1, .none⟩, ⟨1, false, true, 0, 1, .none⟩,
  ⟨1, false, true, 0, 1, .none⟩, ⟨1, false, true, 0, 1, .none⟩, ⟨1, false, true, 0, 1, .none⟩,
  ⟨1, false, true, 0, 1, .none⟩, ⟨1, false, true, 0, 1, .none⟩]

/-- No exhibit. -/
def noExhibits : ExhibitSet := Vector.replicate 16 false

/-- No zone. -/
def noZones : ZoneSet := Vector.replicate 4 false

/-- The Alert Unit after a cold reset (R151). -/
def Alerts.cold : Alerts where
  classes := coldClasses
  slots := Vector.replicate 64 ⟨0#4, none⟩
  overflowHeld := noExhibits
  lostAxes := Vector.replicate 8 none
  neighbours := Vector.replicate 4 noZones
  patterns := Vector.replicate 4 .dark
  heldGiven := noExhibits

/-- The Gallery Clock after a cold reset (R177). -/
def Clock.cold : Clock := ⟨.unsynced, 0#16, 0, [], 0⟩

/-- The snapshot bank after a cold reset (R164). -/
def Bank.cold : Bank := ⟨false, 0#16, false, .zero⟩

/-- The Activity Unit after a cold reset (R164). -/
def ActivityUnit.cold : ActivityUnit := ⟨.closed, 0, Vector.replicate 16 0, .cold⟩

/-- The Trunk Port after a cold reset with these straps (R179, R187). -/
def Trunk.cold (straps : Serial) : Trunk := ⟨straps, true, [], 3, 0⟩

/-- Every block at its cold values, with RESET_N and ESTOP_N released (R187): MOTION_PWR is asserted (R128),
SUPERVISOR deasserted (R151). -/
def Gx24.cold (straps : Serial) : Gx24 where
  estop := false
  resetLow := false
  motionPower := true
  supervisor := false
  branchOut := []
  trunkOut := []
  tp := .cold straps
  gc := .cold
  bs := .cold
  pd := .cold
  exhibits := Vector.replicate 16 .cold
  cr := .cold
  mu := .cold
  au := .cold
  ac := .cold
  counters := .zero
  work := []
  choices := []
  choicePoint := 0

/-- The machine right after power-on with the straps reading 0 and ESTOP_N released (assumption 3), no command
waiting. -/
def State.reset : State := ⟨Gx24.cold 0#4, []⟩

/-! ### How a step can stop -/

/-- No command stops the part: the manual gives every command of the table an effect in every state, so no fault
has a constructor. -/
inductive Fault where
  deriving DecidableEq, Repr

/-- The refusals. -/
inductive Refusal where
  /-- Raised by `exec` for a command that has no meaning yet (none is left); safe. -/
  | notModelled (mnemonic : String)
  deriving DecidableEq, Repr

end Sys2Proof.Machine
end

