-- ==== Sys2Proof/Machine/Ops.lean ====
section
/-! DEFINITION. The named operations over the part's tables, counters, queues and images that the meanings share. -/

namespace Sys2Proof.Machine

/-! ### Tables -/

/-- Row `i` of a table. -/
def tget {α : Type} {n : Nat} (t : Tbl n α) (i : Fin n) : α := t[i.val]

/-- The table with row `i` replaced. -/
def tput {α : Type} {n : Nat} (t : Tbl n α) (i : Fin n) (x : α) : Tbl n α := t.set i.val x

/-- The table with row `i` changed by `f`. -/
def tmod {α : Type} {n : Nat} (t : Tbl n α) (i : Fin n) (f : α → α) : Tbl n α := tput t i (f (tget t i))

/-- The table whose row `i` is `f i`. -/
def tmake {α : Type} {n : Nat} (f : Fin n → α) : Tbl n α := Vector.ofFn f

/-- Some row below `n` has the property. -/
def anyRow {n : Nat} (p : Fin n → Bool) : Bool := (List.finRange n).any p

/-- The lowest row below `n` that has the property. -/
def firstRow {n : Nat} (p : Fin n → Bool) : Option (Fin n) := (List.finRange n).find? p

/-- The number of rows below `n` that have the property. -/
def countRows {n : Nat} (p : Fin n → Bool) : Nat := ((List.finRange n).filter p).length

/-- `f` applied for every row below `n`, in rising order. -/
def forRows {n : Nat} {σ : Type} (f : Fin n → σ → σ) (s : σ) : σ := (List.finRange n).foldl (fun s i => f i s) s

/-- `f` applied for every entry of the list, in its order. -/
def forList {α σ : Type} (l : List α) (f : α → σ → σ) (s : σ) : σ := l.foldl (fun s x => f x s) s

/-! ### Counters (00_scope, Counters; R20, R161) -/

/-- A counter increased by `k`: it stops at 65535 and then carries its mark (R20, R161). -/
def Counter.add (k : Nat) (c : Counter) : Counter :=
  if c.value.toNat + k < 65535 then ⟨BitVec.ofNat 16 (c.value.toNat + k), c.mark⟩ else ⟨65535#16, true⟩

/-- The place of a station counter in its row (1.9). -/
def StationCounter.index : StationCounter → Fin 6
  | .missed => 0 | .crcErrors => 1 | .duplicate => 2 | .gap => 3 | .stale => 4 | .unmapped => 5

/-- The place of an exhibit counter in its row (R60, then R86). -/
def ExhibitCounter.index : ExhibitCounter → Fin 23
  | .accepted => 0 | .queued => 1 | .merged => 2 | .refusedFull => 3 | .refusedHeld => 4 | .refusedClosed => 5
  | .ignoredDark => 6 | .stale => 7 | .cancelled => 8 | .cleared => 9 | .completed => 10 | .aborted => 11
  | .attractRuns => 12 | .attendantRuns => 13 | .attendantDropped => 14 | .showCuesRun => 15 | .showCuesMissed => 16
  | .movesSkipped => 17 | .referralsSent => 18 | .verdictsTaken => 19 | .referralsDefaulted => 20
  | .verdictsLate => 21 | .verdictsStray => 22

/-- The place of an axis counter in its row (R104, then R127). -/
def AxisCounter.index : AxisCounter → Fin 16
  | .heldSteps => 0 | .clamps => 1 | .programsStarted => 2 | .programsDone => 3 | .programsHalted => 4
  | .grants => 5 | .preemptions => 6 | .claimsRefused => 7 | .claimsSkipped => 8 | .guardOpenings => 9
  | .followingStrikes => 10 | .faultDrive => 11 | .faultLimit => 12 | .faultFollowing => 13 | .faultStation => 14
  | .faultEstop => 15

/-- The place of an Alert Unit counter in its row (R150). -/
def AlertCounter.index : AlertCounter → Fin 4
  | .raisesLost => 0 | .headEndAcks => 1 | .strayAcks => 2 | .keyAcks => 3

/-- The place of a Trunk Port counter in its row (R189). -/
def TrunkCounter.index : TrunkCounter → Fin 8
  | .framesTaken => 0 | .crcErrors => 1 | .foreignFrames => 2 | .typeErrors => 3 | .lengthErrors => 4
  | .frameErrors => 5 | .upFramesSent => 6 | .upFramesDropped => 7

/-- A station counter grows by `k` (R20). -/
def growStation (st : Fin 24) (c : StationCounter) (k : Nat) (s : Gx24) : Gx24 :=
  { s with counters := { s.counters with
      stations := tmod s.counters.stations st (fun r => tmod r c.index (Counter.add k)) } }

/-- An exhibit counter grows by `k` (R60, R86). -/
def growExhibit (e : Fin 16) (c : ExhibitCounter) (k : Nat) (s : Gx24) : Gx24 :=
  { s with counters := { s.counters with
      exhibits := tmod s.counters.exhibits e (fun r => tmod r c.index (Counter.add k)) } }

/-- An axis counter grows by one (R104, R127). -/
def growAxis (a : Fin 8) (c : AxisCounter) (s : Gx24) : Gx24 :=
  { s with counters := { s.counters with
      axes := tmod s.counters.axes a (fun r => tmod r c.index (Counter.add 1)) } }

/-- An Alert Unit counter grows by one (R150). -/
def growAlert (c : AlertCounter) (s : Gx24) : Gx24 :=
  { s with counters := { s.counters with alert := tmod s.counters.alert c.index (Counter.add 1) } }

/-- A Trunk Port counter grows by one (R189). -/
def growTrunk (c : TrunkCounter) (s : Gx24) : Gx24 :=
  { s with counters := { s.counters with trunk := tmod s.counters.trunk c.index (Counter.add 1) } }

/-- A general usage counter grows by `k` (R73, R161). -/
def growUsage (i : Fin 64) (k : Nat) (s : Gx24) : Gx24 :=
  { s with counters := { s.counters with usage := tmod s.counters.usage i (Counter.add k) } }

/-! ### The parts of the state by name -/

/-- The station's runtime state changed by `f`. -/
def modStation (st : Fin 24) (f : Station → Station) (s : Gx24) : Gx24 :=
  { s with bs := { s.bs with stations := tmod s.bs.stations st f } }

/-- The exhibit changed by `f`. -/
def modExhibit (e : Fin 16) (f : Exhibit → Exhibit) (s : Gx24) : Gx24 :=
  { s with exhibits := tmod s.exhibits e f }

/-- The exhibit's runner changed by `f`. -/
def modRunner (e : Fin 16) (f : Runner → Runner) (s : Gx24) : Gx24 :=
  { s with cr := { s.cr with runners := tmod s.cr.runners e f } }

/-- The axis changed by `f`. -/
def modAxis (a : Fin 8) (f : Axis → Axis) (s : Gx24) : Gx24 :=
  { s with mu := { s.mu with axes := tmod s.mu.axes a f } }

/-- The station as it stands. -/
def stationOf (st : Fin 24) (s : Gx24) : Station := tget s.bs.stations st

/-- The station's row as it stands. -/
def rowOf (st : Fin 24) (s : Gx24) : StationRow := tget s.bs.rows st

/-- The exhibit as it stands. -/
def exhibitOf (e : Fin 16) (s : Gx24) : Exhibit := tget s.exhibits e

/-- The exhibit's runner as it stands. -/
def runnerOf (e : Fin 16) (s : Gx24) : Runner := tget s.cr.runners e

/-- The axis as it stands. -/
def axisOf (a : Fin 8) (s : Gx24) : Axis := tget s.mu.axes a

/-- The trigger row as it stands. -/
def triggerOf (r : Fin 128) (s : Gx24) : TriggerRow := tget s.pd.rows r

/-- The action entry an index names; an index above 511 names none and reads as FREE (4.1, R68). -/
def actionAt (i : Fin 1023) (s : Gx24) : Action :=
  if h : i.val < 512 then tget s.cr.actions ⟨i.val, h⟩ else .free

/-! ### Notices in flight (assumption 2) -/

/-- A notice is given: it stands behind those already in flight. -/
def post (w : Work) (s : Gx24) : Gx24 := { s with work := s.work ++ [w] }

/-- The notice is a new held set. -/
def Work.isHeld : Work → Bool
  | .held _ => true
  | _ => false

/-- A new held set is given: it stands behind earlier held sets and before every other notice (R46, R85). -/
def postHeld (h : ExhibitSet) (s : Gx24) : Gx24 :=
  { s with work := s.work.takeWhile Work.isHeld ++ .held h :: s.work.dropWhile Work.isHeld }

/-- The notice is a report of the end of a chain on this exhibit, or its runner's turn to execute an entry. -/
def Work.isRunnerOf (e : Fin 16) : Work → Bool
  | .ended e' _ => e' = e
  | .run e' => e' = e
  | _ => false

/-- Nothing of the exhibit's earlier chain is in flight any more: another request takes the runner, or the Exhibit
Controller has vacated it (R55, R45, R47, R59). -/
def dropEnded (e : Fin 16) (s : Gx24) : Gx24 := { s with work := s.work.filter (fun w => !w.isRunnerOf e) }

/-- A number the manual leaves open (assumption 2): the next of the coming choices, or a free value. -/
def openChoice (s : Gx24) : Nat × Gx24 :=
  match s.choices with
  | c :: rest => (c, { s with choices := rest })
  | [] => (Config.freeChoice s.choicePoint, { s with choicePoint := s.choicePoint + 1 })

/-! ### The up queue (R182) -/

/-- The most frames the up queue holds (R182). -/
def upQueueDepth : Nat := 64

/-- An up frame is given: put at the tail of the up queue, or dropped and counted while 64 frames wait (R182). -/
def sendUp (f : UpFrame) (s : Gx24) : Gx24 :=
  if s.tp.upQueue.length < upQueueDepth then { s with tp := { s.tp with upQueue := s.tp.upQueue ++ [f] } }
  else growTrunk .upFramesDropped s

/-- Several up frames, in the order given. -/
def sendAll (fs : List UpFrame) (s : Gx24) : Gx24 := forList fs sendUp s

/-! ### Output images (R13) -/

/-- A lamp write: the last write to a lamp output is held, whichever writer made it (R13). -/
def writeLamp (st : Fin 24) (out : Fin 8) (p : LampPattern) (s : Gx24) : Gx24 :=
  modStation st (fun x => { x with lamps := tput x.lamps out p }) s

/-- The Alert Unit writes a station's beacon pattern (R13, R141). -/
def writeBeacon (st : Fin 24) (p : BeaconPattern) (s : Gx24) : Gx24 :=
  modStation st (fun x => { x with beacon := p }) s

/-- The pattern a mode shows on the status lamp (R48). -/
def modePattern : Mode → LampPattern
  | .pub => .on
  | .held => .slow
  | .service => .off
  | .dark => .off

/-- The mode's pattern is written to the exhibit's status lamp, when one is configured (R48). -/
def showMode (e : Fin 16) (s : Gx24) : Gx24 :=
  match (exhibitOf e s).record.lamp with
  | some (st, out) => writeLamp st out (modePattern (exhibitOf e s).mode) s
  | none => s

/-! ### Idle and quiet timers (R156, R159) -/

/-- The exhibit's idle timer is reloaded (R159). -/
def reloadIdle (e : Fin 16) (s : Gx24) : Gx24 :=
  { s with ac := { s.ac with idle := tput s.ac.idle e (exhibitOf e s).record.idleReload } }

/-- A mask event of the exhibit reloads its idle timer when the mask holds the member (R159). -/
def maskEvent (e : Fin 16) (member : IdleMask → Bool) (s : Gx24) : Gx24 :=
  if member (exhibitOf e s).record.mask then reloadIdle e s else s

/-- The quiet timer is reloaded (R156). -/
def reloadQuiet (s : Gx24) : Gx24 := { s with ac := { s.ac with quiet := s.tp.quietReload } }

/-- A press notice of the Press Dispatcher: it reloads the idle timer by ANY-PRESS, and a visitor press reloads the
quiet timer and returns a QUIET gallery to OPEN (R27, R156). -/
def pressNotice (e : Fin 16) (visitor : Bool) (s : Gx24) : Gx24 :=
  let s := maskEvent e (·.anyPress) s
  if visitor then
    let s := reloadQuiet s
    if s.ac.gallery = .quiet then { s with ac := { s.ac with gallery := .opened } } else s
  else s

/-! ### The continuation table (R35 to R38) -/

/-- The continuation entries of every row of the exhibit become EMPTY (R38). -/
def clearStories (e : Fin 16) (s : Gx24) : Gx24 :=
  { s with pd := { s.pd with continuation := tmake fun r =>
      if (triggerOf r s).exhibit = some e then none else tget s.pd.continuation r } }

/-- The Press Dispatcher hears of a PAUSE: the link is stored for a STEPPED row whose exhibit is PUBLIC (R37). -/
def storePause (row : Option (Fin 128)) (link : Link) (s : Gx24) : Gx24 :=
  match row, link with
  | some r, .to i =>
    match (triggerOf r s).exhibit with
    | some x =>
      if (triggerOf r s).style = .stepped ∧ (exhibitOf x s).mode = .pub then
        { s with pd := { s.pd with continuation := tput s.pd.continuation r (some i) } }
      else s
    | none => s
  | _, _ => s

/-- The index an absent start action is taken as: it names no entry, so the chain ends at once with FREE-ENTRY
(R36, R68; assumption 9). -/
def noStart : Fin 1023 := 1022

/-- An action entry number as an index. -/
def entryIndex (a : Fin 512) : Fin 1023 := ⟨a.val, Nat.lt_trans a.isLt (by decide)⟩

/-- The start index of a chain that carries a row, read and emptied in one step (R36). -/
def startIndex (r : Fin 128) (s : Gx24) : Fin 1023 × Gx24 :=
  let fresh := match (triggerOf r s).start with | some a => entryIndex a | none => noStart
  match (triggerOf r s).style, tget s.pd.continuation r with
  | .stepped, some i => (i, { s with pd := { s.pd with continuation := tput s.pd.continuation r none } })
  | _, _ => (fresh, s)

end Sys2Proof.Machine
end

