-- ==== Sys2Proof/Machine/Flags.lean ====
section
/-! DEFINITION. The outputs and conditions that the manual gives as functions of the part's records: the held set,
the zone patterns, SUPERVISOR, MOTION_PWR, drive-enable, and whether a guard is open. -/

namespace Sys2Proof.Machine

/-! ### Alert classes (7.1) -/

/-- Class numbers of the hardware classes (7.1). -/
def clsEstop : Fin 16 := 0
def clsAxisFault : Fin 16 := 1
def clsStationLost : Fin 16 := 2
def clsGuardHeld : Fin 16 := 3
def clsHelp : Fin 16 := 4
def clsCrowding : Fin 16 := 5
def clsChainFault : Fin 16 := 6
def clsSystem : Fin 16 := 7

/-- HELP, CROWDING, CHAIN-FAULT and the user classes are momentary (7.1). -/
def momentary (c : Fin 16) : Bool := c = clsHelp ∨ c = clsCrowding ∨ c = clsChainFault ∨ 8 ≤ c.val

/-- The classes whose hold and acknowledge-required fields are forced to yes (R130). -/
def forcedClass (c : Fin 16) : Bool := c = clsEstop ∨ c = clsAxisFault

/-! ### Alert records -/

/-- The slot that holds the overflow record (7.7). -/
def overflowSlot : Fin 64 := 63

/-- The slot is one of the general slots 0 to 62 (7.2). -/
def isGeneral (i : Fin 64) : Bool := i.val < 63

/-- The record in a slot. -/
def recordAt (i : Fin 64) (s : Gx24) : Option AlertRecord := (tget s.au.slots i).record

/-- A record is unacknowledged in OPEN and WAITING (7.2). -/
def AlertRecord.unacked (r : AlertRecord) : Bool := r.state ≠ .owned

/-- The exhibit, if the record names one, is DARK (R140, R141, R142). -/
def exhibitDark (x : Option (Fin 16)) (s : Gx24) : Bool :=
  match x with
  | some e => (exhibitOf e s).mode = .dark
  | none => false

/-- The exhibits whose axis list names the axis. -/
def lists (e : Fin 16) (a : Fin 8) (s : Gx24) : Bool := (exhibitOf e s).record.axes.contains a

/-- The lowest-numbered exhibit whose axis list names the axis (R120, R123). -/
def lowestListing (a : Fin 8) (s : Gx24) : Option (Fin 16) := firstRow (fun e => lists e a s)

/-- The held set: the union of the hold targets of every record and the overflow held set (R143). -/
def currentHeld (s : Gx24) : ExhibitSet := tmake fun e =>
  tget s.au.overflowHeld e ||
    anyRow (n := 64) (fun i => match recordAt i s with | some r => tget r.target e | none => false)

/-- The reach of a record contains the zone (R139). -/
def reaches (r : AlertRecord) (z : Fin 4) (s : Gx24) : Bool :=
  if r.tier ≤ 1 then tget r.zones z
  else if r.tier = 2 then tget r.zones z || anyRow (n := 4) (fun y => tget r.zones y && tget (tget s.au.neighbours y) z)
  else true

/-- The record counts toward the zone's pattern: its reach contains the zone, and it names no exhibit or one that is
not DARK (R141). -/
def shows (r : AlertRecord) (z : Fin 4) (s : Gx24) : Bool := reaches r z s && !exhibitDark r.key.exhibit s

/-- Some record that counts toward the zone's pattern has the property. -/
def someShown (z : Fin 4) (p : AlertRecord → Bool) (s : Gx24) : Bool :=
  anyRow (n := 64) (fun i => match recordAt i s with | some r => shows r z s && p r | none => false)

/-- The zone's beacon pattern (R141). -/
def zonePattern (z : Fin 4) (s : Gx24) : BeaconPattern :=
  if someShown z (fun r => r.unacked && decide (r.severity ≥ 3)) s then .red
  else if someShown z (fun r => r.unacked && decide (r.severity = 2)) s then .fast
  else if someShown z (fun r => r.unacked) s then .slow
  else if someShown z (fun r => decide (r.state = .owned)) s then .steady
  else .dark

/-- SUPERVISOR is asserted if and only if an unacknowledged record at tier 3 exists whose exhibit, if it names one, is
not DARK (R142). -/
def supervisorCall (s : Gx24) : Bool :=
  anyRow (n := 64) (fun i => match recordAt i s with
    | some r => r.unacked && decide (r.tier ≥ 3) && !exhibitDark r.key.exhibit s
    | none => false)

/-- An ESTOP-class record exists (R126, R144). -/
def estopRecordStands (s : Gx24) : Bool :=
  anyRow (n := 64) (fun i => match recordAt i s with | some r => decide (r.key.cls = clsEstop) | none => false)

/-- MOTION_PWR is asserted when ESTOP_N is released and no ESTOP-class record exists (R126), but not while RESET_N is
asserted (R187). -/
def powerOn (s : Gx24) : Bool := !s.estop && !s.resetLow && !estopRecordStands s

/-! ### Guards and drives -/

/-- The station fills at least one slot of the sweep schedule. -/
def hasSlot (st : Fin 24) (s : Gx24) : Bool := anyRow (n := 32) (fun i => tget s.bs.schedule i = some st)

/-- The level of an input in the stored level image. -/
def inputLevel (st : Fin 24) (i : Fin 8) (s : Gx24) : Bool := (stationOf st s).levels.getLsbD i.val

/-- The guard is open when its station is not PRESENT, fills no slot, or shows the open level; an absent guard is
always closed (R117). -/
def guardIsOpen (a : Fin 8) (s : Gx24) : Bool :=
  match (axisOf a s).params.guard with
  | none => false
  | some g =>
    decide ((stationOf g.station s).state ≠ .present) || !hasSlot g.station s
      || inputLevel g.station g.input s == g.openLevel

/-- Drive-enable of the setpoint of an axis in this state (R103). -/
def driveEnable (st : AxisState) (estop : Bool) : Bool := decide (st ≠ .off) && decide (st ≠ .fault) && !estop

/-- The axis that is not OFF and names the station as its drive station. -/
def axisOnDrive (st : Fin 24) (s : Gx24) : Option (Fin 8) :=
  firstRow (fun a => decide ((axisOf a s).params.drive = some st) && decide ((axisOf a s).state ≠ .off))

/-- The axis that is not OFF names the station as its drive station or its guard station (R1). -/
def usesStation (a : Fin 8) (st : Fin 24) (s : Gx24) : Bool :=
  decide ((axisOf a s).state ≠ .off) &&
    (decide ((axisOf a s).params.drive = some st) ||
      (match (axisOf a s).params.guard with | some g => decide (g.station = st) | none => false))

/-- The program is active: an axis in RUNNING, DWELL, HALTING or GUARD-STOP has it in progress (R89). -/
def programActive (p : Fin 64) (s : Gx24) : Bool :=
  anyRow (n := 8) (fun a =>
    let x := axisOf a s
    decide (x.job = some (.program p)) &&
      (decide (x.state = .running) || decide (x.state = .dwell) || decide (x.state = .halting)
        || decide (x.state = .guardStop)))

/-- The segment is one of the program's: the count segments that begin at its first, wrapping from 255 to 0 (5.2). -/
def programUses (pr : Program) (g : Fin 256) : Bool := decide ((g.val + 256 - pr.first.val) % 256 < pr.count)

/-- The segment belongs to an active program (R89, R90). -/
def segmentActive (g : Fin 256) (s : Gx24) : Bool :=
  anyRow (n := 64) (fun p => programActive p s && programUses (tget s.mu.programs p) g)

/-! ### Tick numbers (00_scope, Ticks) -/

/-- The distance of tick number `t` ahead of `now`, modulo 65536. -/
def ticksAhead (t now : Word) : Nat := (t - now).toNat

/-- `t` is ahead of `now`: its distance is 1 to 30000 (00_scope). -/
def isAhead (t now : Word) : Bool := decide (1 ≤ ticksAhead t now) && decide (ticksAhead t now ≤ 30000)

/-- `t` is past: its distance is 30001 to 65535 (00_scope). -/
def isPast (t now : Word) : Bool := decide (30000 < ticksAhead t now)

end Sys2Proof.Machine
end

