-- ==== Sys2Proof/Machine/Alerts.lean ====
section
/-! DEFINITION. The Alert Unit's operations: raising, ending, acknowledging and escalating records, the overflow
record, and what each change gives its neighbours (chapter 7). -/

namespace Sys2Proof.Machine

/-! ### Effects of a change (R131, R141 to R144, R148) -/

/-- The held set is recomputed and given to the Exhibit Controller when it differs from the last one given (R143). -/
def giveHeld (s : Gx24) : Gx24 :=
  if currentHeld s = s.au.heldGiven then s
  else postHeld (currentHeld s) { s with au := { s.au with heldGiven := currentHeld s } }

/-- MOTION_PWR is set from ESTOP_N and the ESTOP record (R126, R144). -/
def setPower (s : Gx24) : Gx24 := { s with motionPower := powerOn s }

/-- One zone's pattern is computed, and written to the image of every BEACON station of the zone when it differs from
the one last computed (R141). -/
def renderZone (z : Fin 4) (s : Gx24) : Gx24 :=
  if zonePattern z s = tget s.au.patterns z then s
  else
    let p := zonePattern z s
    let s := { s with au := { s.au with patterns := tput s.au.patterns z p } }
    forRows (n := 24) (fun st s =>
      if (rowOf st s).kind = .beacon ∧ (rowOf st s).zone = z then writeBeacon st p s else s) s

/-- The beacons and SUPERVISOR are rendered anew (R141, R142). -/
def render (s : Gx24) : Gx24 :=
  let s := forRows (n := 4) renderZone s
  { s with supervisor := supervisorCall s }

/-- What follows a change of the records: held set, MOTION_PWR, beacons and SUPERVISOR, then the notices (R131). -/
def alertsChanged (notices : List UpFrame) (s : Gx24) : Gx24 := sendAll notices (render (setPower (giveHeld s)))

/-- The state an ALERT-NOTICE carries for a record that stands. -/
def AlertState.notice : AlertState → NoticeState
  | .opened => .opened
  | .owned => .owned
  | .waiting => .waiting

/-- The ALERT-NOTICE of a record as it stands (R148). -/
def noticeOf (i : Fin 64) (r : AlertRecord) (st : NoticeState) (s : Gx24) : UpFrame :=
  .alertNotice i (tget s.au.slots i).generation r.key st r.tier r.repeats r.saturated r.raiseTick s.gc.tick

/-- The record in a slot replaced, the slot's generation kept. -/
def putRecord (i : Fin 64) (r : Option AlertRecord) (s : Gx24) : Gx24 :=
  { s with au := { s.au with slots := tmod s.au.slots i (fun x => { x with record := r }) } }

/-- A record takes the slot: the generation advances by one, 15 wrapping to 0 (R131). -/
def takeSlot (i : Fin 64) (r : AlertRecord) (s : Gx24) : Gx24 :=
  { s with au := { s.au with slots := tmod s.au.slots i (fun x => ⟨x.generation + 1#4, some r⟩) } }

/-! ### Raising (R131 to R133, R146) -/

/-- Every zone. -/
def allZones : ZoneSet := Vector.replicate 4 true

/-- The zone set of a record at creation: the override, else the exhibit's zone, else all four (R132). -/
def zoneSetFor (o : ZoneOverride) (exhibit : Option (Fin 16)) (s : Gx24) : ZoneSet :=
  match o, exhibit with
  | .all, _ => allZones
  | .zone z, _ => tput noZones z true
  | .none, some e => tput noZones (exhibitOf e s).record.zone true
  | .none, none => allZones

/-- The hold target of a record at creation (R132). -/
def holdTargetFor (key : AlertKey) (hold : Bool) (s : Gx24) : ExhibitSet :=
  if !hold then noExhibits
  else if key.cls = clsAxisFault then
    match key.axis with
    | some a => tmake fun e => lists e a s
    | none => noExhibits
  else if key.cls = clsEstop then tmake fun e => decide ((exhibitOf e s).record.axes ≠ [])
  else
    match key.exhibit with
    | some e => tput noExhibits e true
    | none => noExhibits

/-- A new record of a class: tier 1, repeat count 1, the current tick, the class's settings (R131). -/
def newRecord (key : AlertKey) (c : AlertClass) (s : Gx24) : AlertRecord where
  key := key
  state := if momentary key.cls then .waiting else .opened
  tier := 1
  countdown := c.interval
  repeats := 1
  saturated := false
  raiseTick := s.gc.tick
  severity := c.severity
  hold := c.hold
  ackRequired := c.ackRequired
  interval := c.interval
  maxTier := c.maxTier
  zones := zoneSetFor c.zone key.exhibit s
  target := holdTargetFor key c.hold s

/-- The general slot whose record has this key (7.2). -/
def slotOfKey (key : AlertKey) (s : Gx24) : Option (Fin 64) :=
  firstRow (fun i => isGeneral i && match recordAt i s with | some r => decide (r.key = key) | none => false)

/-- The lowest-numbered FREE general slot (R131). -/
def freeSlot (s : Gx24) : Option (Fin 64) := firstRow (fun i => isGeneral i && (recordAt i s).isNone)

/-- The repeat count grows by one; at 255 it stays and carries its mark (R133). -/
def AlertRecord.again (r : AlertRecord) : AlertRecord :=
  if r.repeats + 1 < 255 then { r with repeats := r.repeats + 1 } else { r with repeats := 255, saturated := true }

/-- A raise that matches a record: it counts a repeat, and a condition raise makes a WAITING record OPEN again; no
notice when nothing changed (R133). -/
def repeatRaise (i : Fin 64) (r : AlertRecord) (s : Gx24) : Gx24 :=
  let r' := { r.again with state := if !momentary r.key.cls && r.state = .waiting then .opened else r.state }
  if r' = r then s
  else
    let s := putRecord i (some r') s
    alertsChanged [noticeOf i r' r'.state.notice s] s

/-- The key of the overflow record (7.7). -/
def overflowKey : AlertKey := ⟨clsSystem, .overflow, none, none, none⟩

/-- The overflow condition is raised: the record is made in slot 63, or counts a repeat and becomes OPEN (R146). -/
def raiseOverflow (s : Gx24) : Gx24 :=
  let s := match recordAt overflowSlot s with
    | some r => putRecord overflowSlot (some { r.again with state := .opened, target := s.au.overflowHeld }) s
    | none =>
      takeSlot overflowSlot { newRecord overflowKey (tget s.au.classes clsSystem) s with
        ackRequired := true, target := s.au.overflowHeld } s
  match recordAt overflowSlot s with
  | some r => alertsChanged [noticeOf overflowSlot r r.state.notice s] s
  | none => s

/-- The union of two sets of exhibits. -/
def joinSets (x y : ExhibitSet) : ExhibitSet := tmake fun e => tget x e || tget y e

/-- For a lost AXIS-FAULT raise the axis is added to the lost axes with the key of that raise (R146). -/
def keepLostAxis (key : AlertKey) (s : Gx24) : Gx24 :=
  match key.axis with
  | some a =>
    if key.cls = clsAxisFault then { s with au := { s.au with lostAxes := tput s.au.lostAxes a (some key) } } else s
  | none => s

/-- A raise lost for want of a slot: it is counted, its hold target and a lost AXIS-FAULT's axis are kept, and the
overflow condition is raised (R146). -/
def loseRaise (key : AlertKey) (s : Gx24) : Gx24 :=
  let s := growAlert .raisesLost s
  let target := holdTargetFor key (tget s.au.classes key.cls).hold s
  let s := { s with au := { s.au with overflowHeld := joinSets s.au.overflowHeld target } }
  raiseOverflow (keepLostAxis key s)

/-- A raise that reaches the Alert Unit (R131, R133, R146). -/
def raise (key : AlertKey) (s : Gx24) : Gx24 :=
  match slotOfKey key s with
  | some i =>
    match recordAt i s with
    | some r => repeatRaise i r s
    | none => s
  | none =>
    match freeSlot s with
    | some i =>
      let r := newRecord key (tget s.au.classes key.cls) s
      let s := takeSlot i r s
      alertsChanged [noticeOf i r r.state.notice s] s
    | none => loseRaise key s

/-! ### Ends and removals (R134, R147) -/

/-- The overflow record is removed: its held set and lost axes are emptied with it (R147). -/
def clearOverflow (s : Gx24) : Gx24 :=
  let s := putRecord overflowSlot none s
  { s with au := { s.au with overflowHeld := noExhibits, lostAxes := Vector.replicate 8 none } }

/-- A general slot has been freed: the overflow condition, if present, ends; an OPEN overflow record becomes WAITING
and an OWNED one is removed (R147). -/
def endOverflow (s : Gx24) : List UpFrame × Gx24 :=
  match recordAt overflowSlot s with
  | some r =>
    match r.state with
    | .opened =>
      let r' := { r with state := .waiting }
      let s := putRecord overflowSlot (some r') s
      ([noticeOf overflowSlot r' .waiting s], s)
    | .owned =>
      let n := noticeOf overflowSlot r .removed s
      ([n], clearOverflow s)
    | .waiting => ([], s)
  | none => ([], s)

/-- A general record is removed: its slot becomes FREE and keeps its generation, and the overflow condition ends if it
is present (R134, R147). -/
def removeRecord (i : Fin 64) (r : AlertRecord) (s : Gx24) : Gx24 :=
  let n := noticeOf i r .removed s
  let (ns, s) := endOverflow (putRecord i none s)
  alertsChanged (n :: ns) s

/-- The owner of a condition ends it, with the key of its latest raise (R134). -/
def endCondition (key : AlertKey) (s : Gx24) : Gx24 :=
  match slotOfKey key s with
  | some i =>
    match recordAt i s with
    | some r =>
      match r.state with
      | .opened =>
        if r.ackRequired then
          let r' := { r with state := .waiting }
          let s := putRecord i (some r') s
          alertsChanged [noticeOf i r' .waiting s] s
        else removeRecord i r s
      | .owned => removeRecord i r s
      | .waiting => s
    | none => s
  | none => s

/-! ### Acknowledgement (R135 to R137) -/

/-- What one record's acknowledgement adds to an acknowledgement being taken: its ALERT-NOTICE, the acknowledgement
notices for the Motion Unit, and whether a general slot was freed. -/
structure AckTaken where
  notices : List UpFrame
  axes : List (Fin 8 × AlertKey)
  freed : Bool
  deriving DecidableEq, Repr

/-- The acknowledgement notices for the Motion Unit that a record gives: the axis of an AXIS-FAULT record with its key
(R135), and for the overflow record each lost axis with the key kept with it (R147). -/
def ackAxes (i : Fin 64) (r : AlertRecord) (s : Gx24) : List (Fin 8 × AlertKey) :=
  if i = overflowSlot then
    (List.finRange 8).filterMap (fun a => (tget s.au.lostAxes a).map (fun k => (a, k)))
  else if r.key.cls = clsAxisFault then
    match r.key.axis with
    | some a => [(a, r.key)]
    | none => []
  else []

/-- One record is acknowledged: OPEN becomes OWNED, WAITING is removed, OWNED is unchanged (R135). -/
def ackSlot (i : Fin 64) (t : AckTaken × Gx24) : AckTaken × Gx24 :=
  let (k, s) := t
  match recordAt i s with
  | none => (k, s)
  | some r =>
    let axes := k.axes ++ ackAxes i r s
    match r.state with
    | .opened =>
      let r' := { r with state := .owned }
      let s := putRecord i (some r') s
      ({ k with notices := k.notices ++ [noticeOf i r' .owned s], axes := axes }, s)
    | .owned => ({ k with axes := axes }, s)
    | .waiting =>
      let n := noticeOf i r .removed s
      if i = overflowSlot then ({ k with notices := k.notices ++ [n], axes := axes }, clearOverflow s)
      else (⟨k.notices ++ [n], axes, true⟩, putRecord i none s)

/-- The frame is an ALERT-NOTICE of the overflow record. -/
def UpFrame.ofOverflow : UpFrame → Bool
  | .alertNotice i _ _ _ _ _ _ _ _ => i = overflowSlot
  | _ => false

/-- The notices of one acknowledgement and those of the end of the overflow condition it brought about: one for each record,
the last (R148). -/
def lastNotices (ns overflow : List UpFrame) : List UpFrame :=
  if overflow = [] then ns else ns.filter (fun n => !n.ofOverflow) ++ overflow

/-- One acknowledgement that touches these slots: all of them change, then the held set, the beacons and SUPERVISOR are
done once and the notices are sent (R135). The Motion Unit's notices are returned. -/
def acknowledge (slots : List (Fin 64)) (s : Gx24) : List (Fin 8 × AlertKey) × Gx24 :=
  let (k, s) := forList slots ackSlot (⟨[], [], false⟩, s)
  let (ns, s) := if k.freed then endOverflow s else ([], s)
  (k.axes, alertsChanged (lastNotices k.notices ns) s)

/-- The slots an attendant's key at the exhibit reaches: every unacknowledged record that names the exhibit, or names
none and has the exhibit's zone in its zone set (R136). -/
def keyReach (e : Fin 16) (s : Gx24) : List (Fin 64) :=
  (List.finRange 64).filter (fun i => match recordAt i s with
    | some r => r.unacked && (match r.key.exhibit with
        | some x => decide (x = e)
        | none => tget r.zones (exhibitOf e s).record.zone)
    | none => false)

/-! ### Escalation (R140) -/

/-- The record escalates: unacknowledged, interval above 0, tier below its maximum, and its exhibit not DARK (R140). -/
def escalates (r : AlertRecord) (s : Gx24) : Bool :=
  r.unacked && decide (0 < r.interval) && decide (r.tier < r.maxTier) && !exhibitDark r.key.exhibit s

/-- The record's tier rises by one and its countdown is reloaded (R140). -/
def AlertRecord.raised (r : AlertRecord) : AlertRecord := { r with tier := r.tier + 1, countdown := r.interval }

/-- One slot's record at a tick event: the countdown falls by one, and at 0 the tier rises (R140). -/
def escalateSlot (i : Fin 64) (t : List UpFrame × Gx24) : List UpFrame × Gx24 :=
  let (ns, s) := t
  match recordAt i s with
  | none => (ns, s)
  | some r =>
    if !escalates r s then (ns, s)
    else if r.countdown ≤ 1 then
      let s := putRecord i (some r.raised) s
      (ns ++ [noticeOf i r.raised r.raised.state.notice s], s)
    else (ns, putRecord i (some { r with countdown := r.countdown - 1 }) s)

/-- The Alert Unit's count of a tick event (R140). -/
def escalateAll (s : Gx24) : Gx24 :=
  let (ns, s) := forRows (n := 64) escalateSlot ([], s)
  if ns = [] then s else alertsChanged ns s

/-! ### The raises by name (the table of 7.2) -/

/-- ESTOP (R125). -/
def keyEstop : AlertKey := ⟨clsEstop, .none, none, none, none⟩

/-- SYSTEM, TRUNK-LOST (R169). -/
def keyTrunkLost : AlertKey := ⟨clsSystem, .trunkLost, none, none, none⟩

/-- STATION-LOST of a station, naming its home exhibit (R5). -/
def keyStationLost (st : Fin 24) (s : Gx24) : AlertKey := ⟨clsStationLost, .none, (rowOf st s).home, some st, none⟩

/-- GUARD-HELD of an axis (R120). -/
def keyGuardHeld (a : Fin 8) (s : Gx24) : AlertKey := ⟨clsGuardHeld, .none, lowestListing a s, none, some a⟩

/-- The alert cause of an axis fault (7.2). -/
def FaultCause.alert : FaultCause → AlertCause
  | .drive => .drive
  | .limit => .limit
  | .following => .following
  | .station => .station
  | .estop => .estop

/-- AXIS-FAULT of an axis (R123). -/
def keyAxisFault (a : Fin 8) (c : FaultCause) (s : Gx24) : AlertKey :=
  ⟨clsAxisFault, c.alert, lowestListing a s, none, some a⟩

/-- A momentary alert that names an exhibit: HELP (R32), CROWDING (R58), CHAIN-FAULT (R85), a user class (R72). -/
def keyExhibit (cls : Fin 16) (cause : AlertCause) (e : Fin 16) : AlertKey := ⟨cls, cause, some e, none, none⟩

end Sys2Proof.Machine
end

