-- ==== Sys2Proof/Machine/Runner.lean ====
section
/-! DEFINITION. The runner's moves that other blocks cause: following a link, ending normally, ending a wait, and the
cue writes and the ends of cue waits (chapter 4; R14, R15). -/

namespace Sys2Proof.Machine

/-- The link of an entry; for REFER the link taken at GO (R63). A FREE entry reads link END. -/
def Action.link : Action → Link
  | .free => .endOfChain
  | .lamp _ _ _ l => l
  | .cue _ _ _ l => l
  | .move _ _ _ _ l => l
  | .haltAxis _ _ l => l
  | .wait _ l => l
  | .pause l => l
  | .alert _ l => l
  | .refer _ _ _ l _ => l
  | .count _ _ l => l

/-- The entry at which the exhibit's runner stands. -/
def entryOf (e : Fin 16) (s : Gx24) : Action := actionAt (runnerOf e s).index s

/-- A freed runner: FREE, with its row, input and awaited fields absent and its last referral serial kept (R83). -/
def Runner.freed (r : Runner) : Runner :=
  { r with state := .free, row := none, input := none, awaitedCue := none, awaitedAxis := none }

/-- A runner that returns to STEPPING, its awaited fields absent. -/
def Runner.resumed (r : Runner) : Runner := { r with state := .stepping, awaitedCue := none, awaitedAxis := none }

/-- A halt at LOOP-END: stop-at-loop-end is set in RUNNING, DWELL and GUARD-STOP; HALTING, IDLE, OFF and FAULT do not
change (R98). -/
def haltLoopEnd (a : Fin 8) (s : Gx24) : Gx24 :=
  match (axisOf a s).state with
  | .running => modAxis a (fun x => { x with stopAtLoopEnd := true }) s
  | .dwell => modAxis a (fun x => { x with stopAtLoopEnd := true }) s
  | .guardStop => modAxis a (fun x => { x with stopAtLoopEnd := true }) s
  | .halting => s
  | .idle => s
  | .off => s
  | .fault => s

/-- The exhibit owns the axis (R109). -/
def ownsAxis (e : Fin 16) (a : Fin 8) (s : Gx24) : Bool :=
  match (axisOf a s).owner with
  | some o => decide (o.claimant = .exhibit e)
  | none => false

/-- Every axis the exhibit owns whose program has run mode LOOP gets stop-at-loop-end (R83). -/
def loopsToEnd (e : Fin 16) (s : Gx24) : Gx24 :=
  forRows (n := 8) (fun a s =>
    if ownsAxis e a s && decide ((axisOf a s).mode = .loop) then haltLoopEnd a s else s) s

/-- A chain ends normally: LOOP programs are let finish, the chain-end notice is given, completed is counted, the runner
becomes FREE and the end is reported (R83, steps 2 to 4). -/
def chainEnd (e : Fin 16) (s : Gx24) : Gx24 :=
  let o := (runnerOf e s).origin
  let s := loopsToEnd e s
  let s := maskEvent e (·.chainEnd) s
  let s := growExhibit e .completed 1 s
  let s := modRunner e Runner.freed s
  post (.ended e o) s

/-- A chain ends at a PAUSE: the Press Dispatcher has the link before the end is reported (R83 step 1, R37). -/
def chainPause (e : Fin 16) (link : Link) (s : Gx24) : Gx24 := chainEnd e (storePause (runnerOf e s).row link s)

/-- The runner leaves its entry by a link: an index becomes the current action index and the runner goes on in STEPPING,
END ends the chain normally (R66, R83). -/
def follow (e : Fin 16) (link : Link) (s : Gx24) : Gx24 :=
  match link with
  | .to i => post (.run e) (modRunner e (fun r => { r.resumed with index := i }) s)
  | .endOfChain => chainEnd e s

/-- A wait ends and the runner goes on at its entry's link (R74, R76, R77, R78). -/
def leave (e : Fin 16) (s : Gx24) : Gx24 := follow e (entryOf e s).link s

/-- The runner enters a wait state; the steps field returns to 0 (R67). -/
def suspend (e : Fin 16) (st : RunnerState) (s : Gx24) : Gx24 :=
  modRunner e (fun r => { r with state := st, steps := 0 }) s

/-! ### Cue waits (R15, R78) -/

/-- Every runner in WAIT-CUE whose awaited station and serial have the property ends its wait without error, in rising exhibit
number: the rules give no order among them (R15, R78; DESIGN CHOICE, assumption 29). -/
def endCueWaits (p : Fin 24 → Serial → Bool) (s : Gx24) : Gx24 :=
  forRows (n := 16) (fun e s =>
    match (runnerOf e s).state, (runnerOf e s).awaitedCue with
    | .waitCue, some (st, serial) => if p st serial then leave e s else s
    | _, _ => s) s

/-- The station has become LOST, been disabled or changed its kind: every cue wait on it ends (R6, R78). -/
def endStationWaits (st : Fin 24) (s : Gx24) : Gx24 := endCueWaits (fun x _ => decide (x = st)) s

/-- The cues on the station whose serial is no longer the latest are superseded (R14, R15). -/
def supersedeCues (st : Fin 24) (s : Gx24) : Gx24 :=
  let latest := (stationOf st s).latestCue
  endCueWaits (fun x serial => decide (x = st) && decide (serial ≠ latest)) s

/-- A cue write: the running cue serial advances, the cue becomes the pending cue with the new serial, and the cues it
supersedes end their waits; to an ABSENT station it is not stored (R14). The serial stored is returned. -/
def writeCue (st : Fin 24) (number : Byte) (s : Gx24) : Option Serial × Gx24 :=
  if (stationOf st s).state = .absent then (none, s)
  else
    let serial := (stationOf st s).runningCue + 1#4
    let s := modStation st (fun x =>
      { x with runningCue := serial, latestCue := serial, cue := some ⟨number, serial⟩ }) s
    (some serial, supersedeCues st s)

/-- A good reply's cue report reaches the waiting chains: an awaited serial reported as last-started with cue-playing no
ends the wait (R15, R78). -/
def cueReported (st : Fin 24) (s : Gx24) : Gx24 :=
  let x := stationOf st s
  if x.cuePlaying then s else endCueWaits (fun y serial => decide (y = st) && decide (serial = x.lastStarted)) s

end Sys2Proof.Machine
end

