-- ==== Sys2Proof/Machine/Trajectory.lean ====
section
/-! DEFINITION. The arithmetic of one axis: the running, halting and guard braking steps and the segments they pursue
(chapter 5), in whole sixteenths of a count. -/

namespace Sys2Proof.Machine

/-- A position in counts as sixteenths (00_scope). -/
def sixteenths (counts : Int) : Int := counts * 16

/-- A position in sixteenths as whole counts, rounded toward minus infinity (R88, R122). -/
def wholeCounts (p : Int) : Int := p.fdiv 16

/-- The stopping distance from speed `v` at deceleration `a`, taken whole (R94 step 1). -/
def stoppingDistance (a v : Nat) : Nat := v * v / (2 * a)

/-- The new speed of the running step before the landing cap (R94 step 2): `a` acceleration, `c` cruise, `v` speed,
`d` distance remaining. -/
def runSpeed (a c v d : Nat) : Nat :=
  if d ≤ stoppingDistance a v then max (v - a) a
  else if v < c then min (v + a) c
  else if c < v then max (v - a) c
  else c

/-- The landing cap: a step never passes the target (R94 step 3, R99, R100). -/
def landingCap (v d : Nat) : Nat := min v d

/-- The distance from P to T, with its sign (R94). -/
def Axis.distance (x : Axis) : Int := x.target - x.position

/-- The axis moved at speed `v` toward its target: V is `s × v` and P becomes P + V (R94 step 4). -/
def Axis.movedAt (x : Axis) (v : Nat) : Axis :=
  { x with velocity := x.distance.sign * v, position := x.position + x.distance.sign * v }

/-- The running step's motion (R94 steps 1 to 4). -/
def Axis.runMotion (x : Axis) : Axis :=
  let v := x.velocity.natAbs
  let d := x.distance.natAbs
  x.movedAt (landingCap (runSpeed x.params.accel x.cruise v d) d)

/-- The motion of a braking step at deceleration `b`: the halting step with A (R99), the guard braking step with 4A
(R100). -/
def Axis.brakeMotion (x : Axis) (b : Nat) : Axis :=
  x.movedAt (landingCap (x.velocity.natAbs - b) x.distance.natAbs)

/-- The axis with V = 0. -/
def Axis.atRest (x : Axis) : Axis := { x with velocity := 0 }

/-- How many segments a job has (R92, R116). -/
def jobCount (j : Job) (s : Gx24) : Nat :=
  match j with
  | .program p => (tget s.mu.programs p).count
  | .jog _ => 1

/-- Segment number first + index, modulo 256 (5.2, R93). -/
def segmentNumber (first : Fin 256) (index : Nat) : Fin 256 := ⟨(first.val + index) % 256, Nat.mod_lt _ (by decide)⟩

/-- The segment a job has at an index (R93, R116). -/
def jobSegment (j : Job) (index : Nat) (s : Gx24) : Segment :=
  match j with
  | .program p => tget s.mu.segments (segmentNumber (tget s.mu.programs p).first index)
  | .jog g => g

/-- A target clamped into the soft limits (R93). -/
def softClamp (p : AxisParams) (t : Int) : Int := if t < p.softMin then p.softMin else if p.softMax < t then p.softMax else t

/-- A segment starts on the axis: C and T are set, a clamped target is marked; the axis enters RUNNING or stays in
GUARD-STOP (R93). -/
def Axis.started (x : Axis) (g : Segment) : Axis :=
  { x with
    cruise := g.cruise * 16
    target := sixteenths (softClamp x.params g.target)
    clamped := x.clamped || decide (softClamp x.params g.target ≠ g.target)
    state := if x.state = .guardStop then .guardStop else .running }

/-- The segment at the axis's segment index starts (R93). -/
def startSegment (a : Fin 8) (s : Gx24) : Gx24 :=
  let x := axisOf a s
  match x.job with
  | some j =>
    let g := jobSegment j x.segIndex s
    let s := modAxis a (fun x => x.started g) s
    if softClamp x.params g.target ≠ g.target then growAxis a .clamps s else s
  | none => s

/-- A program starts on the axis: index 0, no stop at loop end, CLAMPED clear, counted, in GUARD-STOP when the guard is
open (R92). -/
def startProgram (a : Fin 8) (j : Job) (m : RunMode) (s : Gx24) : Gx24 :=
  let s := modAxis a (fun x => { x with
    job := some j, mode := m, segIndex := 0, stopAtLoopEnd := false, resume := .running, clamped := false,
    velocity := 0, state := if x.guardOpen then .guardStop else .running }) s
  startSegment a (growAxis a .programsStarted s)

/-- The setpoint is built from P and drive-enable and stored (R103). -/
def buildSetpoint (a : Fin 8) (s : Gx24) : Gx24 :=
  modAxis a (fun x => { x with setpoint := some ⟨x.position, driveEnable x.state s.estop⟩ }) s

/-- Drive-enable is turned off in the stored setpoint at once (R103). -/
def Axis.driveOff (x : Axis) : Axis := { x with setpoint := x.setpoint.map (fun p => { p with enable := false }) }

end Sys2Proof.Machine
end

