-- ==== Sys2Proof/Machine/Ownership.lean ====
section
/-! DEFINITION. Who may move an axis: program ends, grants, halts, aborts, claims (R76, R77, R84, R98, R102, R108 to
R114). The definitions stand in the order in which the rules let one cause another; none is recursive. -/

namespace Sys2Proof.Machine

/-! ### Results to the claimants (R114) -/

/-- The program number a MOVE-REPLY carries; a jog has none (R114, R116). -/
def Job.number : Job → Option (Fin 64)
  | .program p => some p
  | .jog _ => none

/-- A MOVE-REPLY for a HEAD-END or MAINTENANCE claim (R114). -/
def moveReply (a : Fin 8) (maintenance : Bool) (j : Job) (r : MoveResult) (why : RefuseReason) (s : Gx24) : Gx24 :=
  sendUp (.moveReply a maintenance j.number r why) s

/-- The exhibit's runner waits for its claim on the axis. -/
def awaitsClaim (e : Fin 16) (a : Fin 8) (s : Gx24) : Bool :=
  decide ((runnerOf e s).state = .waitClaim) && decide ((runnerOf e s).awaitedAxis = some a)

/-- The exhibit's runner waits for the end of its program on the axis. -/
def awaitsEnd (e : Fin 16) (a : Fin 8) (s : Gx24) : Bool :=
  decide ((runnerOf e s).state = .waitDone) && decide ((runnerOf e s).awaitedAxis = some a)

/-- The MOVE at which the runner stands has wait-done yes. -/
def Action.waitsDone : Action → Bool
  | .move _ _ _ w _ => w
  | _ => false

/-- GRANTED reaches the exhibit's runner: WAIT-DONE with wait-done yes, else on at the link (R75, R76). -/
def runnerGranted (e : Fin 16) (a : Fin 8) (s : Gx24) : Gx24 :=
  if awaitsClaim e a s then
    if (entryOf e s).waitsDone then suspend e .waitDone s else leave e s
  else s

/-- REFUSED or SKIPPED reaches the exhibit's runner: the MOVE is skipped and counted (R75, R76, R86). -/
def runnerSkipped (e : Fin 16) (a : Fin 8) (s : Gx24) : Gx24 :=
  if awaitsClaim e a s then leave e (growExhibit e .movesSkipped 1 s) else s

/-- A claim's result reaches its claimant (R114). -/
def claimResult (a : Fin 8) (c : Claim) (r : MoveResult) (why : RefuseReason) (s : Gx24) : Gx24 :=
  match c.claimant with
  | .exhibit e => if r = .granted then runnerGranted e a s else runnerSkipped e a s
  | .headEnd => moveReply a false c.job r why s
  | .maintenance => moveReply a true c.job r why s

/-! ### Grants (R111) -/

/-- The standing of an origin, from low to high (3.5). -/
def Origin.rank : Origin → Nat
  | .attract => 0
  | .visitor => 1
  | .showCue => 2
  | .attendant => 3

/-- The FIXED order: exhibits in rising number, then HEAD-END, then MAINTENANCE (R111). -/
def fixedRank : Claimant → Nat
  | .exhibit e => e.val
  | .headEnd => 16
  | .maintenance => 17

/-- The grant order among equal origins: FAIR puts the last owner after the others (R111). -/
def grantRank (x : Axis) (c : Claimant) : Nat :=
  if x.params.arbitration = .fair ∧ x.lastOwner = some c then 18 + fixedRank c else fixedRank c

/-- Claim `c` is granted before claim `d` (R111). -/
def grantedBefore (x : Axis) (c d : Claim) : Bool :=
  decide (d.origin.rank < c.origin.rank) ||
    (decide (c.origin.rank = d.origin.rank) && decide (grantRank x c.claimant < grantRank x d.claimant))

/-- The claim that wins among those pending (R111). -/
def winner (x : Axis) : Option Claim :=
  x.claims.foldl (fun best c => match best with
    | none => some c
    | some b => if grantedBefore x c b then some c else some b) none

/-- The winning claim is granted: it leaves the list, its claimant becomes owner and last owner, the program starts and
the claimant has GRANTED (R111). -/
def grantAxis (a : Fin 8) (s : Gx24) : Gx24 :=
  match winner (axisOf a s) with
  | none => s
  | some c =>
    let s := modAxis a (fun x => { x with
      claims := x.claims.filter (fun d => decide (d.claimant ≠ c.claimant))
      owner := some ⟨c.claimant, c.origin⟩
      lastOwner := some c.claimant }) s
    let s := startProgram a c.job c.mode (growAxis a .grants s)
    claimResult a c .granted .none s

/-! ### Release and OFF (R102, R108) -/

/-- A GUARD-HELD condition that is held ends, and the guard-open time is 0 (R120). -/
def endGuardHeld (a : Fin 8) (s : Gx24) : Gx24 :=
  let k := (axisOf a s).guardHeldKey
  let s := modAxis a (fun x => { x with guardHeldKey := none, guardOpenTime := 0 }) s
  match k with
  | some key => endCondition key s
  | none => s

/-- An AXIS-FAULT condition that is held ends, with the key of its raise (R108, R124, R134). -/
def endAxisFault (a : Fin 8) (s : Gx24) : Gx24 :=
  let k := (axisOf a s).faultKey
  let s := modAxis a (fun x => { x with faultKey := none }) s
  match k with
  | some key => endCondition key s
  | none => s

/-- The poll whose reply is awaited is no longer the step-point poll of this axis: the axis has reached OFF. If it is enabled again
before that slot ends, what comes back there is no last step reply of R91 and not checked by R122, which the rules leave open
(DESIGN CHOICE, assumption 35). -/
def forgetStep (a : Fin 8) (s : Gx24) : Gx24 :=
  match s.bs.awaiting with
  | some w => if w.stepAxis = some a then { s with bs := { s.bs with awaiting := some { w with stepAxis := none } } } else s
  | none => s

/-- The axis reaches OFF: drive-enable off in the stored setpoint, the guard-open time stops and GUARD-HELD ends, then an
AXIS-FAULT condition ends (R103, R108; the order of the two is DESIGN CHOICE, assumption 29). -/
def goOff (a : Fin 8) (s : Gx24) : Gx24 :=
  let s := modAxis a (fun x => { x.driveOff with
    state := .off, velocity := 0, disabling := false, owner := none, guardOpen := false }) s
  endAxisFault a (endGuardHeld a (forgetStep a s))

/-- The axis is released: a disabling axis goes OFF, and otherwise the claims pending are granted among (R102, R108,
R111). -/
def releaseAxis (a : Fin 8) (s : Gx24) : Gx24 :=
  let s := modAxis a (fun x => { x with owner := none }) s
  if (axisOf a s).disabling then goOff a s else grantAxis a s

/-- A program's end on the axis itself: V 0, program absent, the context at rest, the axis in the state given (R102). -/
def Axis.ended (x : Axis) (st : AxisState) : Axis :=
  { x with velocity := 0, job := none, stopAtLoopEnd := false, resume := .running, state := st }

/-! ### Aborts (R84) -/

/-- The axis ends its program HALTED in an abort of its owner's chain: the result finds no runner waiting (R84, R114). -/
def endHaltedQuietly (a : Fin 8) (s : Gx24) : Gx24 :=
  releaseAxis a (growAxis a .programsHalted (modAxis a (fun x => x.ended .idle) s))

/-- A NOW halt acts on the axis's state; a resting axis ends its program by `fin` (R98). -/
def haltNowWith (fin : Fin 8 → Gx24 → Gx24) (a : Fin 8) (s : Gx24) : Gx24 :=
  let x := axisOf a s
  match x.state with
  | .running => if x.velocity = 0 then fin a s else modAxis a (fun x => { x with state := .halting }) s
  | .dwell => fin a s
  | .halting => s
  | .guardStop => if x.velocity = 0 then fin a s else modAxis a (fun x => { x with resume := .halting }) s
  | .idle => s
  | .off => s
  | .fault => s

/-- The exhibit's pending claims are withdrawn, with no result and nothing counted (R84 step 1, R113). -/
def withdrawClaims (e : Fin 16) (s : Gx24) : Gx24 :=
  forRows (n := 8) (fun a s => modAxis a (fun x =>
    { x with claims := x.claims.filter (fun c => decide (c.claimant ≠ .exhibit e)) }) s) s

/-- Every axis the exhibit owns is halted NOW, in rising axis number: R84 gives no order (R84 step 2; DESIGN CHOICE,
assumption 29). -/
def haltOwned (e : Fin 16) (s : Gx24) : Gx24 :=
  forRows (n := 8) (fun a s => if ownsAxis e a s then haltNowWith endHaltedQuietly a s else s) s

/-- The chain is aborted: its waits are dropped, its claim withdrawn, its axes halted NOW, aborted counted and the runner
freed (R84). A FREE runner is left alone. The end is reported by the caller. -/
def abortChain (e : Fin 16) (s : Gx24) : Gx24 :=
  if (runnerOf e s).state = .free then s
  else
    let s := modRunner e Runner.freed s
    let s := haltOwned e (withdrawClaims e s)
    growExhibit e .aborted 1 s

/-- The chain is aborted and its end reported to the Exhibit Controller (R84 step 6, R55). -/
def abortReported (e : Fin 16) (s : Gx24) : Gx24 :=
  if (runnerOf e s).state = .free then s else post (.ended e (runnerOf e s).origin) (abortChain e s)

/-! ### Program ends (R102, R77) -/

/-- The end result reaches the owner: a runner in WAIT-DONE goes on at DONE and is aborted at HALTED or FAULT (R77);
HEAD-END and MAINTENANCE have a MOVE-REPLY (R114). -/
def endResult (a : Fin 8) (o : Owner) (j : Job) (r : MoveResult) (s : Gx24) : Gx24 :=
  match o.claimant with
  | .exhibit e => if awaitsEnd e a s then (if r = .done then leave e s else abortReported e s) else s
  | .headEnd => moveReply a false j r .none s
  | .maintenance => moveReply a true j r .none s

/-- The end result reaches the owner, if there is an owner and a program. -/
def tellOwner (a : Fin 8) (o : Option Owner) (j : Option Job) (r : MoveResult) (s : Gx24) : Gx24 :=
  match o, j with
  | some o, some j => endResult a o j r s
  | _, _ => s

/-- A program ends DONE or HALTED: the axis becomes IDLE, the end is counted, the owner has the result, and the axis is
released (R102). -/
def endProgram (a : Fin 8) (r : MoveResult) (s : Gx24) : Gx24 :=
  let x := axisOf a s
  let s := modAxis a (fun x => x.ended .idle) s
  let s := growAxis a (if r = .done then .programsDone else .programsHalted) s
  releaseAxis a (tellOwner a x.owner x.job r s)

/-- A NOW halt on the axis (R98). -/
def haltNow (a : Fin 8) (s : Gx24) : Gx24 := haltNowWith (fun a s => endProgram a .halted s) a s

/-- A halt request of either manner (R98). -/
def haltAxis (a : Fin 8) (m : Manner) (s : Gx24) : Gx24 :=
  match m with
  | .now => haltNow a s
  | .loopEnd => haltLoopEnd a s

/-! ### Claims (R110, R112, R113) -/

/-- Some exhibit that lists the axis is PUBLIC or HELD (R116). -/
def listedInUse (a : Fin 8) (s : Gx24) : Bool :=
  anyRow (n := 16) (fun e => lists e a s &&
    (decide ((exhibitOf e s).mode = .pub) || decide ((exhibitOf e s).mode = .held)))

/-- Why a claim is refused at arrival, or that it is not: the JOG check, the axis's state, the exhibit's axis list, in
this order (R110). The last gives no reason of R114's four. -/
def refusal (a : Fin 8) (c : Claimant) (s : Gx24) : Option RefuseReason :=
  let x := axisOf a s
  if c = .maintenance ∧ listedInUse a s then some .live
  else if x.state = .off then some .off
  else if x.state = .fault then some .fault
  else if x.disabling then some .disabling
  else match c with
    | .exhibit e => if lists e a s then none else some .none
    | _ => none

/-- The entry the claimant already has in the list is removed with the result SKIPPED and counted as skipped (R110). -/
def replaceClaim (a : Fin 8) (c : Claimant) (s : Gx24) : Gx24 :=
  match (axisOf a s).claims.find? (fun d => decide (d.claimant = c)) with
  | some d =>
    let s := modAxis a (fun x => { x with claims := x.claims.filter (fun d => decide (d.claimant ≠ c)) }) s
    claimResult a d .skipped .none (growAxis a .claimsSkipped s)
  | none => s

/-- A claim put in the list with an origin higher than the owner's preempts: NOW halt, counted (R112). -/
def preempt (a : Fin 8) (c : Claim) (s : Gx24) : Gx24 :=
  match (axisOf a s).owner with
  | some o => if o.origin.rank < c.origin.rank then haltNow a (growAxis a .preemptions s) else s
  | none => s

/-- A claim reaches the axis: refused, or it replaces the claimant's earlier one and is granted at once, or waits and may
preempt (R110). -/
def claimAxis (a : Fin 8) (c : Claim) (s : Gx24) : Gx24 :=
  match refusal a c.claimant s with
  | some why => claimResult a c .refused why (growAxis a .claimsRefused s)
  | none =>
    let s := replaceClaim a c.claimant s
    let c := { c with timeLeft := (axisOf a s).params.claimTimeout }
    let s := modAxis a (fun x => { x with claims := x.claims ++ [c] }) s
    match (axisOf a s).owner with
    | none => grantAxis a s
    | some _ => preempt a c s

/-- A pending claim's time has run out: removed with the result SKIPPED and counted (R113). -/
def timeOutClaim (a : Fin 8) (c : Claimant) (s : Gx24) : Gx24 :=
  match (axisOf a s).claims.find? (fun d => decide (d.claimant = c) && decide (d.timeLeft ≤ 0)) with
  | some d =>
    let s := modAxis a (fun x => { x with claims := x.claims.filter (fun d => decide (d.claimant ≠ c)) }) s
    claimResult a d .skipped .none (growAxis a .claimsSkipped s)
  | none => s

/-- Every pending claim is removed with the result REFUSED, in the order of arrival: the rules give none (R108, R109, R123;
DESIGN CHOICE, assumption 29). -/
def refuseAll (a : Fin 8) (why : RefuseReason) (s : Gx24) : Gx24 :=
  let cs := (axisOf a s).claims
  let s := modAxis a (fun x => { x with claims := [] }) s
  forList cs (fun c s => claimResult a c .refused why s) s

end Sys2Proof.Machine
end

