-- ==== Sys2Proof/Machine/Faults.lean ====
section
/-! DEFINITION. What stops an axis and what lets it go on: the guard (6.4), the faults and their recovery (6.5), the
step of an axis at its step point (5.3 to 5.9), and what enabling, disabling and ESTOP_N do (6.1, 6.6). -/

namespace Sys2Proof.Machine

/-! ### The guard (R117, R118) -/

/-- A guard that opens gives GUARD-OPEN notices to the exhibits that list the axis (R118). -/
def guardNotices (a : Fin 8) (s : Gx24) : Gx24 :=
  forRows (n := 16) (fun e s => if lists e a s then maskEvent e (·.guardOpen) s else s) s

/-- An axis in RUNNING, DWELL or HALTING enters GUARD-STOP and records the state it left (R100). -/
def Axis.guardStopped (x : Axis) : Axis :=
  match x.state with
  | .running => { x with state := .guardStop, resume := .running }
  | .dwell => { x with state := .guardStop, resume := .dwell }
  | .halting => { x with state := .guardStop, resume := .halting }
  | .guardStop => x
  | .idle => x
  | .fault => x
  | .off => x

/-- The guard of an axis opens (R118). -/
def guardOpened (a : Fin 8) (s : Gx24) : Gx24 :=
  let s := modAxis a (fun x => { x with guardOpen := true, settleCount := 0, guardOpenTime := 0 }) s
  let s := guardNotices a (growAxis a .guardOpenings s)
  modAxis a Axis.guardStopped s

/-- The guard of an axis that is not OFF is decided (R117): opened, open again, or closed, which ends a GUARD-HELD
condition (R120). -/
def decideGuard (a : Fin 8) (s : Gx24) : Gx24 :=
  if (axisOf a s).state = .off then s
  else if guardIsOpen a s then
    if (axisOf a s).guardOpen then modAxis a (fun x => { x with settleCount := 0 }) s else guardOpened a s
  else endGuardHeld a (modAxis a (fun x => { x with guardOpen := false }) s)

/-- The guards that a station's input serves are decided, in rising axis number: R117 gives no order (DESIGN CHOICE,
assumption 29). -/
def decideGuardsOf (st : Fin 24) (s : Gx24) : Gx24 :=
  forRows (n := 8) (fun a s => match (axisOf a s).params.guard with
    | some g => if g.station = st then decideGuard a s else s
    | none => s) s

/-- GUARD-HELD is raised for an axis, and its key kept for the end of the condition (R120, R134). -/
def raiseGuardHeld (a : Fin 8) (s : Gx24) : Gx24 :=
  let key := keyGuardHeld a s
  raise key (modAxis a (fun x => { x with guardHeldKey := some key }) s)

/-! ### Faults (R121 to R123) -/

/-- The counter of a fault cause (R127). -/
def FaultCause.counter : FaultCause → AxisCounter
  | .drive => .faultDrive
  | .limit => .faultLimit
  | .following => .faultFollowing
  | .station => .faultStation
  | .estop => .faultEstop

/-- Steps 4 to 6 of R123: the cause is recorded, the mark and the strikes cleared, the entry counted, and AXIS-FAULT
raised, its key kept (R134). -/
def recordFault (a : Fin 8) (c : FaultCause) (s : Gx24) : Gx24 :=
  let key := keyAxisFault a c s
  let s := modAxis a (fun x => { x with cause := some c, acked := false, strikes := 0, faultKey := some key }) s
  raise key (growAxis a c.counter s)

/-- An axis enters FAULT with a cause, from any state except OFF and FAULT (R123); a disabling axis then goes OFF
(R108). -/
def faultAxis (a : Fin 8) (c : FaultCause) (s : Gx24) : Gx24 :=
  let x := axisOf a s
  if x.state = .off ∨ x.state = .fault then s
  else
    let s := modAxis a (fun x => x.driveOff.ended .fault) s
    let s := tellOwner a x.owner x.job .fault s
    let s := refuseAll a .fault (modAxis a (fun x => { x with owner := none }) s)
    let s := recordFault a c s
    if x.disabling then goOff a s else s

/-- The drive flags are tested: a drive fault, or a limit in the direction of travel (R121). -/
def testFlags (a : Fin 8) (d : DriveReport) (s : Gx24) : Gx24 :=
  let v := (axisOf a s).velocity
  if d.fault then faultAxis a .drive s
  else if (d.lowLimit ∧ v < 0) ∨ (d.highLimit ∧ 0 < v) then faultAxis a .limit s
  else s

/-- The consecutive strikes that fault an axis (R122). -/
def strikesToFault : Nat := 3

/-- The following error E in counts (R122). -/
def followingError (x : Axis) (reported : Int) : Int := wholeCounts x.reference - reported

/-- The following-error check of a step-point reply (R122). -/
def checkFollowing (a : Fin 8) (d : DriveReport) (s : Gx24) : Gx24 :=
  let x := axisOf a s
  match d.position with
  | none => s
  | some p =>
    if x.state = .off ∨ x.state = .fault then s
    else if (followingError x p.toInt).natAbs ≤ x.params.followLimit then
      modAxis a (fun x => { x with strikes := 0 }) s
    else
      let s := growAxis a .followingStrikes (modAxis a (fun x => { x with strikes := x.strikes + 1 }) s)
      if strikesToFault ≤ x.strikes + 1 then faultAxis a .following s else s

/-! ### Recovery (R124) -/

/-- The last report of a PRESENT drive station shows drive ready and no drive fault (R107, R124). -/
def driveFit (st : Fin 24) (s : Gx24) : Bool :=
  decide ((stationOf st s).state = .present) && (stationOf st s).drive.ready && !(stationOf st s).drive.fault

/-- The drive's reported position in sixteenths, 0 when none has been reported (R10, R107). -/
def reportedPosition (st : Fin 24) (s : Gx24) : Int :=
  match (stationOf st s).drive.position with
  | some p => sixteenths p.toInt
  | none => 0

/-- The axis stands at the drive's reported position: P and the reference are that position, V is 0, the last step reply
good, strikes and settle 0, and the stored setpoint is P with drive-enable off until the next step point (R107, R124;
assumption 14). -/
def Axis.placed (x : Axis) (p : Int) : Axis :=
  { x with
    position := p, velocity := 0, reference := p, stepGood := true, strikes := 0, settleCount := 0
    setpoint := some ⟨p, false⟩, cause := none, state := .idle }

/-- The axis leaves FAULT for IDLE (R124). -/
def recover (a : Fin 8) (st : Fin 24) (s : Gx24) : Gx24 :=
  let p := reportedPosition st s
  endAxisFault a (decideGuard a (modAxis a (fun x => x.placed p) s))

/-- The three conditions of R124 are tested. -/
def recoverTest (a : Fin 8) (s : Gx24) : Gx24 :=
  let x := axisOf a s
  match x.params.drive with
  | some st => if x.state = .fault ∧ x.acked ∧ driveFit st s ∧ !s.estop then recover a st s else s
  | none => s

/-- The Alert Unit's acknowledgement notice for an axis: the mark is set when the key is that of the raise of the current
FAULT, and the conditions are tested (R124). -/
def ackNotice (a : Fin 8) (key : AlertKey) (s : Gx24) : Gx24 :=
  let s := if (axisOf a s).faultKey = some key then modAxis a (fun x => { x with acked := true }) s else s
  recoverTest a s

/-- The Alert Unit's acknowledgement with its notices to the Motion Unit, in rising slot number and, for the lost axes of one
overflow record, rising axis number: the rules give no order (R135, R147; DESIGN CHOICE, assumption 29). -/
def acknowledgeAll (slots : List (Fin 64)) (s : Gx24) : Gx24 :=
  let (axes, s) := acknowledge slots s
  forList axes (fun n s => ackNotice n.1 n.2 s) s

/-- A good reply's drive data reach the axis of the station: the last step reply, the flags, the following-error check of
a step-point reply, and the recovery test (R91, R121, R122, R124; assumption 15). -/
def driveReported (a : Fin 8) (answersStep : Bool) (d : DriveReport) (s : Gx24) : Gx24 :=
  let s := if answersStep then modAxis a (fun x => { x with stepGood := true }) s else s
  let s := testFlags a d s
  let s := if answersStep then checkFollowing a d s else s
  recoverTest a s

/-! ### The step of an axis (R91) -/

/-- A completed segment: the next segment, the end of the program, or the first segment of a LOOP again (R97). -/
def completeSegment (a : Fin 8) (s : Gx24) : Gx24 :=
  let x := axisOf a s
  match x.job with
  | none => s
  | some j =>
    if x.segIndex + 1 < jobCount j s then startSegment a (modAxis a (fun x => { x with segIndex := x.segIndex + 1 }) s)
    else if x.mode = .once ∨ x.stopAtLoopEnd then endProgram a .done s
    else startSegment a (modAxis a (fun x => { x with segIndex := 0 }) s)

/-- The dwell of the segment in progress (R96). -/
def currentDwell (x : Axis) (s : Gx24) : Nat :=
  match x.job with
  | some j => (jobSegment j x.segIndex s).dwell
  | none => 0

/-- A segment arrives: complete at once with dwell 0, else DWELL (R96). -/
def arrive (a : Fin 8) (s : Gx24) : Gx24 :=
  let d := currentDwell (axisOf a s) s
  if d = 0 then completeSegment a (modAxis a Axis.atRest s)
  else modAxis a (fun x => { x.atRest with state := .dwell, dwell := d }) s

/-- The running step (R94). -/
def runningStep (a : Fin 8) (s : Gx24) : Gx24 :=
  let s := modAxis a Axis.runMotion s
  if (axisOf a s).distance = 0 then arrive a s else s

/-- The dwell step (R96). -/
def dwellStep (a : Fin 8) (s : Gx24) : Gx24 :=
  let s := modAxis a (fun x => { x with dwell := x.dwell - 1 }) s
  if (axisOf a s).dwell = 0 then completeSegment a s else s

/-- The halting step (R99). -/
def haltingStep (a : Fin 8) (s : Gx24) : Gx24 :=
  let s := modAxis a (fun x => x.brakeMotion x.params.accel) s
  if (axisOf a s).velocity = 0 ∨ (axisOf a s).distance = 0 then endProgram a .halted (modAxis a Axis.atRest s) else s

/-- The guard braking step (R100). -/
def brakingStep (a : Fin 8) (s : Gx24) : Gx24 :=
  let s := modAxis a (fun x => x.brakeMotion (4 * x.params.accel)) s
  let x := axisOf a s
  if x.distance = 0 ∧ x.resume = .running then
    modAxis a (fun x => { x.atRest with resume := .dwell, dwell := currentDwell x s }) s
  else if x.velocity = 0 ∧ x.resume = .halting then endProgram a .halted s
  else s

/-- The axis leaves GUARD-STOP for its resume state and takes that state's step (R101). -/
def resumeStep (a : Fin 8) (s : Gx24) : Gx24 :=
  match (axisOf a s).resume with
  | .running => runningStep a (modAxis a (fun x => { x with state := .running }) s)
  | .dwell => dwellStep a (modAxis a (fun x => { x with state := .dwell }) s)
  | .halting => haltingStep a (modAxis a (fun x => { x with state := .halting }) s)

/-- The step of an axis in GUARD-STOP: a closed guard advances the settle count, which resumes the axis when it reaches the
guard settle; otherwise the braking step is made (R119). -/
def guardStep (a : Fin 8) (s : Gx24) : Gx24 :=
  if (axisOf a s).guardOpen then brakingStep a (modAxis a (fun x => { x with settleCount := 0 }) s)
  else
    let s := modAxis a (fun x => { x with settleCount := x.settleCount + 1 }) s
    if (axisOf a s).params.guardSettle ≤ (axisOf a s).settleCount then resumeStep a s else brakingStep a s

/-- The step by the axis's state (R91). -/
def stateStep (a : Fin 8) (s : Gx24) : Gx24 :=
  match (axisOf a s).state with
  | .off => s
  | .idle => s
  | .fault => s
  | .running => runningStep a s
  | .dwell => dwellStep a s
  | .halting => haltingStep a s
  | .guardStop => guardStep a s

/-- The following-error reference becomes the position of the stored setpoint, before the step (R122). -/
def Axis.referred (x : Axis) : Axis :=
  { x with reference := match x.setpoint with | some p => p.position | none => x.reference }

/-- The Motion Unit steps an axis: held after a missed step reply, else by its state; then the setpoint is built, unless
the step has taken the axis OFF (R91, R103). -/
def stepAxis (a : Fin 8) (s : Gx24) : Gx24 :=
  let s := modAxis a Axis.referred s
  if !(axisOf a s).stepGood then growAxis a .heldSteps s
  else
    let s := stateStep a s
    if (axisOf a s).state = .off then s else buildSetpoint a s

/-! ### AXIS-ENABLE (R107, R108) -/

/-- The checks of an enable of an OFF axis, in order; the drive station when all pass (R107). -/
def enableCheck (a : Fin 8) (s : Gx24) : ReplyCode ⊕ Fin 24 :=
  match (axisOf a s).params.drive with
  | none => .inl .invalid
  | some st =>
    if (rowOf st s).kind ≠ .drive then .inl .invalid
    else if s.estop then .inl .live
    else if (stationOf st s).state ≠ .present then .inl .live
    else if !hasSlot st s then .inl .live
    else if !driveFit st s then .inl .live
    else .inr st

/-- The enabled axis: placed at the reported position, marks and times cleared, no owner and no claims (R107). -/
def Axis.enabled (x : Axis) (p : Int) (guardOpen : Bool) : Axis :=
  { x.placed p with
    acked := false, guardOpenTime := 0, guardOpen := guardOpen, disabling := false, owner := none, claims := [] }

/-- AXIS-ENABLE with the flag set (R107). -/
def enableAxis (a : Fin 8) (s : Gx24) : ReplyCode × Gx24 :=
  if (axisOf a s).state ≠ .off then (.ok, s)
  else match enableCheck a s with
    | .inl c => (c, s)
    | .inr st => (.ok, modAxis a (fun x => x.enabled (reportedPosition st s) (guardIsOpen a s)) s)

/-- AXIS-ENABLE with the flag clear (R108). -/
def disableAxis (a : Fin 8) (s : Gx24) : ReplyCode × Gx24 :=
  if (axisOf a s).state = .off then (.ok, s)
  else
    let s := refuseAll a .disabling (modAxis a (fun x => { x with disabling := true }) s)
    if (axisOf a s).state = .idle ∨ (axisOf a s).state = .fault then (.ok, goOff a s) else (.ok, haltNow a s)

/-! ### ESTOP_N (R125, R126) -/

/-- ESTOP_N becomes asserted; the axes fault in rising number (R125; DEDUCED, assumption 20). -/
def assertEstop (s : Gx24) : Gx24 :=
  if s.estop then s
  else
    let s := setPower (raise keyEstop { s with estop := true })
    let s := forRows (n := 8) (fun a s => modAxis a Axis.driveOff s) s
    forRows (n := 8) (fun a s => faultAxis a .estop s) s

/-- ESTOP_N becomes released: the ESTOP condition ends and MOTION_PWR is set, and then the axes are tested for recovery, in
rising number: the rules give no order (R124 to R126; DESIGN CHOICE, assumption 29). -/
def releaseEstop (s : Gx24) : Gx24 :=
  if !s.estop then s
  else
    let s := setPower (endCondition keyEstop { s with estop := false })
    forRows (n := 8) recoverTest s

end Sys2Proof.Machine
end

