-- ==== Sys2Proof/Machine/Exhibits.lean ====
section
/-! DEFINITION. The Exhibit Controller's operations: starting a chain on a runner, the four kinds of request, serving the
queue, crowding, the modes, the holds and the gallery's changes (chapter 3). -/

namespace Sys2Proof.Machine

/-! ### Starting a chain (R49, R65) -/

/-- What a start carries beside the exhibit (R49). -/
structure ChainStart where
  origin : Origin
  row : Option (Fin 128)
  input : Option (Fin 24 × Fin 8)
  index : Fin 1023
  tick : Word
  deriving DecidableEq, Repr

/-- The runner takes a start: STEPPING at the start index with no steps made (R65). -/
def Runner.started (r : Runner) (c : ChainStart) : Runner :=
  { r with
    state := .stepping, origin := c.origin, row := c.row, input := c.input, requestTick := c.tick
    index := c.index, steps := 0, awaitedCue := none, awaitedAxis := none }

/-- The exhibit grants its runner to a chain: ENGAGED, COOLDOWN ended (R49, R50). -/
def Exhibit.engaged (x : Exhibit) (c : ChainStart) : Exhibit :=
  { x with grant := some ⟨c.origin, c.row⟩, activity := .engaged, cooldown := 0 }

/-- A chain starts on the exhibit's runner; a start above ATTRACT reloads the idle timer (R49, R65, R159). -/
def startChain (e : Fin 16) (c : ChainStart) (s : Gx24) : Gx24 :=
  let s := modExhibit e (fun x => x.engaged c) (dropEnded e s)
  let s := if c.origin = .attract then s else reloadIdle e s
  post (.run e) (modRunner e (fun r => r.started c) s)

/-- The origin that holds the exhibit's runner. -/
def grantOrigin (e : Fin 16) (s : Gx24) : Option Origin := (exhibitOf e s).grant.map (·.origin)

/-- The runner is FREE and the exhibit is not in COOLDOWN. -/
def exhibitIdle (e : Fin 16) (s : Gx24) : Bool :=
  (exhibitOf e s).grant.isNone && decide ((exhibitOf e s).activity ≠ .cooldown)

/-! ### Crowding (R58) -/

/-- CROWDING is raised and the flood count becomes 0 (R58). -/
def raiseCrowding (e : Fin 16) (s : Gx24) : Gx24 :=
  raise (keyExhibit clsCrowding .none e) (modExhibit e (fun x => { x with flood := 0 }) s)

/-- The flood count advances by one, and at the threshold raises CROWDING (R58). -/
def advanceFlood (e : Fin 16) (s : Gx24) : Gx24 :=
  let x := exhibitOf e s
  if x.record.flood = 0 then s
  else if x.record.flood ≤ x.flood + 1 then raiseCrowding e s
  else modExhibit e (fun x => { x with flood := x.flood + 1 }) s

/-! ### Visitors (R51, R57) -/

/-- A VISITOR chain of a row starts, its start index resolved now: accepted is counted and the flood count becomes 0
(R36, R51, R57). -/
def startVisitor (e : Fin 16) (row : Fin 128) (input : Fin 24 × Fin 8) (arrival : Word) (s : Gx24) : Gx24 :=
  let (i, s) := startIndex row s
  let s := modExhibit e (fun x => { x with flood := 0 }) (growExhibit e .accepted 1 s)
  startChain e ⟨.visitor, some row, some input, i, arrival⟩ s

/-- The queue entry is too old for the patience (R57). -/
def QueueEntry.stale (q : QueueEntry) (patience : Nat) : Bool := decide (0 < patience) && decide (patience < q.waited)

/-- The queue is served from this list on: stale entries are dropped, the first entry within its patience starts, and with
none left the exhibit is IDLE (R57). -/
def serveFrom (e : Fin 16) : List QueueEntry → Gx24 → Gx24
  | [], s => modExhibit e (fun x => { x with queue := [], activity := .idle }) s
  | q :: rest, s =>
    let s := modExhibit e (fun x => { x with queue := rest }) s
    if q.stale (exhibitOf e s).record.patience then serveFrom e rest (advanceFlood e (growExhibit e .stale 1 s))
    else startVisitor e q.row (q.station, q.input) q.arrival s

/-- The exhibit serves its queue (R57). -/
def serveQueue (e : Fin 16) (s : Gx24) : Gx24 := serveFrom e (exhibitOf e s).queue s

/-- A VISITOR press of a busy or cooling exhibit: merged, queued or refused (R51). -/
def queueVisitor (e : Fin 16) (row : Fin 128) (input : Fin 24 × Fin 8) (s : Gx24) : Gx24 :=
  let x := exhibitOf e s
  if x.queue.any (fun q => decide (q.row = row)) then advanceFlood e (growExhibit e .merged 1 s)
  else if x.queue.length < x.record.depth then
    let q : QueueEntry := ⟨row, input.1, input.2, s.gc.tick, 0⟩
    let s := modExhibit e (fun x => { x with queue := x.queue ++ [q] }) s
    maskEvent e (·.acceptedPress) (growExhibit e .queued 1 s)
  else advanceFlood e (growExhibit e .refusedFull 1 s)

/-- A VISITOR request (R50, R51). -/
def visitorRequest (e : Fin 16) (row : Fin 128) (input : Fin 24 × Fin 8) (s : Gx24) : Gx24 :=
  if exhibitIdle e s then maskEvent e (·.acceptedPress) (startVisitor e row input s.gc.tick s)
  else if grantOrigin e s = some .attract then
    maskEvent e (·.acceptedPress) (startVisitor e row input s.gc.tick (abortChain e s))
  else queueVisitor e row input s

/-! ### Shows, attendants, attract (R52 to R54) -/

/-- A SHOW request and its result (R52). -/
def showRequest (e : Fin 16) (start : Fin 512) (due : Word) (s : Gx24) : CueResult × Gx24 :=
  if (exhibitOf e s).mode ≠ .pub then (.notPublic, growExhibit e .showCuesMissed 1 s)
  else if grantOrigin e s = some .showCue ∨ grantOrigin e s = some .attendant then
    (.missedBusy, growExhibit e .showCuesMissed 1 s)
  else
    let s := growExhibit e .showCuesRun 1 (abortChain e s)
    (.ran, startChain e ⟨.showCue, none, none, entryIndex start, due⟩ s)

/-- An ATTENDANT request (R53). -/
def attendantRequest (e : Fin 16) (row : Fin 128) (input : Fin 24 × Fin 8) (s : Gx24) : Gx24 :=
  if grantOrigin e s = some .attendant then growExhibit e .attendantDropped 1 s
  else
    let (i, s) := startIndex row (growExhibit e .attendantRuns 1 (abortChain e s))
    startChain e ⟨.attendant, some row, some input, i, s.gc.tick⟩ s

/-- An ATTRACT request (R54). -/
def attractRequest (e : Fin 16) (s : Gx24) : Gx24 :=
  match (exhibitOf e s).record.attract with
  | some a =>
    if (exhibitOf e s).mode = .pub ∧ exhibitIdle e s then
      startChain e ⟨.attract, none, none, entryIndex a, s.gc.tick⟩ (growExhibit e .attractRuns 1 s)
    else reloadIdle e s
  | none => s

/-! ### The runner frees (R55, R56) -/

/-- The Chain Runner's report that a chain of this origin has ended: COOLDOWN after a VISITOR chain of a PUBLIC exhibit
with a cooldown, else the queue is served (R55). -/
def runnerFreed (e : Fin 16) (o : Origin) (s : Gx24) : Gx24 :=
  let s := modExhibit e (fun x => { x with grant := none, activity := .idle }) s
  let x := exhibitOf e s
  if o = .visitor ∧ x.mode = .pub ∧ 0 < x.record.cooldown then
    modExhibit e (fun x => { x with activity := .cooldown, cooldown := x.record.cooldown }) s
  else serveQueue e s

/-- A cooldown has reached 0: the exhibit leaves COOLDOWN and serves its queue (R56). -/
def cooldownOver (e : Fin 16) (s : Gx24) : Gx24 :=
  if (exhibitOf e s).activity = .cooldown ∧ (exhibitOf e s).cooldown = 0 then
    serveQueue e (modExhibit e (fun x => { x with activity := .idle }) s)
  else s

/-! ### Taking the runner away (R45, R47, R59) -/

/-- The press queue is emptied, each entry counted cleared (R45, R47, R59). -/
def clearQueue (e : Fin 16) (s : Gx24) : Gx24 :=
  let n := (exhibitOf e s).queue.length
  modExhibit e (fun x => { x with queue := [] }) (growExhibit e .cleared n s)

/-- COOLDOWN ends and the remaining cooldown is dropped (R45, R47, R59). -/
def endCooldown (e : Fin 16) (s : Gx24) : Gx24 :=
  modExhibit e (fun x => { x with
    cooldown := 0, activity := if x.activity = .cooldown then .idle else x.activity }) s

/-- The runner's chain is aborted for the Exhibit Controller, which finds the runner FREE and enters neither COOLDOWN nor
service (R45, R47, R59). -/
def vacate (e : Fin 16) (s : Gx24) : Gx24 :=
  modExhibit e (fun x => { x with grant := none, activity := .idle }) (dropEnded e (abortChain e s))

/-- The mode changes: stories emptied and the status lamp written; a move into or out of DARK has the beacons and
SUPERVISOR rendered (R38, R48, R145). -/
def changeMode (e : Fin 16) (m : Mode) (s : Gx24) : Gx24 :=
  let old := (exhibitOf e s).mode
  let s := showMode e (clearStories e (modExhibit e (fun x => { x with mode := m }) s))
  if old = .dark ∨ m = .dark then render s else s

/-! ### Holds (R46, R47) -/

/-- A PUBLIC exhibit that is now named becomes HELD; an ATTENDANT chain is kept (R47). -/
def enterHeld (e : Fin 16) (s : Gx24) : Gx24 :=
  let s := endCooldown e (clearQueue e s)
  let s := if (grantOrigin e s).isSome ∧ grantOrigin e s ≠ some .attendant then vacate e s else s
  reloadIdle e (changeMode e .held s)

/-- A HELD exhibit that is no longer named becomes PUBLIC (R47). -/
def leaveHeld (e : Fin 16) (s : Gx24) : Gx24 := reloadIdle e (changeMode e .pub s)

/-- One exhibit is re-evaluated against a new held set (R46, R47). -/
def applyHold (set : ExhibitSet) (e : Fin 16) (s : Gx24) : Gx24 :=
  match (exhibitOf e s).mode with
  | .pub => if tget set e then enterHeld e s else s
  | .held => if tget set e then s else leaveHeld e s
  | .dark => s
  | .service => s

/-- A new held set reaches the Exhibit Controller and moves the exhibits, in rising exhibit number: R46 and R47 give no order
(DESIGN CHOICE, assumption 29). -/
def applyHeld (set : ExhibitSet) (s : Gx24) : Gx24 := forRows (n := 16) (applyHold set) s

/-! ### EXHIBIT-MODE (R42 to R45) -/

/-- The entry an action number names is FREE. -/
def startsFree (a : Fin 512) (s : Gx24) : Bool := tget s.cr.actions a = .free

/-- A row of the exhibit fails the PUBLIC check: a VISITOR row without start action, or a start action that names a FREE
entry (R43). -/
def rowFails (e : Fin 16) (r : Fin 128) (s : Gx24) : Bool :=
  let t := triggerOf r s
  decide (t.exhibit = some e) &&
    (match t.start with
      | some a => startsFree a s
      | none => decide (t.cls = .visitor))

/-- The first failure of the PUBLIC check, as the reply names it: a row number, or 0xFE for the attract start (R43, 11.3). -/
def publicCheck (e : Fin 16) (s : Gx24) : Option Byte :=
  match firstRow (fun r => rowFails e r s) with
  | some r => some (BitVec.ofNat 8 r.val)
  | none =>
    match (exhibitOf e s).record.attract with
    | some a => if startsFree a s then some 0xFE#8 else none
    | none => none

/-- The exhibit leaves DARK or SERVICE: HELD when the held set names it, else PUBLIC (R44). -/
def goPublic (e : Fin 16) (s : Gx24) : Gx24 :=
  let m := if tget (currentHeld s) e then Mode.held else .pub
  let s := modExhibit e (fun x => { x with flood := 0, activity := .idle }) s
  reloadIdle e (changeMode e m s)

/-- The exhibit leaves PUBLIC or HELD for SERVICE or DARK (R45). -/
def leavePublic (e : Fin 16) (m : Mode) (s : Gx24) : Gx24 :=
  let s := vacate e (endCooldown e (clearQueue e s))
  reloadIdle e (changeMode e m s)

/-- EXHIBIT-MODE with target PUBLIC: unchanged in HELD, else the check and the change (R42 to R44). -/
def modePublic (e : Fin 16) (s : Gx24) : ReplyCode × List Byte × Gx24 :=
  if (exhibitOf e s).mode = .held ∨ (exhibitOf e s).mode = .pub then (.ok, [], s)
  else match publicCheck e s with
    | some b => (.invalid, [b], s)
    | none => (.ok, [], goPublic e s)

/-- EXHIBIT-MODE with target DARK or SERVICE (R42, R45). -/
def modeClosed (e : Fin 16) (m : Mode) (s : Gx24) : ReplyCode × List Byte × Gx24 :=
  let old := (exhibitOf e s).mode
  if old = m then (.ok, [], s)
  else if old = .pub ∨ old = .held then (.ok, [], leavePublic e m s)
  else (.ok, [], changeMode e m s)

/-- EXHIBIT-MODE of an exhibit and a target (R42). -/
def setMode (e : Fin 16) (m : Mode) (s : Gx24) : ReplyCode × List Byte × Gx24 :=
  match m with
  | .held => (.invalid, [], s)
  | .pub => modePublic e s
  | .dark => modeClosed e .dark s
  | .service => modeClosed e .service s

/-! ### The gallery's changes (R59) -/

/-- One exhibit at the gallery's entry into CLOSED (R59). -/
def closeExhibit (e : Fin 16) (s : Gx24) : Gx24 :=
  let s := endCooldown e (clearQueue e s)
  if grantOrigin e s = some .visitor ∨ grantOrigin e s = some .attract then vacate e s else s

/-- The gallery enters CLOSED, and the exhibits are told in rising number: R59 gives no order (R154, R59; DESIGN CHOICE,
assumption 29). -/
def closeGallery (s : Gx24) : Gx24 :=
  forRows (n := 16) closeExhibit { s with ac := { s.ac with gallery := .closed } }

/-- The gallery enters QUIET: every ATTRACT chain is aborted, in rising exhibit number: R59 gives no order (R155, R59; DESIGN
CHOICE, assumption 29). -/
def quietGallery (s : Gx24) : Gx24 :=
  forRows (n := 16) (fun e s => if grantOrigin e s = some .attract then vacate e s else s)
    { s with ac := { s.ac with gallery := .quiet } }

/-- The quiet timer and every idle timer are reloaded (R153, R165). -/
def reloadAllTimers (s : Gx24) : Gx24 := forRows (n := 16) reloadIdle (reloadQuiet s)

/-- The gallery enters OPEN from CLOSED (R153). -/
def openGallery (s : Gx24) : Gx24 := reloadAllTimers { s with ac := { s.ac with gallery := .opened } }

/-! ### The idle expiry (R160) -/

/-- An exhibit's idle timer expires: stories, an ATTRACT request in an OPEN gallery, reload (R160). -/
def expireIdle (e : Fin 16) (s : Gx24) : Gx24 :=
  let s := clearStories e s
  let s := if s.ac.gallery = .opened then attractRequest e s else s
  reloadIdle e s

/-- The quiet timer has reached 0: an OPEN gallery becomes QUIET (R155). -/
def expireQuiet (s : Gx24) : Gx24 := if s.ac.gallery = .opened then quietGallery s else s

/-! ### HOLD rows (R34) -/

/-- The release of a HOLD row: the row's queued press is removed and counted cancelled, then the row's running chain is
aborted (R34). -/
def holdRelease (e : Fin 16) (row : Fin 128) (s : Gx24) : Gx24 :=
  let s :=
    if (exhibitOf e s).queue.any (fun q => decide (q.row = row)) then
      modExhibit e (fun x => { x with queue := x.queue.filter (fun q => decide (q.row ≠ row)) })
        (growExhibit e .cancelled 1 s)
    else s
  if (runnerOf e s).state ≠ .free ∧ (runnerOf e s).row = some row then abortReported e s else s

end Sys2Proof.Machine
end

