-- ==== Sys2Proof/Machine/Chain.lean ====
section
/-! DEFINITION. The Chain Runner's execution of one action entry, the referrals and verdicts, and chain faults
(chapter 4). -/

namespace Sys2Proof.Machine

/-- The most actions a chain executes between two suspensions (R67). -/
def stepLimit : Nat := 32

/-- A chain fault: the chain is aborted and CHAIN-FAULT raised with its cause (R85). R85 gives no order between the two: the
steps of the abort come first (DESIGN CHOICE, assumption 31). -/
def chainFault (e : Fin 16) (cause : AlertCause) (s : Gx24) : Gx24 :=
  raise (keyExhibit clsChainFault cause e) (abortReported e s)

/-! ### Actions (R69 to R75, R79) -/

/-- LAMP (R69). -/
def doLamp (e : Fin 16) (st : Fin 24) (out : Fin 8) (p : LampPattern) (link : Link) (s : Gx24) : Gx24 :=
  follow e link (writeLamp st out p s)

/-- CUE: with wait, the runner waits for the serial stored; a cue not stored waits for nothing (R70). -/
def doCue (e : Fin 16) (st : Fin 24) (number : Byte) (wait : Bool) (link : Link) (s : Gx24) : Gx24 :=
  match writeCue st number s with
  | (some serial, s) =>
    if wait then suspend e .waitCue (modRunner e (fun r => { r with awaitedCue := some (st, serial) }) s)
    else follow e link s
  | (none, s) => follow e link s

/-- The runner stands at its MOVE with the claim given and no answer yet. -/
def Runner.claiming (r : Runner) (a : Fin 8) : Runner := { r with state := .waitClaim, awaitedAxis := some a }

/-- MOVE: the claim is given; the runner goes on or waits by the answer, and a pending claim is a suspension (R75). -/
def doMove (e : Fin 16) (a : Fin 8) (p : Fin 64) (m : RunMode) (s : Gx24) : Gx24 :=
  let origin := (runnerOf e s).origin
  let s := claimAxis a ⟨.exhibit e, origin, .program p, m, 0⟩ (modRunner e (fun r => r.claiming a) s)
  if awaitsClaim e a s then suspend e .waitClaim s else s

/-- HALT-AXIS: halts the axis if the exhibit owns it (R71). -/
def doHaltAxis (e : Fin 16) (a : Fin 8) (m : Manner) (link : Link) (s : Gx24) : Gx24 :=
  follow e link (if ownsAxis e a s then haltAxis a m s else s)

/-- WAIT (R74). -/
def doWait (e : Fin 16) (ticks : Nat) (s : Gx24) : Gx24 :=
  suspend e .waitTicks (modRunner e (fun r => { r with wait := ticks }) s)

/-- ALERT: a momentary alert of a user class naming the exhibit (R72). -/
def doAlert (e : Fin 16) (cls : Fin 16) (link : Link) (s : Gx24) : Gx24 :=
  follow e link (raise (keyExhibit cls .none e) s)

/-- The link a verdict takes at a REFER entry; at another entry its one link (R79, R80). -/
def Action.verdictLink (v : Verdict) : Action → Link
  | .refer _ _ _ go stop => if v = .go then go else stop
  | act => act.link

/-- The default of a REFER entry; GO at another entry. -/
def Action.default : Action → Verdict
  | .refer _ _ d _ _ => d
  | _ => .go

/-- The runner takes its REFER entry's default, counted as defaulted (R79, R81, R82). -/
def takeDefault (e : Fin 16) (s : Gx24) : Gx24 :=
  let act := entryOf e s
  follow e (act.verdictLink act.default) (growExhibit e .referralsDefaulted 1 s)

/-- The next referral serial: an absent one becomes 0 (R79). -/
def nextReferral (last : Option Serial) : Serial :=
  match last with
  | some n => n + 1#4
  | none => 0#4

/-- REFER outside ISLAND: the REFERRAL is sent and the runner waits for the verdict (R79). -/
def sendReferral (e : Fin 16) (tag : Byte) (timeout : Nat) (s : Gx24) : Gx24 :=
  let r := runnerOf e s
  let n := nextReferral r.lastReferral
  let s := modRunner e (fun r => { r with lastReferral := some n, wait := timeout }) s
  let s := growExhibit e .referralsSent 1 (sendUp (.referral e n tag r.row r.input r.requestTick) s)
  suspend e .waitVerdict s

/-- REFER (R79). -/
def doRefer (e : Fin 16) (tag : Byte) (timeout : Nat) (s : Gx24) : Gx24 :=
  if s.gc.state = .island then takeDefault e s else sendReferral e tag timeout s

/-- COUNT (R73). -/
def doCount (e : Fin 16) (c : Fin 64) (amount : Nat) (link : Link) (s : Gx24) : Gx24 := follow e link (growUsage c amount s)

/-- One entry executed whole, and its link followed unless it suspends (R66, R68). -/
def perform (e : Fin 16) (act : Action) (s : Gx24) : Gx24 :=
  match act with
  | .free => chainFault e .freeEntry s
  | .lamp st out p l => doLamp e st out p l s
  | .cue st n w l => doCue e st n w l s
  | .move a p m _ _ => doMove e a p m s
  | .haltAxis a m l => doHaltAxis e a m l s
  | .wait n _ => doWait e n s
  | .pause l => chainPause e l s
  | .alert c l => doAlert e c l s
  | .refer tag n _ _ _ => doRefer e tag n s
  | .count c n l => doCount e c n l s

/-- A runner in STEPPING: the step check, the entry check, then one action (R66 to R68). -/
def runStep (e : Fin 16) (s : Gx24) : Gx24 :=
  let r := runnerOf e s
  if r.state ≠ .stepping then s
  else if stepLimit ≤ r.steps then chainFault e .loop s
  else match actionAt r.index s with
    | .free => chainFault e .freeEntry s
    | act => perform e act (modRunner e (fun r => { r with steps := r.steps + 1 }) s)

/-! ### Ends of waits (R74, R80 to R82) -/

/-- A WAIT has run out (R74). -/
def endWait (e : Fin 16) (s : Gx24) : Gx24 :=
  if (runnerOf e s).state = .waitTicks ∧ (runnerOf e s).wait = 0 then leave e s else s

/-- A referral's timeout has run out (R81). -/
def timeOutReferral (e : Fin 16) (s : Gx24) : Gx24 :=
  if (runnerOf e s).state = .waitVerdict ∧ (runnerOf e s).wait = 0 then takeDefault e s else s

/-- The clock has become ISLAND: every runner in WAIT-VERDICT takes its default, in rising exhibit number: R82 gives no order
(DESIGN CHOICE, assumption 29). A held set that TRUNK-LOST gives is taken after them (DESIGN CHOICE, assumption 31). -/
def islandDefaults (s : Gx24) : Gx24 :=
  forRows (n := 16) (fun e s => if (runnerOf e s).state = .waitVerdict then takeDefault e s else s) s

/-- A VERDICT for an exhibit's runner: taken, late or stray (R80). -/
def takeVerdict (e : Fin 16) (serial : Serial) (v : Verdict) (s : Gx24) : Gx24 :=
  let r := runnerOf e s
  if r.lastReferral ≠ some serial then growExhibit e .verdictsStray 1 s
  else if r.state = .waitVerdict then follow e ((entryOf e s).verdictLink v) (growExhibit e .verdictsTaken 1 s)
  else growExhibit e .verdictsLate 1 s

end Sys2Proof.Machine
end

