-- ==== Sys2Proof/Machine/Press.lean ====
section
/-! DEFINITION. The Press Dispatcher: from an input event of a station to what it means (R19, R23, R26 to R34). -/

namespace Sys2Proof.Machine

/-- The index of a station input in the input map (2.1). -/
def mapIndex (st : Fin 24) (i : Fin 8) : Fin 192 := ⟨st.val * 8 + i.val, by omega⟩

/-- The edge counts for the row (R26). -/
def edgeCounts (row : RowEdge) (e : Edge) : Bool :=
  match row, e with
  | .press, .press => true
  | .release, .release => true
  | .hold, _ => true
  | .press, .release => false
  | .release, .press => false

/-- An INPUT-REPORT of an event (R19, R29). -/
def reportInput (st : Fin 24) (i : Fin 8) (edge : Edge) (s : Gx24) : Gx24 := sendUp (.inputReport st i edge s.gc.tick) s

/-- An event handed back as unmapped: counted, and reported when the station's row forwards (R19). -/
def unmappedEvent (st : Fin 24) (i : Fin 8) (edge : Edge) (s : Gx24) : Gx24 :=
  let s := growStation st .unmapped 1 s
  if (rowOf st s).forwardUnmapped then reportInput st i edge s else s

/-- An attendant's key at an exhibit acknowledges the records it reaches (R33, R136). -/
def turnKey (e : Fin 16) (s : Gx24) : Gx24 :=
  let s := growAlert .keyAcks s
  acknowledgeAll (keyReach e s) s

/-- A counting event of a SERVICE exhibit: the key acknowledges, other events are reported (R29). -/
def pressService (e : Fin 16) (t : TriggerRow) (st : Fin 24) (i : Fin 8) (edge : Edge) (s : Gx24) : Gx24 :=
  if t.cls = .attendant then (if t.edge = .hold ∧ edge = .release then s else turnKey e s)
  else reportInput st i edge s

/-- The press of a VISITOR row, or the follow-on of a HELP row: a request when PUBLIC, refused when HELD (R31, R32). -/
def pressVisitor (e : Fin 16) (r : Fin 128) (input : Fin 24 × Fin 8) (s : Gx24) : Gx24 :=
  if (exhibitOf e s).mode = .held then growExhibit e .refusedHeld 1 s else visitorRequest e r input s

/-- The press of a HELP row: HELP is raised, and a row with a start action follows on as a visitor press (R32). -/
def pressHelp (e : Fin 16) (r : Fin 128) (input : Fin 24 × Fin 8) (s : Gx24) : Gx24 :=
  let s := raise (keyExhibit clsHelp .none e) s
  if (triggerOf r s).start.isSome then pressVisitor e r input s else s

/-- The press of an ATTENDANT row: the key, then a request when the row has a start action (R33). -/
def pressAttendant (e : Fin 16) (r : Fin 128) (input : Fin 24 × Fin 8) (s : Gx24) : Gx24 :=
  let s := turnKey e s
  if (triggerOf r s).start.isSome then attendantRequest e r input s else s

/-- The press of a row whose exhibit is PUBLIC or HELD (R30 to R33). -/
def pressOpen (e : Fin 16) (r : Fin 128) (cls : RowClass) (input : Fin 24 × Fin 8) (s : Gx24) : Gx24 :=
  match cls with
  | .attendant => pressAttendant e r input s
  | .visitor => if s.ac.gallery = .closed then growExhibit e .refusedClosed 1 s else pressVisitor e r input s
  | .help => if s.ac.gallery = .closed then growExhibit e .refusedClosed 1 s else pressHelp e r input s

/-- A counting event of a PUBLIC or HELD exhibit: the press notice, then the release of a HOLD row or the press (R27, R30
to R34). -/
def dispatchPublic (e : Fin 16) (r : Fin 128) (t : TriggerRow) (st : Fin 24) (i : Fin 8) (edge : Edge) (s : Gx24) : Gx24 :=
  let s := pressNotice e (decide (t.cls ≠ .attendant)) s
  if t.edge = .hold ∧ edge = .release then holdRelease e r s else pressOpen e r t.cls (st, i) s

/-- A counting event is dispatched by the exhibit's mode (R26, R28 to R34). -/
def dispatch (e : Fin 16) (r : Fin 128) (t : TriggerRow) (st : Fin 24) (i : Fin 8) (edge : Edge) (s : Gx24) : Gx24 :=
  match (exhibitOf e s).mode with
  | .dark => growExhibit e .ignoredDark 1 s
  | .service => pressService e t st i edge s
  | .pub => dispatchPublic e r t st i edge s
  | .held => dispatchPublic e r t st i edge s

/-- An event of a station input is looked up and dispatched (R23, R26). -/
def inputEvent (st : Fin 24) (i : Fin 8) (edge : Edge) (s : Gx24) : Gx24 :=
  match tget s.pd.inputMap (mapIndex st i) with
  | none => unmappedEvent st i edge s
  | some r =>
    let t := triggerOf r s
    match t.exhibit with
    | none => unmappedEvent st i edge s
    | some e => if edgeCounts t.edge edge then dispatch e r t st i edge s else s

end Sys2Proof.Machine
end

