-- ==== Sys2Proof/Machine/Work.lean ====
section
/-! DEFINITION. Delivering the notices in flight between the blocks until none is left (assumption 2): where the manual
fixes no order among those that could be taken next, a free choice picks one. -/

namespace Sys2Proof.Machine

/-- A show cue fires: its SHOW request is answered, the outcome reported, and a miss counted for STATUS (R175, R176). -/
def reportCue (exhibit : Byte) (due : Word) (tag : Option Byte) (r : CueResult) (s : Gx24) : Gx24 :=
  sendUp (.cueReport exhibit due tag r s.gc.tick) s

/-- The missed count grows by one, stopping at 255 (R176). -/
def countMiss (s : Gx24) : Gx24 := { s with gc := { s.gc with missed := min (s.gc.missed + 1) 255 } }

/-- An exhibit number as its byte. -/
def exhibitByte (e : Fin 16) : Byte := BitVec.ofNat 8 e.val

/-- A show cue becomes a SHOW request, and its result a CUE-REPORT (R173 Now, R175, R176). R182 leaves its place in the up queue
open: it comes after the frames of the axes that the chain preempted releases and before those of the chain started (DESIGN
CHOICE, assumption 31). -/
def runCue (c : CueEntry) (s : Gx24) : Gx24 :=
  let (r, s) := showRequest c.exhibit c.start c.due s
  reportCue (exhibitByte c.exhibit) c.due (some c.tag) r (if r = .ran then s else countMiss s)

/-- A TICK frame's OPEN opens a CLOSED gallery, its CLOSE closes another (R153, R154). -/
def galleryCommand (opens : Bool) (s : Gx24) : Gx24 :=
  match opens, s.ac.gallery with
  | true, .closed => openGallery s
  | true, .opened => s
  | true, .quiet => s
  | false, .closed => s
  | false, .opened => closeGallery s
  | false, .quiet => closeGallery s

/-- A notice is taken by the block it goes to. -/
def deliver (w : Work) (s : Gx24) : Gx24 :=
  match w with
  | .run e => runStep e s
  | .ended e o => runnerFreed e o s
  | .held set => applyHeld set s
  | .cooldownEnd e => cooldownOver e s
  | .waitEnd e => endWait e s
  | .referralTimeout e => timeOutReferral e s
  | .claimTimeout a c => timeOutClaim a c s
  | .guardHeld a => if (axisOf a s).guardOpen then raiseGuardHeld a s else s
  | .quietExpiry => expireQuiet s
  | .idleExpiry e => expireIdle e s
  | .fireCue c => runCue c s
  | .gallery opens => galleryCommand opens s

/-- The notice is an expiry that the Activity Unit's count has brought about (R155, R158). -/
def Work.isActivity : Work → Bool
  | .quietExpiry => true
  | .idleExpiry _ => true
  | _ => false

/-- The notice may be taken while these wait: a TICK frame's command only after the Activity Unit's expiries (R153). -/
def Work.mayCome (waiting : List Work) : Work → Bool
  | .gallery _ => !waiting.any Work.isActivity
  | _ => true

/-- Held sets stay only where no other stands before them. -/
def firstHeld : List Work → Bool → List Work
  | [], _ => []
  | .held h :: rest, heldBefore => if heldBefore then firstHeld rest true else .held h :: firstHeld rest true
  | w :: rest, heldBefore => w :: firstHeld rest heldBefore

/-- The notices that may be taken next: every one, but held sets only in the order in which they were given (R46), and a
TICK frame's command only after the Activity Unit's expiries (R153). -/
def nextNotices (ws : List Work) : List Work := (firstHeld ws false).filter (Work.mayCome ws)

/-- The one taken next: the only one that may be, or a free choice among them (assumption 2). -/
def chooseNotice (ws : List Work) (s : Gx24) : Option Work × Gx24 :=
  match ws with
  | [] => (none, s)
  | [w] => (some w, s)
  | w :: rest =>
    let (n, s) := openChoice s
    ((w :: rest)[n % (rest.length + 1)]?, s)

/-- One notice in flight is taken. -/
def deliverOne (s : Gx24) : Gx24 :=
  match chooseNotice (nextNotices s.work) s with
  | (some w, s) => deliver w { s with work := s.work.erase w }
  | (none, s) => s

/-- Notices are taken one after another, at most this many. -/
def settleWith : Nat → Gx24 → Gx24
  | 0, s => s
  | n + 1, s => if s.work = [] then s else settleWith n (deliverOne s)

/-- The most notices one command lets be taken (assumption 13). -/
def settleLimit : Nat := 8192

/-- Every notice in flight is taken. -/
def settle (s : Gx24) : Gx24 := settleWith settleLimit s

/-- The notice is one that a tick event itself has given: an expiry, or the frame's command. -/
def Work.ofTick : Work → Bool
  | .cooldownEnd _ => true
  | .waitEnd _ => true
  | .referralTimeout _ => true
  | .claimTimeout _ _ => true
  | .guardHeld _ => true
  | .quietExpiry => true
  | .idleExpiry _ => true
  | .gallery _ => true
  | .run _ => false
  | .ended _ _ => false
  | .held _ => false
  | .fireCue _ => false

/-- Notices are taken until none is left but what the tick event itself has given; of that, a free choice says before each
whether it waits longer (R167, R175). -/
def settleSomeWith : Nat → Gx24 → Gx24
  | 0, s => s
  | n + 1, s =>
    if s.work = [] then s
    else if s.work.all Work.ofTick then
      let (c, s) := openChoice s
      if c % 2 = 1 then s else settleSomeWith n (deliverOne s)
    else settleSomeWith n (deliverOne s)

/-- What has been brought about is whole, and what the tick event gave may still be in flight (assumption 2). -/
def settleSome (s : Gx24) : Gx24 := settleSomeWith settleLimit s

end Sys2Proof.Machine
end

