-- ==== Sys2Proof/Machine/Operands.lean ====
section
/-! DEFINITION. The codes of fields in frames and rows (11.2): the byte of each value, and for the fields the part
receives the value of each byte. A byte that is no code of its field decodes to none. -/

namespace Sys2Proof.Machine

/-- A number as one byte. -/
def byteOf (n : Nat) : Byte := BitVec.ofNat 8 n

/-- A number as a byte whose absent code is 0xFF (11.2). -/
def optByte (n : Option Nat) : Byte :=
  match n with
  | some n => byteOf n
  | none => 0xFF#8

/-- A yes/no field: bit 0 of its byte (11.2, R191). -/
def flagOf (b : Byte) : Bool := b.getLsbD 0

/-- A yes/no value as its byte. -/
def flagByte (b : Bool) : Byte := if b then 1#8 else 0#8

/-- An index below `n` read from a byte. -/
def indexOf (n : Nat) (b : Byte) : Option (Fin n) := if h : b.toNat < n then some ⟨b.toNat, h⟩ else none

/-- An index below `n` read from a 16-bit field. -/
def indexOfWord (n : Nat) (w : Word) : Option (Fin n) := if h : w.toNat < n then some ⟨w.toNat, h⟩ else none

/-- An optional index of one byte: 0xFF is absent (11.2); none when the byte is neither an index nor its absent code. -/
def optIndexOf (n : Nat) (b : Byte) : Option (Option (Fin n)) :=
  if b = 0xFF#8 then some none else (indexOf n b).map some

/-- An optional action index of 16 bits: 0xFFFF is absent (11.2). -/
def optActionOf (w : Word) : Option (Option (Fin 512)) :=
  if w = 0xFFFF#16 then some none else (indexOfWord 512 w).map some

/-- A link: 0 to 1022, or 0xFFFF for END (4.1, 11.2). -/
def linkOf (w : Word) : Option Link := if w = 0xFFFF#16 then some .endOfChain else (indexOfWord 1023 w).map .to

/-- The 16-bit field of a link. -/
def Link.word : Link → Word
  | .to i => BitVec.ofNat 16 i.val
  | .endOfChain => 0xFFFF#16

/-- The code of a kind (11.2). -/
def StationKind.code : StationKind → Byte
  | .panel => 0#8
  | .drive => 1#8
  | .beacon => 2#8

/-- The kind a byte codes (11.2). -/
def StationKind.ofCode (b : Byte) : Option StationKind :=
  match b.toNat with
  | 0 => some .panel
  | 1 => some .drive
  | 2 => some .beacon
  | _ => none

/-- The code of a lamp pattern (11.2). -/
def LampPattern.code : LampPattern → Byte
  | .off => 0#8
  | .on => 1#8
  | .slow => 2#8
  | .fast => 3#8

/-- The lamp pattern a byte codes (11.2). -/
def LampPattern.ofCode (b : Byte) : Option LampPattern :=
  match b.toNat with
  | 0 => some .off
  | 1 => some .on
  | 2 => some .slow
  | 3 => some .fast
  | _ => none

/-- The code of a beacon pattern (11.2). -/
def BeaconPattern.code : BeaconPattern → Byte
  | .dark => 0#8
  | .steady => 1#8
  | .slow => 2#8
  | .fast => 3#8
  | .red => 4#8

/-- The code of a row class (11.2). -/
def RowClass.code : RowClass → Byte
  | .visitor => 0#8
  | .help => 1#8
  | .attendant => 2#8

/-- The row class a byte codes (11.2). -/
def RowClass.ofCode (b : Byte) : Option RowClass :=
  match b.toNat with
  | 0 => some .visitor
  | 1 => some .help
  | 2 => some .attendant
  | _ => none

/-- The code of a row edge (11.2). -/
def RowEdge.code : RowEdge → Byte
  | .press => 0#8
  | .release => 1#8
  | .hold => 2#8

/-- The row edge a byte codes (11.2). -/
def RowEdge.ofCode (b : Byte) : Option RowEdge :=
  match b.toNat with
  | 0 => some .press
  | 1 => some .release
  | 2 => some .hold
  | _ => none

/-- The code of a row style (11.2). -/
def RowStyle.code : RowStyle → Byte
  | .fresh => 0#8
  | .stepped => 1#8

/-- The row style a byte codes (11.2). -/
def RowStyle.ofCode (b : Byte) : Option RowStyle :=
  match b.toNat with
  | 0 => some .fresh
  | 1 => some .stepped
  | _ => none

/-- The code of a event edge (11.2). -/
def Edge.code : Edge → Byte
  | .press => 0#8
  | .release => 1#8

/-- The code of a exhibit mode (11.2). -/
def Mode.code : Mode → Byte
  | .dark => 0#8
  | .service => 1#8
  | .pub => 2#8
  | .held => 3#8

/-- The exhibit mode a byte codes (11.2). -/
def Mode.ofCode (b : Byte) : Option Mode :=
  match b.toNat with
  | 0 => some .dark
  | 1 => some .service
  | 2 => some .pub
  | 3 => some .held
  | _ => none

/-- The code of a exhibit activity (11.2). -/
def Activity.code : Activity → Byte
  | .idle => 0#8
  | .engaged => 1#8
  | .cooldown => 2#8

/-- The code of a clock (11.2). -/
def ClockState.code : ClockState → Byte
  | .unsynced => 0#8
  | .locked => 1#8
  | .island => 2#8

/-- The code of a gallery (11.2). -/
def Gallery.code : Gallery → Byte
  | .closed => 0#8
  | .opened => 1#8
  | .quiet => 2#8

/-- The code of a axis state (11.2). -/
def AxisState.code : AxisState → Byte
  | .off => 0#8
  | .idle => 1#8
  | .running => 2#8
  | .dwell => 3#8
  | .halting => 4#8
  | .guardStop => 5#8
  | .fault => 6#8

/-- The code of a run mode (11.2). -/
def RunMode.code : RunMode → Byte
  | .once => 0#8
  | .loop => 1#8

/-- The run mode a byte codes (11.2). -/
def RunMode.ofCode (b : Byte) : Option RunMode :=
  match b.toNat with
  | 0 => some .once
  | 1 => some .loop
  | _ => none

/-- The code of a manner (11.2). -/
def Manner.code : Manner → Byte
  | .now => 0#8
  | .loopEnd => 1#8

/-- The manner a byte codes (11.2). -/
def Manner.ofCode (b : Byte) : Option Manner :=
  match b.toNat with
  | 0 => some .now
  | 1 => some .loopEnd
  | _ => none

/-- The code of a arbitration (11.2). -/
def Arbitration.code : Arbitration → Byte
  | .fixed => 0#8
  | .fair => 1#8

/-- The arbitration a byte codes (11.2). -/
def Arbitration.ofCode (b : Byte) : Option Arbitration :=
  match b.toNat with
  | 0 => some .fixed
  | 1 => some .fair
  | _ => none

/-- The code of a verdict (11.2). -/
def Verdict.code : Verdict → Byte
  | .go => 0#8
  | .stop => 1#8

/-- The verdict a byte codes (11.2). -/
def Verdict.ofCode (b : Byte) : Option Verdict :=
  match b.toNat with
  | 0 => some .go
  | 1 => some .stop
  | _ => none

/-- The code of a alert cause (11.2). -/
def AlertCause.code : AlertCause → Byte
  | .none => 0#8
  | .drive => 1#8
  | .limit => 2#8
  | .following => 3#8
  | .station => 4#8
  | .estop => 5#8
  | .loop => 6#8
  | .freeEntry => 7#8
  | .trunkLost => 8#8
  | .overflow => 9#8

/-- The code of a alert state (11.2). -/
def NoticeState.code : NoticeState → Byte
  | .opened => 0#8
  | .owned => 1#8
  | .waiting => 2#8
  | .removed => 3#8

/-- The code of a reply code (11.2). -/
def ReplyCode.code : ReplyCode → Byte
  | .ok => 0#8
  | .range => 1#8
  | .live => 2#8
  | .invalid => 3#8
  | .busy => 4#8
  | .full => 5#8
  | .late => 6#8
  | .readOnly => 7#8

/-- The code of a CUE-REPORT result (11.2). -/
def CueResult.code : CueResult → Byte
  | .accepted => 0#8
  | .ran => 1#8
  | .missedBusy => 2#8
  | .notPublic => 3#8
  | .missedJump => 4#8
  | .replaced => 5#8
  | .cancelled => 6#8
  | .late => 7#8
  | .full => 8#8
  | .range => 9#8
  | .invalid => 10#8

/-- The code of a MOVE-REPLY result (11.2). -/
def MoveResult.code : MoveResult → Byte
  | .granted => 0#8
  | .refused => 1#8
  | .skipped => 2#8
  | .done => 3#8
  | .halted => 4#8
  | .fault => 5#8

/-- The code of a MOVE-REPLY reason (11.2). -/
def RefuseReason.code : RefuseReason → Byte
  | .none => 0#8
  | .off => 1#8
  | .fault => 2#8
  | .disabling => 3#8
  | .live => 4#8

/-- The code of a QUERY-REPLY result (11.2). -/
def QueryResult.code : QueryResult → Byte
  | .value => 0#8
  | .timeout => 1#8
  | .busy => 2#8
  | .invalid => 3#8
  | .range => 4#8

/-- The code of a zone override (11.2). -/
def ZoneOverride.code : ZoneOverride → Byte
  | .zone z => byteOf z.val
  | .all => 4#8
  | .none => 0xFF#8

/-- The zone override a byte codes (11.2). -/
def ZoneOverride.ofCode (b : Byte) : Option ZoneOverride :=
  if b = 0xFF#8 then some .none else if b = 4#8 then some .all else (indexOf 4 b).map .zone

/-- The code of an action kind (11.2). -/
def Action.kindCode : Action → Byte
  | .free => 0#8
  | .lamp _ _ _ _ => 1#8
  | .cue _ _ _ _ => 2#8
  | .move _ _ _ _ _ => 3#8
  | .haltAxis _ _ _ => 4#8
  | .wait _ _ => 5#8
  | .pause _ => 6#8
  | .alert _ _ => 7#8
  | .refer _ _ _ _ _ => 8#8
  | .count _ _ _ => 9#8

/-! ### Byte strings (R190) -/

/-- A 16-bit field, most significant byte first (R190). -/
def wordBytes (w : Word) : List Byte := [w.extractLsb' 8 8, w.extractLsb' 0 8]

/-- Two bytes as a 16-bit field (R190). -/
def wordOf (hi lo : Byte) : Word := hi ++ lo

/-- A number as a 16-bit field. -/
def natBytes (n : Nat) : List Byte := wordBytes (BitVec.ofNat 16 n)

/-- A signed number as a 16-bit field in two's complement (R190). -/
def intBytes (n : Int) : List Byte := wordBytes (BitVec.ofInt 16 n)

/-- A signed number as a 32-bit field in two's complement (R190). -/
def longBytes (n : Int) : List Byte :=
  let w := BitVec.ofInt 32 n
  [w.extractLsb' 24 8, w.extractLsb' 16 8, w.extractLsb' 8 8, w.extractLsb' 0 8]

/-- A table of bits as a number, entry i at bit i. -/
def bitsOf {n : Nat} (t : Tbl n Bool) : Nat := (List.finRange n).foldl (fun x i => if tget t i then x + 2 ^ i.val else x) 0

/-- The table of bits a number holds, bit i at entry i. -/
def bitTable (n x : Nat) : Tbl n Bool := tmake fun i => x.testBit i.val

/-- One bit worked into the CRC: polynomial 0x1021, most significant bit first (R190). -/
def crcBit (crc : Word) (bit : Bool) : Word := if crc.msb != bit then (crc <<< 1) ^^^ 0x1021#16 else crc <<< 1

/-- One byte worked into the CRC (R190). -/
def crcByte (crc : Word) (b : Byte) : Word := [7, 6, 5, 4, 3, 2, 1, 0].foldl (fun c i => crcBit c (b.getLsbD i)) crc

/-- The CRC-16 of a string of bytes, preset 0xFFFF (R190). -/
def crc16 (bytes : List Byte) : Word := bytes.foldl crcByte 0xFFFF#16

/-- A content byte is escaped: 0x7E and 0x7D (R190). -/
def escapeByte (b : Byte) : List Byte := if b = 0x7E#8 ∨ b = 0x7D#8 then [0x7D#8, b ^^^ 0x20#8] else [b]

/-- A frame as sent: the delimiter, then the contents with their CRC, escaped (R190). -/
def lineBytes (contents : List Byte) : List Byte :=
  0x7E#8 :: (contents ++ wordBytes (crc16 contents)).flatMap escapeByte

/-- The bytes between two delimiters, unescaped; an escape cut off by the delimiter adds nothing (R190). -/
def unescape : List Byte → List Byte
  | [] => []
  | [b] => if b = 0x7D#8 then [] else [b]
  | b :: c :: rest => if b = 0x7D#8 then (c ^^^ 0x20#8) :: unescape rest else b :: unescape (c :: rest)

end Sys2Proof.Machine
end

