-- ==== Sys2Proof/Machine/Rows.lean ====
section
/-! DEFINITION. What the part sends: the rows that management reads (11.4, R149, R163, R172) and the up frames (11.3). -/

namespace Sys2Proof.Machine

/-! ### Rows of the loaded tables (11.4) -/

/-- A station row. -/
def StationRow.bytes (r : StationRow) : List Byte :=
  [flagByte r.enabled, r.kind.code, byteOf r.zone.val, optByte (r.home.map (·.val)), flagByte r.forwardUnmapped]

/-- A trigger row. -/
def TriggerRow.bytes (r : TriggerRow) : List Byte :=
  [optByte (r.exhibit.map (·.val)), r.cls.code, r.edge.code, r.style.code]
    ++ (match r.start with | some a => natBytes a.val | none => wordBytes 0xFFFF#16)

/-- A continuation entry: 0xFFFF is EMPTY. -/
def continuationBytes (c : Option (Fin 1023)) : List Byte :=
  match c with
  | some i => natBytes i.val
  | none => wordBytes 0xFFFF#16

/-- The four operand bytes of an action entry. -/
def Action.operandBytes : Action → List Byte
  | .free => [0#8, 0#8, 0#8, 0#8]
  | .lamp st out p _ => [byteOf st.val, byteOf out.val, p.code, 0#8]
  | .cue st n w _ => [byteOf st.val, n, flagByte w, 0#8]
  | .move a p m w _ => [byteOf a.val, byteOf p.val, m.code, flagByte w]
  | .haltAxis a m _ => [byteOf a.val, m.code, 0#8, 0#8]
  | .wait n _ => [byteOf n, 0#8, 0#8, 0#8]
  | .pause _ => [0#8, 0#8, 0#8, 0#8]
  | .alert c _ => [byteOf c.val, 0#8, 0#8, 0#8]
  | .refer tag n d _ _ => [tag, byteOf n, d.code, 0#8]
  | .count c n _ => [byteOf c.val, byteOf n, 0#8, 0#8]

/-- The stop link field: that of REFER, reserved elsewhere. -/
def Action.stopWord : Action → Word
  | .refer _ _ _ _ l => l.word
  | _ => 0#16

/-- An action entry (R63). -/
def Action.bytes (a : Action) : List Byte :=
  a.kindCode :: a.operandBytes ++ wordBytes a.link.word ++ wordBytes a.stopWord

/-- The axis list as two bytes, 0xFF for no axis: the axes stand from the first byte on, also where a write has put one axis
into the second byte (11.4; DESIGN CHOICE, assumption 33). -/
def axisListBytes (l : List (Fin 8)) : List Byte :=
  [optByte (l[0]?.map (·.val)), optByte (l[1]?.map (·.val))]

/-- The idle reload mask. -/
def IdleMask.byte (m : IdleMask) : Byte :=
  byteOf (bitsOf (n := 4) #v[m.acceptedPress, m.anyPress, m.guardOpen, m.chainEnd])

/-- An exhibit configuration row. -/
def ExhibitRecord.bytes (r : ExhibitRecord) : List Byte :=
  byteOf r.zone.val :: axisListBytes r.axes ++ natBytes r.idleReload
    ++ (match r.attract with | some a => natBytes a.val | none => wordBytes 0xFFFF#16)
    ++ [byteOf r.depth, byteOf r.patience, byteOf r.cooldown, byteOf r.flood, r.mask.byte]
    ++ (match r.lamp with | some (st, out) => [byteOf st.val, byteOf out.val] | none => [0xFF#8, 0#8])

/-- The parameters of an axis. -/
def AxisParams.bytes (p : AxisParams) : List Byte :=
  optByte (p.drive.map (·.val)) :: natBytes p.accel ++ intBytes p.softMin ++ intBytes p.softMax ++ natBytes p.followLimit
    ++ (match p.guard with
        | some g => [byteOf g.station.val, byteOf g.input.val, flagByte g.openLevel]
        | none => [0xFF#8, 0#8, 0#8])
    ++ [byteOf p.guardSettle, byteOf p.guardTimeout, byteOf p.claimTimeout, p.arbitration.code]

/-- The program in progress as the axis row reads it: absent for a jog (R88, R116). -/
def Axis.programByte (x : Axis) : Byte :=
  match x.job with
  | some (.program p) => byteOf p.val
  | some (.jog _) => 0xFF#8
  | none => 0xFF#8

/-- An axis row with its read-only fields (R88). -/
def Axis.bytes (x : Axis) : List Byte :=
  x.params.bytes ++ [x.state.code] ++ intBytes (wholeCounts x.position) ++ [x.programByte, flagByte x.clamped]

/-- A program row. -/
def Program.bytes (p : Program) : List Byte := [byteOf p.first.val, byteOf p.count]

/-- A segment row. -/
def Segment.bytes (g : Segment) : List Byte := intBytes g.target ++ natBytes g.cruise ++ [byteOf g.dwell]

/-- An alert class row. -/
def AlertClass.bytes (c : AlertClass) : List Byte :=
  [byteOf c.severity, flagByte c.hold, flagByte c.ackRequired] ++ natBytes c.interval ++ [byteOf c.maxTier, c.zone.code]

/-- The settings row with its read-only fields (R186). -/
def settingsBytes (s : Gx24) : List Byte :=
  byteOf s.tp.period.val :: natBytes s.tp.quietReload ++ [byteOf s.tp.node.toNat, flagByte s.tp.coldFlag]

/-! ### Rows of the read-only tables -/

/-- The state code of a record that stands (11.2). -/
def AlertState.code (x : AlertState) : Byte := x.notice.code

/-- The record part of an alert table row, bytes 2 to 22 (11.4). -/
def AlertRecord.bytes (r : AlertRecord) : List Byte :=
  [byteOf r.key.cls.val, r.key.cause.code, optByte (r.key.exhibit.map (·.val)), optByte (r.key.station.map (·.val)),
    optByte (r.key.axis.map (·.val)), r.state.code, byteOf r.tier]
    ++ natBytes r.countdown ++ [byteOf r.repeats] ++ wordBytes r.raiseTick
    ++ [byteOf r.severity, flagByte r.hold, flagByte r.ackRequired] ++ natBytes r.interval
    ++ [byteOf r.maxTier, byteOf (bitsOf r.zones)] ++ natBytes (bitsOf r.target)

/-- The overflow part of slot 63's row, bytes 23 to 40 (11.4; assumption 17 for an axis not in the set). -/
def overflowBytes (s : Gx24) : List Byte :=
  natBytes (bitsOf s.au.overflowHeld) ++ (List.finRange 8).flatMap (fun a => match tget s.au.lostAxes a with
    | some k => [k.cause.code, optByte (k.exhibit.map (·.val))]
    | none => [0xFF#8, 0xFF#8])

/-- An alert table row (R149, 11.4). -/
def alertRowBytes (i : Fin 64) (s : Gx24) : List Byte :=
  byteOf (tget s.au.slots i).generation.toNat ::
    match recordAt i s with
    | none => 1#8 :: List.replicate 39 0#8
    | some r =>
      (if r.saturated then 2#8 else 0#8) :: r.bytes
        ++ (if i = overflowSlot then overflowBytes s else List.replicate 18 0#8)

/-- The saturation marks of a row of counters, eight to a byte from bit 0 (11.4). -/
def markBytes : Nat → List Bool → List Byte
  | 0, _ => []
  | n + 1, ms =>
    byteOf (((ms.take 8).zipIdx).foldl (fun x m => if m.1 then x + 2 ^ m.2 else x) 0) :: markBytes n (ms.drop 8)

/-- A row of counters: the values, then the marks (11.4). -/
def counterBytes (cs : List Counter) : List Byte :=
  cs.flatMap (fun c => wordBytes c.value) ++ markBytes ((cs.length + 7) / 8) (cs.map (·.mark))

/-- A counter snapshot row (R163, 11.4); none beyond row 114. -/
def snapshotRow (row : Nat) (b : Bank) : Option (List Byte) :=
  if row = 0 then some (byteOf (bitsOf (n := 2) #v[b.taken, b.clear]) :: wordBytes b.tick)
  else if row ≤ 64 then b.contents.usage[row - 1]?.map (fun c => counterBytes [c])
  else if row ≤ 80 then b.contents.exhibits[row - 65]?.map (fun r => counterBytes r.toList)
  else if row ≤ 104 then b.contents.stations[row - 81]?.map (fun r => counterBytes r.toList)
  else if row ≤ 112 then b.contents.axes[row - 105]?.map (fun r => counterBytes r.toList)
  else if row = 113 then some (counterBytes b.contents.alert.toList)
  else if row = 114 then some (counterBytes b.contents.trunk.toList)
  else none

/-- A cue schedule row (R172, 11.4). -/
def cueRowBytes (row : Nat) (s : Gx24) : List Byte :=
  match s.gc.schedule[row]? with
  | some c => 0#8 :: wordBytes c.due ++ [exhibitByte c.exhibit] ++ natBytes c.start.val ++ [c.tag]
      ++ natBytes (ticksAhead c.due s.gc.tick)
  | none => 1#8 :: List.replicate 8 0#8

/-! ### TABLE-READ (R185) -/

/-- The row of a table as its owner reads it; none for a table id of no table or a row number beyond the table (R185, with
R1, R7, R24, R25, R35, R63, R40, R88 to R90, R130, R138, R149, R163, R186, R172). -/
def readRow (id row : Nat) (s : Gx24) : Option (List Byte) :=
  match id with
  | 1 => s.bs.rows[row]?.map (·.bytes)
  | 2 => s.bs.schedule[row]?.map (fun x => [optByte (x.map (·.val))])
  | 3 => s.pd.inputMap[row]?.map (fun x => [optByte (x.map (·.val))])
  | 4 => s.pd.rows[row]?.map (·.bytes)
  | 5 => s.pd.continuation[row]?.map continuationBytes
  | 6 => s.cr.actions[row]?.map (·.bytes)
  | 7 => s.exhibits[row]?.map (·.record.bytes)
  | 8 => s.mu.axes[row]?.map (·.bytes)
  | 9 => s.mu.programs[row]?.map (·.bytes)
  | 10 => s.mu.segments[row]?.map (·.bytes)
  | 11 => s.au.classes[row]?.map (·.bytes)
  | 12 => s.au.neighbours[row]?.map (fun z => [byteOf (bitsOf z)])
  | 13 => if h : row < 64 then some (alertRowBytes ⟨row, h⟩ s) else none
  | 14 => snapshotRow row s.ac.bank
  | 15 => if row = 0 then some (settingsBytes s) else none
  | 16 => if row < 32 then some (cueRowBytes row s) else none
  | _ => none

/-! ### Up frames (11.3) -/

/-- The type byte of an up frame (11.3). -/
def UpFrame.type : UpFrame → Byte
  | .status _ => 0x81#8
  | .mgmtReply _ _ _ _ _ _ => 0x82#8
  | .referral _ _ _ _ _ _ => 0x83#8
  | .alertNotice _ _ _ _ _ _ _ _ _ => 0x84#8
  | .cueReport _ _ _ _ _ => 0x85#8
  | .moveReply _ _ _ _ _ => 0x86#8
  | .queryReply _ _ _ _ => 0x87#8
  | .inputReport _ _ _ _ => 0x88#8

/-- The payload of STATUS, 54 bytes (11.3). -/
def StatusFrame.bytes (f : StatusFrame) : List Byte :=
  let errors := [f.crcErrors, f.typeErrors, f.lengthErrors, f.frameErrors, f.upFramesDropped]
  let present := bitsOf f.present
  let lost := bitsOf f.lost
  wordBytes f.tick ++ [f.clock.code, f.gallery.code, byteOf (bitsOf (n := 2) #v[f.cold, f.supervisor])]
    ++ f.exhibits.toList.map (fun x => byteOf (x.1.code.toNat * 16 + x.2.code.toNat))
    ++ f.zones.toList.map (·.code) ++ [byteOf f.opened, byteOf f.owned, byteOf f.waiting]
    ++ f.axes.toList.map (·.code)
    ++ [byteOf present, byteOf (present / 256), byteOf (present / 65536)]
    ++ [byteOf lost, byteOf (lost / 256), byteOf (lost / 65536)]
    ++ [byteOf f.missed] ++ counterBytes errors

/-- The answer field of a QUERY-REPLY; with no answer, a free value (assumption 12). -/
def answerBytes (a : Option Word) : List Byte :=
  match a with
  | some w => wordBytes w
  | none => wordBytes Config.freeAnswer

/-- The flags and tag fields of a CUE-REPORT; an absent tag is a free value (assumption 12). -/
def tagBytes (t : Option Byte) : List Byte :=
  match t with
  | some b => [1#8, b]
  | none => [0#8, Config.freeTag]

/-- The station and input fields of a REFERRAL. Where they are absent (R79) the input byte too is 0xFF, a code that 11.2 gives
the station and not the input (DESIGN CHOICE, assumption 32). -/
def inputBytes (i : Option (Fin 24 × Fin 8)) : List Byte :=
  match i with
  | some (st, n) => [byteOf st.val, byteOf n.val]
  | none => [0xFF#8, 0xFF#8]

/-- The payload of an up frame (11.3). -/
def UpFrame.payload : UpFrame → List Byte
  | .status f => f.bytes
  | .mgmtReply tag op code table row contents => [tag, op, code.code, table] ++ wordBytes row ++ contents
  | .referral e n tag row input tick =>
    [byteOf e.val, byteOf n.toNat, tag, optByte (row.map (·.val))] ++ inputBytes input ++ wordBytes tick
  | .alertNotice i g k st tier repeats sat raised now =>
    [byteOf i.val, byteOf g.toNat, byteOf k.cls.val, k.cause.code, optByte (k.exhibit.map (·.val)),
      optByte (k.station.map (·.val)), optByte (k.axis.map (·.val)), st.code, byteOf tier, byteOf repeats, flagByte sat]
      ++ wordBytes raised ++ wordBytes now
  | .cueReport e due tag r tick => e :: wordBytes due ++ tagBytes tag ++ [r.code] ++ wordBytes tick
  | .moveReply a m p r why =>
    [byteOf a.val, flagByte m, (match p with | some p => byteOf p.val | none => 0xFE#8), r.code, why.code]
  | .queryReply st p r a => st :: wordBytes p ++ [r.code] ++ answerBytes a
  | .inputReport st i edge tick => [byteOf st.val, byteOf i.val, edge.code] ++ wordBytes tick

/-- An up frame as it leaves the pins: the sender's node number, the type, the length and the payload (R179, 11.3). -/
def UpFrame.line (node : Serial) (f : UpFrame) : List Byte :=
  lineBytes ([byteOf node.toNat, f.type, byteOf f.payload.length] ++ f.payload)

end Sys2Proof.Machine
end

