-- ==== Sys2Proof/Machine/Branch.lean ====
section
/-! DEFINITION. The Branch Scheduler's operations: the sweep, the poll, the reply and its outcome, the stations' states and
the query (chapter 1, 11.5). -/

namespace Sys2Proof.Machine

/-! ### The query (R16 to R18) -/

/-- A QUERY-REPLY (R16). -/
def replyQuery (st : Byte) (p : Word) (r : QueryResult) (a : Option Word) (s : Gx24) : Gx24 := sendUp (.queryReply st p r a) s

/-- The query is no longer pending, and no reply still awaited can answer it (R17, R18). -/
def dropQuery (s : Gx24) : Gx24 :=
  { s with bs := { s.bs with query := none, awaiting := s.bs.awaiting.map (fun w => { w with query := false }) } }

/-- The pending query ends with this result (R17, R18). -/
def endQuery (r : QueryResult) (a : Option Word) (s : Gx24) : Gx24 :=
  match s.bs.query with
  | some q => replyQuery (byteOf q.station.val) q.parameter r a (dropQuery s)
  | none => s

/-- A query pending to the station ends with TIMEOUT (R6, R18). -/
def endQueryOf (st : Fin 24) (s : Gx24) : Gx24 :=
  match s.bs.query with
  | some q => if q.station = st then endQuery .timeout none s else s
  | none => s

/-! ### Station states (R2 to R6) -/

/-- A STATION-LOST condition that is held ends (R2, R4). -/
def endLost (st : Fin 24) (s : Gx24) : Gx24 :=
  let k := (stationOf st s).lostKey
  let s := modStation st (fun x => { x with lostKey := none }) s
  match k with
  | some key => endCondition key s
  | none => s

/-- STATION-LOST is raised, its key kept (R5, R134). -/
def raiseLost (st : Fin 24) (s : Gx24) : Gx24 :=
  let key := keyStationLost st s
  raise key (modStation st (fun x => { x with lostKey := some key }) s)

/-- A drive station's axis faults with cause STATION (R6, R121). -/
def faultDriveAxis (st : Fin 24) (s : Gx24) : Gx24 :=
  match axisOnDrive st s with
  | some a => faultAxis a .station s
  | none => s

/-- The station becomes LOST and the blocks that depend on it are told (R5, R6). The manual gives no order among them; here
STATION-LOST is raised, then the guards in rising axis number, the axis fault, the waits for cues in rising exhibit number
and the query (DESIGN CHOICE, assumption 29). -/
def loseStation (st : Fin 24) (s : Gx24) : Gx24 :=
  let s := raiseLost st (modStation st (fun x => { x with state := .lost }) s)
  let s := faultDriveAxis st (decideGuardsOf st s)
  endQueryOf st (endStationWaits st s)

/-- The most consecutive misses counted (R3). -/
def missLimit : Fin 4 := 3

/-- A miss: counted, and the third in a row makes a JOINING or PRESENT station LOST (R3, R5). -/
def countStationMiss (st : Fin 24) (crc : Bool) (s : Gx24) : Gx24 :=
  let s := growStation st .missed 1 s
  let s := if crc then growStation st .crcErrors 1 s else s
  let s := modStation st (fun x => { x with missCount := if x.missCount = missLimit then missLimit else x.missCount + 1 }) s
  let x := stationOf st s
  if x.missCount = missLimit ∧ (x.state = .joining ∨ x.state = .present) then loseStation st s else s

/-! ### The poll (R10, 11.5) -/

/-- The lamp image: lamp n in bits 2n and 2n + 1. -/
def lampWord (lamps : Tbl 8 LampPattern) : Word :=
  BitVec.ofNat 16 ((List.finRange 8).foldl (fun x n => x + (tget lamps n).code.toNat * 4 ^ n.val) 0)

/-- The flags byte of a poll. -/
def pollFlags (cue query drive : Bool) : Byte := byteOf (bitsOf (n := 3) #v[cue, query, drive])

/-- The cue number and serial of a poll, 0 when there is no cue. -/
def cueBytes (c : Option PendingCue) : List Byte :=
  match c with
  | some c => [c.number, byteOf c.serial.toNat]
  | none => [0#8, 0#8]

/-- The setpoint a poll to a DRIVE station carries: the stored setpoint of its axis, else drive-enable off at the last
reported position (R9, R10, R103). -/
def pollSetpoint (st : Fin 24) (s : Gx24) : Setpoint :=
  match axisOnDrive st s with
  | some a => (axisOf a s).setpoint.getD ⟨reportedPosition st s, false⟩
  | none => ⟨reportedPosition st s, false⟩

/-- The payload of a poll: the image as it stood when the slot began, with the setpoint of this moment (R10, 11.5). -/
def pollPayload (kind : StationKind) (image : Station) (query : Option Word) (sp : Setpoint) : List Byte :=
  let flags := pollFlags image.cue.isSome query.isSome (decide (kind = .drive) && sp.enable)
  wordBytes (lampWord image.lamps) ++ [flags] ++ cueBytes image.cue
    ++ [byteOf image.expected.toNat, (query.getD 0#16).extractLsb' 0 8]
    ++ (match kind with
        | .panel => []
        | .beacon => [image.beacon.code]
        | .drive => longBytes sp.position)

/-- A poll as sent: station number, length, payload, CRC (11.5). -/
def pollLine (st : Fin 24) (payload : List Byte) : List Byte :=
  lineBytes ([byteOf st.val, byteOf payload.length] ++ payload)

/-! ### The reply (1.5, 11.5) -/

/-- An event of a reply. -/
structure ReplyEvent where
  input : Fin 8
  edge : Edge
  serial : Serial
  deriving DecidableEq, Repr

/-- A good reply. -/
structure Reply where
  events : List ReplyEvent
  nextSerial : Serial
  levels : Byte
  lastStarted : Serial
  playing : Bool
  answer : Option Word
  drive : Option DriveReport
  deriving DecidableEq, Repr

/-- An event slot. -/
def eventOf (b : Byte) : ReplyEvent :=
  ⟨(b.extractLsb' 0 3).toFin, if b.getLsbD 3 then .release else .press, b.extractLsb' 4 4⟩

/-- The drive record of a DRIVE reply. -/
def driveOf (hi lo flags : Byte) : DriveReport :=
  ⟨some (wordOf hi lo), flags.getLsbD 0, flags.getLsbD 1, flags.getLsbD 2, flags.getLsbD 3⟩

/-- The contents of a reply payload whose length agrees with the kind and whose event count is at most 4 (R3, R191). -/
def replyOf (kind : StationKind) (payload : List Byte) : Option Reply :=
  match payload with
  | n :: e1 :: e2 :: e3 :: e4 :: next :: levels :: cue :: flags :: a1 :: a0 :: rest =>
    let common (drive : Option DriveReport) : Option Reply :=
      if 4 < n.toNat then none
      else some {
        events := ([e1, e2, e3, e4].take n.toNat).map eventOf
        nextSerial := next.extractLsb' 0 4
        levels := levels
        lastStarted := cue.extractLsb' 0 4
        playing := cue.getLsbD 4
        answer := if flags.getLsbD 0 then some (wordOf a1 a0) else none
        drive := drive }
    match kind, rest with
    | .drive, [p1, p0, f] => common (some (driveOf p1 p0 f))
    | .panel, [] => common none
    | .beacon, [] => common none
    | _, _ => none
  | _ => none

/-- A frame's contents without its CRC, when as many bytes as its length field says and the two CRC bytes have come and the
CRC checks; `header` bytes stand before the payload, the length last (R180, R190). -/
def checkedFrame (header : Nat) (bytes : List Byte) : Option (List Byte) :=
  match bytes[header - 1]? with
  | none => none
  | some len =>
    let body := bytes.take (header + len.toNat)
    let crc := (bytes.drop (header + len.toNat)).take 2
    if bytes.length < header + len.toNat + 2 then none
    else if crc = wordBytes (crc16 body) then some body else none

/-- The good reply in what came back, or none (R3, R190, R191). -/
def goodReply (st : Fin 24) (kind : StationKind) (line : List Byte) : Option Reply :=
  match checkedFrame 2 (unescape line) with
  | some (station :: _ :: payload) => if station = byteOf st.val then replyOf kind payload else none
  | _ => none

/-! ### A good reply (R4, R11, R12, R15, R17) -/

/-- Step 1 of R11: the level image is stored, and the guards it serves are decided (R117). -/
def storeLevels (st : Fin 24) (levels : Byte) (s : Gx24) : Gx24 :=
  decideGuardsOf st (modStation st (fun x => { x with levels := levels }) s)

/-- A cue reported as started is delivered: a pending cue of that serial becomes absent (R15). -/
def Station.delivered (x : Station) : Station :=
  match x.cue with
  | some c => if c.serial = x.lastStarted then { x with cue := none } else x
  | none => x

/-- Step 2 of R11: the cue report is stored and acted on (R15). -/
def storeCueReport (st : Fin 24) (started : Serial) (playing : Bool) (s : Gx24) : Gx24 :=
  cueReported st (modStation st (fun x => { x with lastStarted := started, cuePlaying := playing }.delivered) s)

/-- A reply to a poll that carried the query brought no answer: after the fourth poll the query ends TIMEOUT (R17). -/
def queryUnanswered (s : Gx24) : Gx24 :=
  match s.bs.query with
  | some q => if q.polls = 0 then endQuery .timeout none s else s
  | none => s

/-- A query to the station is pending (R11). -/
def queryPends (st : Fin 24) (s : Gx24) : Bool :=
  match s.bs.query with
  | some q => decide (q.station = st)
  | none => false

/-- Step 3 of R11: an answer is taken when a query to this station is pending, and otherwise ignored; a reply without one
leaves a query that its poll carried unanswered (R17). -/
def takeAnswer (st : Fin 24) (asked : Bool) (answer : Option Word) (s : Gx24) : Gx24 :=
  match answer with
  | some a => if queryPends st s then endQuery .value (some a) s else s
  | none => if asked then queryUnanswered s else s

/-- Step 4 of R11: drive data are stored and handed to the Motion Unit (R9). -/
def storeDrive (st : Fin 24) (stepped : Option (Fin 8)) (d : Option DriveReport) (s : Gx24) : Gx24 :=
  match d with
  | none => s
  | some d =>
    let s := modStation st (fun x => { x with drive := d }) s
    match axisOnDrive st s with
    | some a => driveReported a (decide (stepped = some a)) d s
    | none => s

/-- An event of a PRESENT station: a duplicate is dropped and counted, a new one counts the serials skipped, moves the
expected serial and goes to the Press Dispatcher, whose effects are whole before the next event (R12). -/
def takeEvent (st : Fin 24) (ev : ReplyEvent) (s : Gx24) : Gx24 :=
  let d := (ev.serial - (stationOf st s).expected).toNat
  if 8 ≤ d then growStation st .duplicate 1 s
  else
    let s := growStation st .gap d s
    let s := modStation st (fun x => { x with expected := ev.serial + 1#4 }) s
    settle (inputEvent st ev.input ev.edge s)

/-- A runner that waits for the pending cue of a joining station waits for its new serial (R4). -/
def Runner.renumbered (st : Fin 24) (old new : Serial) (r : Runner) : Runner :=
  if r.awaitedCue = some (st, old) then { r with awaitedCue := some (st, new) } else r

/-- The serials at a join: the expected serial is the next serial, the running cue serial the one last started; a pending
cue takes the serial after it, and a chain waiting on the cue follows (R4). -/
def joinSerials (st : Fin 24) (next started : Serial) (s : Gx24) : Gx24 :=
  let s := modStation st (fun x => { x with expected := next, runningCue := started }) s
  match (stationOf st s).cue with
  | none => s
  | some c =>
    let n := started + 1#4
    let s := modStation st (fun x => { x with runningCue := n, latestCue := n, cue := some { c with serial := n } }) s
    forRows (n := 16) (fun e s => modRunner e (Runner.renumbered st c.serial n) s) s

/-- The join of a JOINING or LOST station: serials, stale events, PRESENT, and the end of STATION-LOST (R4). -/
def join (st : Fin 24) (r : Reply) (s : Gx24) : Gx24 :=
  let s := joinSerials st r.nextSerial r.lastStarted (growStation st .stale r.events.length s)
  endLost st (modStation st (fun x => { x with state := .present }) s)

/-- A good reply, in the order of R11; a station that was not PRESENT joins first and its events are discarded (R4). -/
def takeReply (w : Awaiting) (r : Reply) (s : Gx24) : Gx24 :=
  let st := w.station
  let present := decide ((stationOf st s).state = .present)
  let s := modStation st (fun x => { x with missCount := 0 }) s
  let s := if present then s else join st r s
  let s := storeCueReport st r.lastStarted r.playing (storeLevels st r.levels s)
  let s := storeDrive st w.stepAxis r.drive (takeAnswer st w.query r.answer s)
  let s := settle s
  if present then forList r.events (takeEvent st) s else s

/-- A miss: the step point's reply is missed, the miss counted, and an unanswered query seen to (R3, R9, R17). -/
def takeMiss (w : Awaiting) (crc : Bool) (s : Gx24) : Gx24 :=
  let s := match w.stepAxis with
    | some a => modAxis a (fun x => { x with stepGood := false }) s
    | none => s
  let s := countStationMiss w.station crc s
  if w.query then queryUnanswered s else s

/-- What came back in the slot of an awaited poll is classified (R3); a reply its station's row write has discarded
counts as nothing (R2). -/
def classify (w : Awaiting) (reply : Option (List Byte)) (s : Gx24) : Gx24 :=
  if w.discard then s
  else match reply with
    | none => takeMiss w false s
    | some line =>
      match goodReply w.station (rowOf w.station s).kind line with
      | some r => takeReply w r s
      | none => takeMiss w true s

/-- A slot ends (R3). A slot in which no poll's reply is awaited ends without effect. What came back is one string between
delimiters; where a delimiter has cut one reply off and another follows, R3 and R190 leave open which of them classifies the slot,
and it is the one that the command carries (DESIGN CHOICE, assumption 36). -/
def endSlot (reply : Option (List Byte)) (s : Gx24) : Gx24 :=
  match s.bs.awaiting with
  | none => s
  | some w => classify w reply { s with bs := { s.bs with awaiting := none } }

/-! ### The sweep (R7 to R9) -/

/-- A sweep starts at slot 0: the stored period code is read and every stepped mark cleared (R8, R9). -/
def startSweep (s : Gx24) : Gx24 :=
  { s with bs := { s.bs with
      sweepCode := s.tp.period, nextSlot := 0
      stations := tmake fun st => { tget s.bs.stations st with stepped := false } } }

/-- The query parameter this poll carries, its polls remaining lowered (R17). -/
def askQuery (st : Fin 24) (s : Gx24) : Option Word × Gx24 :=
  match s.bs.query with
  | some q =>
    if q.station = st ∧ 0 < q.polls then
      (some q.parameter, { s with bs := { s.bs with query := some { q with polls := q.polls - 1 } } })
    else (none, s)
  | none => (none, s)

/-- The station's step point is here: a DRIVE station not yet stepped in this sweep (R9). -/
def atStepPoint (st : Fin 24) (s : Gx24) : Bool := decide ((rowOf st s).kind = .drive) && !(stationOf st s).stepped

/-- The step point of a station: it is marked stepped, and its axis stepped (R9, R91). -/
def stepPoint (st : Fin 24) (s : Gx24) : Gx24 :=
  let s := modStation st (fun x => { x with stepped := true }) s
  match axisOnDrive st s with
  | some a => stepAxis a { s with bs := { s.bs with awaiting := s.bs.awaiting.map (fun w => { w with stepAxis := some a }) } }
  | none => s

/-- A station is polled: its step point if this is it, then the poll (R7, R9, R10, R17). -/
def pollStation (st : Fin 24) (s : Gx24) : Gx24 :=
  let image := stationOf st s
  let (q, s) := askQuery st s
  let s := { s with bs := { s.bs with awaiting := some ⟨st, none, q.isSome, false⟩ } }
  let s := if atStepPoint st s then stepPoint st s else s
  let payload := pollPayload (rowOf st s).kind image q (pollSetpoint st s)
  { s with branchOut := pollLine st payload }

/-- The slot at this place of the schedule begins (R7). -/
def beginSlot (i : Fin 32) (s : Gx24) : Gx24 :=
  let s := { s with branchOut := [], bs := { s.bs with nextSlot := ⟨i.val + 1, by omega⟩ } }
  match tget s.bs.schedule i with
  | none => s
  | some st => if (stationOf st s).state = .absent then s else pollStation st s

/-- The next slot begins; after slot 31 a new sweep does. A slot whose end was not commanded ends without reply first
(R7, R8; assumption 16). -/
def nextSlotStart (s : Gx24) : Gx24 :=
  let s := settle (endSlot none s)
  if h : s.bs.nextSlot.val < 32 then beginSlot ⟨s.bs.nextSlot.val, h⟩ s else beginSlot 0 (startSweep s)

/-! ### Frames that reach the branch (R13, R14, R16) -/

/-- A QUERY frame (R16). -/
def takeQuery (station : Byte) (parameter : Word) (s : Gx24) : Gx24 :=
  match indexOf 24 station with
  | none => replyQuery station parameter .range none s
  | some st =>
    if 255 < parameter.toNat then replyQuery station parameter .range none s
    else if s.bs.query.isSome then replyQuery station parameter .busy none s
    else if (stationOf st s).state = .absent ∨ !hasSlot st s then replyQuery station parameter .invalid none s
    else { s with bs := { s.bs with query := some ⟨st, parameter, 4⟩ } }

end Sys2Proof.Machine
end

