-- ==== Sys2Proof/Machine/Clock.lean ====
section
/-! DEFINITION. The Gallery Clock: tick events and the timers that count them, jumps, the cue schedule, the island, and
STATUS (chapter 9; R56, R74, R81, R113, R120, R140, R153, R155, R158, R183). -/

namespace Sys2Proof.Machine

/-! ### The timers that count a tick event (R167) -/

/-- A waited count grows by one, stopping at 255 (R56). -/
def QueueEntry.aged (q : QueueEntry) : QueueEntry := { q with waited := min (q.waited + 1) 255 }

/-- The Exhibit Controller's count for one exhibit: queued presses age, then a cooldown falls (R56). -/
def countExhibit (e : Fin 16) (s : Gx24) : Gx24 :=
  let s := modExhibit e (fun x => { x with queue := x.queue.map QueueEntry.aged }) s
  if (exhibitOf e s).activity = .cooldown then
    let s := modExhibit e (fun x => { x with cooldown := x.cooldown - 1 }) s
    if (exhibitOf e s).cooldown = 0 then post (.cooldownEnd e) s else s
  else s

/-- The Chain Runner's count for one runner: a WAIT or a referral's timeout falls (R74, R81). -/
def countRunner (e : Fin 16) (s : Gx24) : Gx24 :=
  let lower (s : Gx24) := modRunner e (fun r => { r with wait := r.wait - 1 }) s
  match (runnerOf e s).state with
  | .waitTicks => let s := lower s
    if (runnerOf e s).wait = 0 then post (.waitEnd e) s else s
  | .waitVerdict => let s := lower s
    if (runnerOf e s).wait = 0 then post (.referralTimeout e) s else s
  | .free => s
  | .stepping => s
  | .waitCue => s
  | .waitClaim => s
  | .waitDone => s

/-- The Motion Unit's count of claim times on one axis (R113). -/
def countClaims (a : Fin 8) (s : Gx24) : Gx24 :=
  let s := modAxis a (fun x => { x with claims := x.claims.map (fun c => { c with timeLeft := c.timeLeft - 1 }) }) s
  forList (axisOf a s).claims (fun c s => if c.timeLeft = 0 then post (.claimTimeout a c.claimant) s else s) s

/-- The Motion Unit's count of the guard-open time of one axis, which stops at 255 (R120). -/
def countGuard (a : Fin 8) (s : Gx24) : Gx24 :=
  let x := axisOf a s
  if x.state = .off ∨ !x.guardOpen then s
  else
    let t := min (x.guardOpenTime + 1) 255
    let s := modAxis a (fun x => { x with guardOpenTime := t }) s
    if 0 < x.params.guardTimeout ∧ x.guardOpenTime < x.params.guardTimeout ∧ x.params.guardTimeout ≤ t then
      post (.guardHeld a) s
    else s

/-- The Activity Unit's count of the quiet timer (R155). -/
def countQuiet (s : Gx24) : Gx24 :=
  if s.ac.gallery = .opened ∧ 0 < s.tp.quietReload ∧ 0 < s.ac.quiet then
    let s := { s with ac := { s.ac with quiet := s.ac.quiet - 1 } }
    if s.ac.quiet = 0 then post .quietExpiry s else s
  else s

/-- The exhibit's idle timer counts: idle reload above 0, PUBLIC, and IDLE or ENGAGED with an ATTRACT chain (R158). -/
def idleCounts (e : Fin 16) (s : Gx24) : Bool :=
  let x := exhibitOf e s
  decide (0 < x.record.idleReload) && decide (x.mode = .pub) &&
    (decide (x.activity = .idle) || (decide (x.activity = .engaged) && decide (grantOrigin e s = some .attract)))

/-- The Activity Unit's count of one idle timer (R158). -/
def countIdle (e : Fin 16) (s : Gx24) : Gx24 :=
  if idleCounts e s ∧ 0 < tget s.ac.idle e then
    let s := { s with ac := { s.ac with idle := tmod s.ac.idle e (· - 1) } }
    if tget s.ac.idle e = 0 then post (.idleExpiry e) s else s
  else s

/-- One tick event is given: the tick number becomes the event's, and every block counts it on its timers; what runs out
is in flight (R167; assumption 6 for the order). -/
def tickEvent (n : Word) (s : Gx24) : Gx24 :=
  let s := { s with gc := { s.gc with tick := n } }
  let s := forRows (n := 16) countRunner (forRows (n := 16) countExhibit s)
  let s := forRows (n := 8) (fun a s => countGuard a (countClaims a s)) s
  forRows (n := 16) countIdle (countQuiet (escalateAll s))

/-! ### The schedule (R171, R172) -/

/-- The most entries of the schedule (R172). -/
def scheduleDepth : Nat := 32

/-- An entry put at its place by its distance from now, after entries of the same due tick (R172). -/
def insertCue (now : Word) (c : CueEntry) : List CueEntry → List CueEntry
  | [] => [c]
  | d :: rest =>
    if ticksAhead c.due now < ticksAhead d.due now then c :: d :: rest else d :: insertCue now c rest

/-- The schedule in order of distance from now (R172). -/
def orderCues (now : Word) (cs : List CueEntry) : List CueEntry := cs.foldl (fun l c => insertCue now c l) []

/-- The entry of an exhibit and due tick. -/
def CueEntry.names (c : CueEntry) (e : Fin 16) (due : Word) : Bool := decide (c.exhibit = e) && decide (c.due = due)

/-- The entries with the property leave the schedule; they are returned in schedule order. -/
def takeCues (p : CueEntry → Bool) (s : Gx24) : List CueEntry × Gx24 :=
  (s.gc.schedule.filter p, { s with gc := { s.gc with schedule := s.gc.schedule.filter (fun c => !p c) } })

/-- The entry is due strictly between the tick number replaced and the frame's number `k` further on (R171). -/
def strictlyBetween (old : Word) (k : Nat) (c : CueEntry) : Bool :=
  decide (1 ≤ ticksAhead c.due old) && decide (ticksAhead c.due old < k)

/-- The entries of one due tick are handed to their exhibits, in no order among themselves (R172, R175). -/
def fireAt (due : Word) (s : Gx24) : Gx24 :=
  let (cs, s) := takeCues (fun c => decide (c.due = due)) s
  forList cs (fun c s => post (.fireCue c) s) s

/-- Due ticks one after another, the effects of each before the next; what the tick event gave besides may be taken before,
between or after them (R171, R175). -/
def fireInOrder (dues : List Word) (s : Gx24) : Gx24 :=
  match dues with
  | [] => s
  | d :: rest => forList rest (fun d s => fireAt d (settleSome s)) (fireAt d s)

/-- The tick numbers from 1 to `n` after `old`, in order. -/
def ticksAfter (old : Word) (n : Nat) : List Word := (List.range n).map (fun i => old + BitVec.ofNat 16 (i + 1))

/-- An entry dropped by a long jump: reported MISSED-JUMP, counted by the exhibit and for STATUS (R175, R176). -/
def dropCue (c : CueEntry) (s : Gx24) : Gx24 :=
  countMiss (growExhibit c.exhibit .showCuesMissed 1 (reportCue (exhibitByte c.exhibit) c.due (some c.tag) .missedJump s))

/-- A long jump drops the entries it skips, in due order (R171). -/
def dropSkipped (old : Word) (k : Nat) (s : Gx24) : Gx24 :=
  let (cs, s) := takeCues (strictlyBetween old k) s
  forList cs dropCue s

/-- The cues of a TICK frame whose step from the tick number replaced is `k` (R171). A held set that the end of TRUNK-LOST has
given is taken before a long jump drops the entries it skips and before the entries due at the frame's number fire, and at a
short jump of 2 or more before those due from the second tick number on: the rules give no order (DESIGN CHOICE, assumption 31). -/
def fireJump (old new : Word) (s : Gx24) : Gx24 :=
  let k := ticksAhead new old
  if k = 0 ∨ 30000 < k then
    fireInOrder [new] { s with gc := { s.gc with schedule := orderCues new s.gc.schedule } }
  else if k ≤ 8 then fireInOrder (ticksAfter old k) s
  else fireInOrder [new] (dropSkipped old k (settleSome s))

/-! ### STATUS (R183) -/

/-- The records in a state (R149). -/
def recordsIn (st : AlertState) (s : Gx24) : Nat :=
  countRows (n := 64) (fun i => match recordAt i s with | some r => decide (r.state = st) | none => false)

/-- A Trunk Port counter. -/
def trunkCounter (c : TrunkCounter) (s : Gx24) : Counter := tget s.counters.trunk c.index

/-- STATUS as the part stands (R183). -/
def statusFrame (s : Gx24) : StatusFrame where
  tick := s.gc.tick
  clock := s.gc.state
  gallery := s.ac.gallery
  cold := s.tp.coldFlag
  exhibits := tmake fun e => ((exhibitOf e s).mode, (exhibitOf e s).activity)
  zones := s.au.patterns
  supervisor := s.supervisor
  opened := recordsIn .opened s
  owned := recordsIn .owned s
  waiting := recordsIn .waiting s
  axes := tmake fun a => (axisOf a s).state
  present := tmake fun st => decide ((stationOf st s).state = .present)
  lost := tmake fun st => decide ((stationOf st s).state = .lost)
  missed := s.gc.missed
  crcErrors := trunkCounter .crcErrors s
  typeErrors := trunkCounter .typeErrors s
  lengthErrors := trunkCounter .lengthErrors s
  frameErrors := trunkCounter .frameErrors s
  upFramesDropped := trunkCounter .upFramesDropped s

/-- STATUS is given and the missed count becomes 0 (R168, R183). -/
def sendStatus (s : Gx24) : Gx24 :=
  let s := sendUp (.status (statusFrame s)) s
  { s with gc := { s.gc with missed := 0 } }

/-! ### TICK frames (R153, R168) -/

/-- The command of a TICK frame. -/
inductive GalleryCommand where
  | none | opened | close
  deriving DecidableEq, Repr

/-- The command a code names (11.2). -/
def GalleryCommand.ofCode (b : Byte) : Option GalleryCommand :=
  match b.toNat with
  | 0 => some .none
  | 1 => some .opened
  | 2 => some .close
  | _ => Option.none

/-- The frame's command is given to the Activity Unit with the tick event, when it would change the gallery (R153). -/
def giveCommand (c : GalleryCommand) (s : Gx24) : Gx24 :=
  match c with
  | .none => s
  | .opened => if s.ac.gallery = .closed then post (.gallery true) s else s
  | .close => if s.ac.gallery = .closed then s else post (.gallery false) s

/-- The clock becomes LOCKED with silence 0; a TRUNK-LOST condition ends with the island (R168). -/
def lockClock (s : Gx24) : Gx24 :=
  let island := decide (s.gc.state = .island)
  let s := { s with gc := { s.gc with state := .locked, silence := 0 } }
  if island then endCondition keyTrunkLost s else s

/-- A TICK frame whose command is one of the three: the clock locks, the tick event is given with the command and its cues,
and STATUS follows (R168, R153). STATUS is built when every notice of the frame has been taken, and a held set that the end of
TRUNK-LOST gives is one of them (DESIGN CHOICE, assumption 31). -/
def takeTick (n : Word) (c : GalleryCommand) (s : Gx24) : Gx24 :=
  let old := s.gc.tick
  let unsynced := decide (s.gc.state = .unsynced)
  let s := giveCommand c (tickEvent n (lockClock s))
  sendStatus (settle (if unsynced then s else fireJump old n s))

/-! ### The local timer and the island (R169, R170) -/

/-- The silent periods that make an island (R169). -/
def islandSilence : Nat := 20

/-- A tick event of the local timer: the next number, with the cues due at it (R170, R175). -/
def localTick (s : Gx24) : Gx24 :=
  let n := s.gc.tick + 1#16
  fireInOrder [n] (tickEvent n s)

/-- The clock becomes ISLAND: TRUNK-LOST, the referrals' defaults, the first island tick, in this order (R169). The rules do not
say how far the chains that the defaults send on (R82) have come when the first island tick is counted: each runs to its next
suspension or its end before it, and a WAIT it reaches counts that tick (DESIGN CHOICE, assumption 31). -/
def enterIsland (s : Gx24) : Gx24 :=
  let s := raise keyTrunkLost { s with gc := { s.gc with state := .island, silence := islandSilence } }
  localTick (settle (islandDefaults s))

/-- An expiry of the local timer (R169, R170). -/
def localExpiry (s : Gx24) : Gx24 :=
  match s.gc.state with
  | .unsynced => s
  | .island => localTick s
  | .locked =>
    if islandSilence ≤ s.gc.silence + 1 then enterIsland s
    else { s with gc := { s.gc with silence := s.gc.silence + 1 } }

/-! ### CUE and CUE-CANCEL (R173, R174) -/

/-- An accepted cue enters the schedule, or replaces the entry of its exhibit and due tick, or finds it full (R173). -/
def scheduleCue (c : CueEntry) (s : Gx24) : Gx24 :=
  let report (tag : Byte) (r : CueResult) (s : Gx24) := reportCue (exhibitByte c.exhibit) c.due (some tag) r s
  match s.gc.schedule.find? (fun d => d.names c.exhibit c.due) with
  | some old =>
    let cs := s.gc.schedule.map (fun d => if d.names c.exhibit c.due then { d with start := c.start, tag := c.tag } else d)
    report c.tag .accepted (report old.tag .replaced { s with gc := { s.gc with schedule := cs } })
  | none =>
    if scheduleDepth ≤ s.gc.schedule.length then report c.tag .full s
    else report c.tag .accepted { s with gc := { s.gc with schedule := insertCue s.gc.tick c s.gc.schedule } }

/-- A CUE frame: the first case of R173 that applies. -/
def takeCue (due : Word) (exhibit : Byte) (start : Word) (tag : Byte) (s : Gx24) : Gx24 :=
  if s.gc.state = .unsynced then reportCue exhibit due (some tag) .invalid s
  else match indexOf 16 exhibit, indexOfWord 512 start with
    | some e, some a =>
      if due = s.gc.tick then runCue ⟨due, e, a, tag⟩ s
      else if isPast due s.gc.tick then reportCue exhibit due (some tag) .late s
      else scheduleCue ⟨due, e, a, tag⟩ s
    | _, _ => reportCue exhibit due (some tag) .range s

/-- A CUE-CANCEL frame (R174). -/
def cancelCue (exhibit : Byte) (due : Word) (s : Gx24) : Gx24 :=
  match indexOf 16 exhibit with
  | none => reportCue exhibit due none .range s
  | some e =>
    match s.gc.schedule.find? (fun d => d.names e due) with
    | none => reportCue exhibit due none .range s
    | some c => reportCue exhibit due (some c.tag) .cancelled (takeCues (fun d => d.names e due) s).2

end Sys2Proof.Machine
end

