-- ==== Sys2Proof/Machine/Writes.lean ====
section
/-! DEFINITION. The table writes: what each owner takes, clamps, refuses and does (R1, R2, R7, R24, R25, R40, R41, R64,
R88 to R90, R130, R138, R186; 11.4, R191). Each answers its reply code and the state. -/

namespace Sys2Proof.Machine

/-- A number clamped into a range. -/
def clampTo (lo hi n : Nat) : Nat := max lo (min hi n)

/-- The exhibit is PUBLIC or HELD. -/
def inPublicUse (e : Option (Fin 16)) (s : Gx24) : Bool :=
  match e with
  | some e => decide ((exhibitOf e s).mode = .pub) || decide ((exhibitOf e s).mode = .held)
  | none => false

/-! ### Table 1: stations (R1, R2) -/

/-- A station row's contents (11.4). -/
def stationRowOf : List Byte → Option StationRow
  | [en, kind, zone, home, fwd] =>
    match StationKind.ofCode kind, indexOf 4 zone, optIndexOf 16 home with
    | some k, some z, some h => some ⟨flagOf en, k, z, h, flagOf fwd⟩
    | _, _, _ => none
  | _ => none

/-- An axis that is not OFF names the station (R1). -/
def usedByMotion (st : Fin 24) (s : Gx24) : Bool := anyRow (n := 8) (fun a => usesStation a st s)

/-- A reply still awaited from the station is to be discarded (R2). -/
def discardAwaited (st : Fin 24) (s : Gx24) : Gx24 :=
  { s with bs := { s.bs with awaiting := s.bs.awaiting.map (fun w =>
      if w.station = st then { w with discard := true } else w) } }

/-- The station's pending cue is discarded and every cue wait on the station ends (R2, R6, R14). -/
def discardCue (st : Fin 24) (s : Gx24) : Gx24 := endStationWaits st (modStation st (fun x => { x with cue := none }) s)

/-- What disabling a station and changing its kind have in common, in the order STATION-LOST, guards, pending cue and cue waits,
query: R2 and R6 give none (R2, R6, R18; DESIGN CHOICE, assumption 29). -/
def stationWithdrawn (st : Fin 24) (s : Gx24) : Gx24 :=
  endQueryOf st (discardCue st (decideGuardsOf st (endLost st (discardAwaited st s))))

/-- Enabled no to yes: JOINING with miss count 0 (R2). -/
def enableStation (st : Fin 24) (s : Gx24) : Gx24 :=
  decideGuardsOf st (modStation st (fun x => { x with state := .joining, missCount := 0 }) s)

/-- Enabled yes to no: ABSENT (R2). -/
def disableStation (st : Fin 24) (s : Gx24) : Gx24 :=
  stationWithdrawn st (modStation st (fun x => { x with state := .absent }) s)

/-- The kind of a station that stays enabled changes: JOINING, beacon DARK, drive data none reported (R2). -/
def changeStationKind (st : Fin 24) (s : Gx24) : Gx24 :=
  stationWithdrawn st (modStation st (fun x =>
    { x with state := .joining, missCount := 0, beacon := .dark, drive := .none }) s)

/-- The runtime state moves by a taken row write (R2). -/
def moveStation (st : Fin 24) (old new : StationRow) (s : Gx24) : Gx24 :=
  if !old.enabled && new.enabled then enableStation st s
  else if old.enabled && !new.enabled then disableStation st s
  else if new.enabled && decide (old.kind ≠ new.kind) then changeStationKind st s
  else s

/-- The Alert Unit writes the zone's pattern to a station that has become a BEACON or a BEACON with a new zone
(R1, R141). -/
def beaconRowWritten (st : Fin 24) (old new : StationRow) (s : Gx24) : Gx24 :=
  if new.kind = .beacon ∧ (old.kind ≠ .beacon ∨ old.zone ≠ new.zone) then writeBeacon st (tget s.au.patterns new.zone) s
  else s

/-- A station row write (R1, R2). -/
def writeStationRow (row : Word) (c : List Byte) (s : Gx24) : ReplyCode × Gx24 :=
  match indexOfWord 24 row, stationRowOf c with
  | some st, some new =>
    let old := rowOf st s
    if ((old.enabled && !new.enabled) || decide (old.kind ≠ new.kind)) && usedByMotion st s then (.live, s)
    else
      let s := { s with bs := { s.bs with rows := tput s.bs.rows st new } }
      (.ok, beaconRowWritten st old new (moveStation st old new s))
  | _, _ => (.range, s)

/-! ### Table 2: the sweep schedule (R7) -/

/-- A slot's new entry takes the last slot of a station, or gives a station its first: guards are decided and a query to a
station left without a slot ends (R18, R117). A write that does both sees to the station that has lost its slot first: the rules
give no order (DESIGN CHOICE, assumption 29). -/
def slotsChanged (st : Option (Fin 24)) (had : Bool) (s : Gx24) : Gx24 :=
  match st with
  | none => s
  | some st =>
    if hasSlot st s = had then s
    else
      let s := decideGuardsOf st s
      if had then endQueryOf st s else s

/-- A sweep schedule write (R7). -/
def writeSchedule (row : Word) (c : List Byte) (s : Gx24) : ReplyCode × Gx24 :=
  match indexOfWord 32 row, c with
  | some i, [b] =>
    match optIndexOf 24 b with
    | none => (.range, s)
    | some new =>
      let old := tget s.bs.schedule i
      let hadNew := match new with | some st => hasSlot st s | none => false
      let s' := { s with bs := { s.bs with schedule := tput s.bs.schedule i new } }
      let bares := match old with | some st => !hasSlot st s' && (axisOnDrive st s).isSome | none => false
      if bares then (.live, s) else (.ok, slotsChanged new hadNew (slotsChanged old true s'))
  | _, _ => (.range, s)

/-! ### Tables 3 and 4: the input map and the trigger rows (R24, R25) -/

/-- The exhibit of the row that an input map entry names (R24). -/
def mappedExhibit (r : Option (Fin 128)) (s : Gx24) : Option (Fin 16) :=
  match r with
  | some r => (triggerOf r s).exhibit
  | none => none

/-- An input map write (R24). -/
def writeInputMap (row : Word) (c : List Byte) (s : Gx24) : ReplyCode × Gx24 :=
  match indexOfWord 192 row, c with
  | some i, [b] =>
    match optIndexOf 128 b with
    | none => (.range, s)
    | some new =>
      if inPublicUse (mappedExhibit (tget s.pd.inputMap i) s) s || inPublicUse (mappedExhibit new s) s then (.live, s)
      else (.ok, { s with pd := { s.pd with inputMap := tput s.pd.inputMap i new } })
  | _, _ => (.range, s)

/-- A trigger row's contents (11.4). -/
def triggerRowOf : List Byte → Option TriggerRow
  | [e, cls, edge, style, a1, a0] =>
    match optIndexOf 16 e, RowClass.ofCode cls, RowEdge.ofCode edge, RowStyle.ofCode style, optActionOf (wordOf a1 a0) with
    | some e, some k, some g, some y, some a => some ⟨e, k, g, y, a⟩
    | _, _, _, _, _ => none
  | _ => none

/-- A trigger row write: a taken one makes the row's continuation entry EMPTY (R25, R38). -/
def writeTriggerRow (row : Word) (c : List Byte) (s : Gx24) : ReplyCode × Gx24 :=
  match indexOfWord 128 row, triggerRowOf c with
  | some r, some new =>
    if inPublicUse (triggerOf r s).exhibit s || inPublicUse new.exhibit s then (.live, s)
    else (.ok, { s with pd := { s.pd with rows := tput s.pd.rows r new, continuation := tput s.pd.continuation r none } })
  | _, _ => (.range, s)

/-! ### Table 6: actions (R64) -/

/-- What an action entry's contents spell before the tests of LIVE and INVALID: an entry, or an ALERT of a hardware class
(R64). -/
inductive ActionContents where
  | entry (a : Action)
  | hardwareAlert
  deriving DecidableEq, Repr

/-- The contents of an action entry of kind code `k`, its operands, link and stop link; none is a RANGE refusal. A FREE entry
discards its links, so a link above 1022 that is not END is not refused there (R64; DEDUCED, assumption 30). -/
def actionOf (k p0 p1 p2 p3 : Byte) (link stop : Word) : Option ActionContents :=
  let plain (f : Link → Option Action) : Option ActionContents := ((linkOf link).bind f).map .entry
  match k.toNat with
  | 0 => some (.entry .free)
  | 1 => plain fun l => do return .lamp (← indexOf 24 p0) (← indexOf 8 p1) (← LampPattern.ofCode p2) l
  | 2 => plain fun l => do return .cue (← indexOf 24 p0) p1 (flagOf p2) l
  | 3 => plain fun l => do return .move (← indexOf 8 p0) (← indexOf 64 p1) (← RunMode.ofCode p2) (flagOf p3) l
  | 4 => plain fun l => do return .haltAxis (← indexOf 8 p0) (← Manner.ofCode p1) l
  | 5 => plain fun l => some (.wait (clampTo 1 255 p0.toNat) l)
  | 6 => plain fun l => some (.pause l)
  | 7 => do
    let l ← linkOf link
    let cls ← indexOf 16 p0
    return if 8 ≤ cls.val then .entry (.alert cls l) else .hardwareAlert
  | 8 => plain fun l => do return .refer p0 (clampTo 1 50 p1.toNat) (← Verdict.ofCode p2) l (← linkOf stop)
  | 9 => plain fun l => do return .count (← indexOf 64 p0) (clampTo 1 15 p1.toNat) l
  | _ => none

/-- An action entry's contents (11.4). -/
def actionContentsOf : List Byte → Option ActionContents
  | [k, p0, p1, p2, p3, l1, l0, t1, t0] => actionOf k p0 p1 p2 p3 (wordOf l1 l0) (wordOf t1 t0)
  | _ => none

/-- Some runner that is not FREE stands at the entry (R64). -/
def runnerStandsAt (i : Fin 512) (s : Gx24) : Bool :=
  anyRow (n := 16) (fun e => decide ((runnerOf e s).state ≠ .free) && decide ((runnerOf e s).index.val = i.val))

/-- An action entry write (R64). -/
def writeAction (row : Word) (c : List Byte) (s : Gx24) : ReplyCode × Gx24 :=
  match indexOfWord 512 row, actionContentsOf c with
  | some i, some new =>
    if runnerStandsAt i s then (.live, s)
    else match new with
      | .hardwareAlert => (.invalid, s)
      | .entry a => (.ok, { s with cr := { s.cr with actions := tput s.cr.actions i a } })
  | _, _ => (.range, s)

/-! ### Table 7: exhibit configuration (R40, R41) -/

/-- The axes of the two list bytes; none when a byte is neither an axis nor 0xFF (11.4). -/
def axisListOf (b1 b2 : Byte) : Option (List (Fin 8)) :=
  match optIndexOf 8 b1, optIndexOf 8 b2 with
  | some x, some y => some (x.toList ++ y.toList)
  | _, _ => none

/-- The status lamp of its two bytes (11.4). -/
def statusLampOf (st out : Byte) : Option (Option (Fin 24 × Fin 8)) :=
  if st = 0xFF#8 then some none
  else match indexOf 24 st, indexOf 8 out with
    | some x, some y => some (some (x, y))
    | _, _ => none

/-- The idle reload mask of its byte (11.4). -/
def idleMaskOf (b : Byte) : IdleMask := ⟨b.getLsbD 0, b.getLsbD 1, b.getLsbD 2, b.getLsbD 3⟩

/-- An exhibit configuration row's contents, idle reload and queue depth clamped (R40). -/
def exhibitRecordOf : List Byte → Option ExhibitRecord
  | [zone, x1, x2, i1, i0, a1, a0, depth, patience, cooldown, flood, mask, st, out] =>
    match indexOf 4 zone, axisListOf x1 x2, optActionOf (wordOf a1 a0), statusLampOf st out with
    | some z, some axes, some a, some lamp =>
      some {
        zone := z, axes := axes, idleReload := clampTo 0 9999 (wordOf i1 i0).toNat, attract := a
        depth := clampTo 0 4 depth.toNat, patience := patience.toNat, cooldown := cooldown.toNat, flood := flood.toNat
        mask := idleMaskOf mask, lamp := lamp }
    | _, _, _, _ => none
  | _ => none

/-- The exhibit owns the axis or has a claim pending on it (R40). -/
def holdsAxis (e : Fin 16) (a : Fin 8) (s : Gx24) : Bool :=
  ownsAxis e a s || (axisOf a s).claims.any (fun c => decide (c.claimant = .exhibit e))

/-- The write would take from the list an axis the exhibit owns or claims (R40). -/
def dropsHeldAxis (e : Fin 16) (axes : List (Fin 8)) (s : Gx24) : Bool :=
  (exhibitOf e s).record.axes.any (fun a => !axes.contains a && holdsAxis e a s)

/-- An axis of the list is already listed by two other exhibits (R40). -/
def listedByThree (e : Fin 16) (axes : List (Fin 8)) (s : Gx24) : Bool :=
  axes.any (fun a => decide (2 ≤ countRows (n := 16) (fun x => decide (x ≠ e) && lists x a s)))

/-- The list names one axis twice (R40). -/
def namesTwice : List (Fin 8) → Bool
  | [x, y] => x = y
  | _ => false

/-- An exhibit configuration write (R40); a new status lamp is written at once (R41). -/
def writeExhibitConfig (row : Word) (c : List Byte) (s : Gx24) : ReplyCode × Gx24 :=
  match indexOfWord 16 row, exhibitRecordOf c with
  | some e, some new =>
    if inPublicUse (some e) s || dropsHeldAxis e new.axes s then (.live, s)
    else if namesTwice new.axes || listedByThree e new.axes s then (.invalid, s)
    else
      let old := (exhibitOf e s).record
      let s := modExhibit e (fun x => { x with record := new }) s
      (.ok, if new.lamp = old.lamp then s else showMode e s)
  | _, _ => (.range, s)

/-! ### Tables 8 to 10: axes, programs, segments (R88 to R90) -/

/-- The guard of its three bytes (11.4, R88). -/
def guardInputOf (st input level : Byte) : Option (Option GuardInput) :=
  if st = 0xFF#8 then some none
  else match indexOf 24 st, indexOf 8 input, indexOf 2 level with
    | some x, some i, some l => some (some ⟨x, i, decide (l = 1)⟩)
    | _, _, _ => none

/-- The parameters in the first sixteen bytes of an axis row, clamped (R88). -/
def axisParamsOf : List Byte → Option AxisParams
  | [d, a1, a0, m1, m0, x1, x0, f1, f0, gs, gi, gl, settle, timeout, claim, arb] =>
    match optIndexOf 24 d, guardInputOf gs gi gl, Arbitration.ofCode arb with
    | some drive, some guard, some arbitration =>
      some {
        drive := drive, accel := clampTo 1 1023 (wordOf a1 a0).toNat
        softMin := (wordOf m1 m0).toInt, softMax := (wordOf x1 x0).toInt
        followLimit := clampTo 1 4095 (wordOf f1 f0).toNat, guard := guard
        guardSettle := clampTo 1 255 settle.toNat, guardTimeout := timeout.toNat
        claimTimeout := clampTo 1 255 claim.toNat, arbitration := arbitration }
    | _, _, _ => none
  | _ => none

/-- An axis row may come with or without its five read-only bytes, which are ignored (R191). -/
def axisRowOf (c : List Byte) : Option AxisParams :=
  if c.length = 16 ∨ c.length = 21 then axisParamsOf (c.take 16) else none

/-- Another axis's row names the drive station (R88). -/
def driveTaken (a : Fin 8) (d : Option (Fin 24)) (s : Gx24) : Bool :=
  d.isSome && anyRow (n := 8) (fun b => decide (b ≠ a) && decide ((axisOf b s).params.drive = d))

/-- An axis parameter write (R88). -/
def writeAxisParams (row : Word) (c : List Byte) (s : Gx24) : ReplyCode × Gx24 :=
  match indexOfWord 8 row, axisRowOf c with
  | some a, some new =>
    if (axisOf a s).state ≠ .off then (.live, s)
    else if new.softMax < new.softMin || driveTaken a new.drive s then (.invalid, s)
    else (.ok, modAxis a (fun x => { x with params := new }) s)
  | _, _ => (.range, s)

/-- A program row's contents (R89). -/
def programOf : List Byte → Option Program
  | [first, count] => if 1 ≤ count.toNat ∧ count.toNat ≤ 16 then some ⟨first.toFin, count.toNat⟩ else none
  | _ => none

/-- A program write (R89). -/
def writeProgram (row : Word) (c : List Byte) (s : Gx24) : ReplyCode × Gx24 :=
  match indexOfWord 64 row, programOf c with
  | some p, some new =>
    if programActive p s then (.live, s) else (.ok, { s with mu := { s.mu with programs := tput s.mu.programs p new } })
  | _, _ => (.range, s)

/-- A segment row's contents, the cruise clamped (R90). -/
def segmentOf : List Byte → Option Segment
  | [t1, t0, c1, c0, dwell] => some ⟨(wordOf t1 t0).toInt, clampTo 1 511 (wordOf c1 c0).toNat, dwell.toNat⟩
  | _ => none

/-- A segment write (R90). -/
def writeSegment (row : Word) (c : List Byte) (s : Gx24) : ReplyCode × Gx24 :=
  match indexOfWord 256 row, segmentOf c with
  | some g, some new =>
    if segmentActive g s then (.live, s) else (.ok, { s with mu := { s.mu with segments := tput s.mu.segments g new } })
  | _, _ => (.range, s)

/-! ### Tables 11 and 12: alert classes and zone neighbours (R130, R138) -/

/-- A class row's contents for a class, clamped and forced (R130). -/
def alertClassOf (cls : Fin 16) : List Byte → Option AlertClass
  | [sev, hold, ack, i1, i0, tier, zone] =>
    match ZoneOverride.ofCode zone with
    | none => none
    | some z =>
      if 1 ≤ sev.toNat ∧ sev.toNat ≤ 3 ∧ 1 ≤ tier.toNat ∧ tier.toNat ≤ 3 then
        some {
          severity := sev.toNat, hold := flagOf hold || forcedClass cls
          ackRequired := flagOf ack || momentary cls || forcedClass cls
          interval := clampTo 0 9999 (wordOf i1 i0).toNat, maxTier := tier.toNat, zone := z }
      else none
  | _ => none

/-- An alert class write (R130). -/
def writeAlertClass (row : Word) (c : List Byte) (s : Gx24) : ReplyCode × Gx24 :=
  match indexOfWord 16 row with
  | none => (.range, s)
  | some cls =>
    match alertClassOf cls c with
    | none => (.range, s)
    | some new => (.ok, { s with au := { s.au with classes := tput s.au.classes cls new } })

/-- A zone neighbour write: the beacons are rendered anew (R138). -/
def writeNeighbours (row : Word) (c : List Byte) (s : Gx24) : ReplyCode × Gx24 :=
  match indexOfWord 4 row, c with
  | some z, [mask] =>
    if 16 ≤ mask.toNat then (.range, s)
    else (.ok, render { s with au := { s.au with neighbours := tput s.au.neighbours z (bitTable 4 mask.toNat) } })
  | _, _ => (.range, s)

/-! ### Table 15: settings (R157, R186) -/

/-- The two writable fields of a settings row, with or without its read-only fields, which are ignored (R186, R191). -/
def settingsOf (c : List Byte) : Option (Fin 4 × Nat) :=
  match c with
  | period :: q1 :: q0 :: rest =>
    if rest.length = 0 ∨ rest.length = 2 then (indexOf 4 period).map (fun p => (p, (wordOf q1 q0).toNat)) else none
  | _ => none

/-- A settings write: a changed quiet reload reloads the quiet timer (R157, R186). -/
def writeSettings (row : Word) (c : List Byte) (s : Gx24) : ReplyCode × Gx24 :=
  match settingsOf c with
  | none => (.range, s)
  | some (p, q) =>
    if row ≠ 0#16 then (.range, s)
    else
      let changed := decide (q ≠ s.tp.quietReload)
      let s := { s with tp := { s.tp with period := p, quietReload := q } }
      (.ok, if changed then reloadQuiet s else s)

end Sys2Proof.Machine
end

