-- ==== Sys2Proof/Machine/Management.lean ====
section
/-! DEFINITION. The Trunk Port's path of a frame: taking or discarding a down frame (R180, R181), the management replies
(R184, R185), the snapshot (R162), and sending an up frame (R182). -/

namespace Sys2Proof.Machine

/-! ### Down frames (R180) -/

/-- The broadcast destination (R179). -/
def broadcast : Serial := 15#4

/-- A frame addressed to this part's own number passes every check and is handed to its owner; a part whose straps read 15
finds none addressed to itself alone, so every such frame but TICK is a type error (R179, R180). -/
def takeFrame (handle : Gx24 → Gx24) (s : Gx24) : Gx24 :=
  if s.tp.node = broadcast then growTrunk .typeErrors s else handle (growTrunk .framesTaken s)

/-- A TICK frame is taken whichever of the two destinations it carries (R179, R180). -/
def takeBroadcast (handle : Gx24 → Gx24) (s : Gx24) : Gx24 := handle (growTrunk .framesTaken s)

/-- A taken frame whose owner discards it for a field out of range (R181). -/
def frameError (s : Gx24) : Gx24 := growTrunk .frameErrors s

/-- The payload length of each down type of fixed length (11.3). -/
def fixedLength (type : Byte) : Option Nat :=
  match type.toNat with
  | 1 => some 3
  | 2 => some 6
  | 3 => some 3
  | 4 => some 3
  | 5 => some 2
  | 6 => some 5
  | 7 => some 2
  | 8 => some 3
  | 9 => some 3
  | 10 => some 4
  | _ => none

/-- MGMT's type code and the length of its fixed header (R180, 11.3). -/
def mgmtType : Byte := 0x0B#8

/-- The payload length agrees with the type (R180 check 4). -/
def lengthAgrees (type : Byte) (n : Nat) : Bool :=
  if type = mgmtType then decide (2 ≤ n) else decide (fixedLength type = some n)

/-- The type code names a down frame type (R180 check 3). -/
def isDownType (type : Byte) : Bool := decide (type = mgmtType) || (fixedLength type).isSome

/-- The largest payload (R180). -/
def payloadLimit : Nat := 250

/-- The check that discards a down frame, as the counter it adds to; none when the frame passes all four (R180). -/
def discardedBy (node : Serial) (line : List Byte) : Option TrunkCounter :=
  match checkedFrame 3 (unescape line) with
  | some (address :: type :: len :: payload) =>
    if payloadLimit < len.toNat then some .crcErrors
    else if address ≠ byteOf node.toNat ∧ address ≠ byteOf broadcast.toNat then some .foreignFrames
    else if !isDownType type ∨ (address = byteOf broadcast.toNat ∧ type ≠ 1#8) then some .typeErrors
    else if !lengthAgrees type payload.length then some .lengthErrors
    else none
  | _ => some .crcErrors

/-- A discarded down frame is counted and has no other effect (R180); a frame that passes is not discarded. -/
def discardFrame (line : List Byte) (s : Gx24) : Gx24 :=
  match discardedBy s.tp.node line with
  | some c => growTrunk c s
  | none => s

/-! ### MGMT-REPLY (R184, R185) -/

/-- The operation codes (11.2). -/
def opTableRead : Byte := 1#8
def opTableWrite : Byte := 2#8
def opExhibitMode : Byte := 3#8
def opAxisEnable : Byte := 4#8
def opSnapshot : Byte := 5#8
def opResetWarm : Byte := 6#8
def opClearCold : Byte := 7#8

/-- The reply of an operation that names no table (R184, 11.3). The frames of the notices that an operation leaves in flight come
after its reply in the up queue: R182 and R184 leave that open (DESIGN CHOICE, assumption 31). -/
def replyPlain (tag op : Byte) (code : ReplyCode) (contents : List Byte) (s : Gx24) : Gx24 :=
  sendUp (.mgmtReply tag op code 0#8 0#16 contents) s

/-- The reply of a table operation, with the row as it stands; no row where there is none (R184, R185). As for `replyPlain`, the
frames of notices left in flight come after it (DESIGN CHOICE, assumption 31). -/
def replyTable (tag op : Byte) (code : ReplyCode) (id : Nat) (row : Word) (s : Gx24) : Gx24 :=
  sendUp (.mgmtReply tag op code (byteOf id) row ((readRow id row.toNat s).getD [])) s

/-- A write to a writable table: the owner's answer is returned with the row as it then stands (R185). -/
def replyWrite (tag : Byte) (id : Nat) (row : Word) (r : ReplyCode × Gx24) : Gx24 :=
  replyTable tag opTableWrite r.1 id row r.2

/-- The reply to a table operation whose body is too short to name a row: it carries the table id where the body names one,
row 0 and no contents (R184; DEDUCED, assumption 11). -/
def replyShort (tag op : Byte) (code : ReplyCode) (body : List Byte) (s : Gx24) : Gx24 :=
  sendUp (.mgmtReply tag op code (body.headD 0#8) 0#16 []) s

/-- TABLE-READ: a body of another length is answered RANGE, with the table id and row it names (R184, R185). -/
def readTable (tag : Byte) (body : List Byte) (s : Gx24) : Gx24 :=
  match body with
  | id :: r1 :: r0 :: rest =>
    let found := (readRow id.toNat (wordOf r1 r0).toNat s).isSome
    replyTable tag opTableRead (if found && rest.isEmpty then .ok else .range) id.toNat (wordOf r1 r0) s
  | _ => replyShort tag opTableRead .range body s

/-- The table ids that are read only (R185). -/
def readOnlyTables : List Nat := [5, 13, 14, 16]

/-- What the owner of a writable table does with a row and its contents (R185). -/
def ownerWrite (id : Nat) (row : Word) (c : List Byte) (s : Gx24) : Option (ReplyCode × Gx24) :=
  match id with
  | 1 => some (writeStationRow row c s)
  | 2 => some (writeSchedule row c s)
  | 3 => some (writeInputMap row c s)
  | 4 => some (writeTriggerRow row c s)
  | 6 => some (writeAction row c s)
  | 7 => some (writeExhibitConfig row c s)
  | 8 => some (writeAxisParams row c s)
  | 9 => some (writeProgram row c s)
  | 10 => some (writeSegment row c s)
  | 11 => some (writeAlertClass row c s)
  | 12 => some (writeNeighbours row c s)
  | 15 => some (writeSettings row c s)
  | _ => none

/-- TABLE-WRITE: READ-ONLY for a read-only table whatever the length, RANGE for a table that does not exist, else the
owner's answer (R185, R191). -/
def writeTable (tag : Byte) (body : List Byte) (s : Gx24) : Gx24 :=
  match body with
  | id :: r1 :: r0 :: contents =>
    let row := wordOf r1 r0
    if readOnlyTables.contains id.toNat then replyTable tag opTableWrite .readOnly id.toNat row s
    else match ownerWrite id.toNat row contents s with
      | some r => replyWrite tag id.toNat row r
      | none => replyTable tag opTableWrite .range id.toNat row s
  | id :: _ => replyShort tag opTableWrite (if readOnlyTables.contains id.toNat then .readOnly else .range) body s
  | [] => replyShort tag opTableWrite .range body s

/-- EXHIBIT-MODE: body length and exhibit and mode codes, then the change (R42, R184). -/
def manageMode (tag : Byte) (body : List Byte) (s : Gx24) : Gx24 :=
  match body with
  | [e, m] =>
    match indexOf 16 e, Mode.ofCode m with
    | some e, some m =>
      let (code, contents, s) := setMode e m s
      replyPlain tag opExhibitMode code contents s
    | _, _ => replyPlain tag opExhibitMode .range [] s
  | _ => replyPlain tag opExhibitMode .range [] s

/-- AXIS-ENABLE: body length and axis number, then the enable or the disable its flag names (R107, R108, R184). The reply comes
before the frames of the notices that a disable leaves in flight (DESIGN CHOICE, assumption 31). -/
def manageAxis (tag : Byte) (body : List Byte) (s : Gx24) : Gx24 :=
  match body with
  | [a, flag] =>
    match indexOf 8 a with
    | some a =>
      let (code, s) := if flagOf flag then enableAxis a s else disableAxis a s
      replyPlain tag opAxisEnable code [] s
    | none => replyPlain tag opAxisEnable .range [] s
  | _ => replyPlain tag opAxisEnable .range [] s

/-! ### The snapshot (R162) -/

/-- Every live counter is copied into the bank at one instant, and with clear every one becomes 0 (R162). -/
def takeSnapshot (clear : Bool) (s : Gx24) : Gx24 :=
  { s with
    ac := { s.ac with bank := ⟨true, s.gc.tick, clear, s.counters⟩ }
    counters := if clear then .zero else s.counters }

/-- SNAPSHOT (R162, R184). -/
def manageSnapshot (tag : Byte) (body : List Byte) (s : Gx24) : Gx24 :=
  match body with
  | [flag] => replyPlain tag opSnapshot .ok [] (takeSnapshot (flagOf flag) s)
  | _ => replyPlain tag opSnapshot .range [] s

/-- CLEAR-COLD (R187). -/
def manageClearCold (tag : Byte) (body : List Byte) (s : Gx24) : Gx24 :=
  match body with
  | [] => replyPlain tag opClearCold .ok [] { s with tp := { s.tp with coldFlag := false } }
  | _ => replyPlain tag opClearCold .range [] s

/-! ### Sending (R182) -/

/-- The frame at the head of the up queue has left the pin: it is removed and counted (R182). -/
def sendHead (s : Gx24) : Gx24 :=
  match s.tp.upQueue with
  | [] => s
  | f :: rest => growTrunk .upFramesSent { s with trunkOut := f.line s.tp.node, tp := { s.tp with upQueue := rest } }

end Sys2Proof.Machine
end

