-- ==== Sys2Proof/Machine/Reset.lean ====
section
/-! DEFINITION. The cold reset (R187) and the warm reset (R188), block by block. -/

namespace Sys2Proof.Machine

/-! ### Cold reset -/

/-- Every block at its cold values under these straps; ESTOP_N keeps its level, and what the model draws its free choices
from stays as it was. -/
def coldBlocks (straps : Serial) (s : Gx24) : Gx24 :=
  { Gx24.cold straps with estop := s.estop, choices := s.choices, choicePoint := s.choicePoint }

/-- RESET_N is asserted: MOTION_PWR and SUPERVISOR are deasserted and nothing is on either link (R187). The manual does not
say what the blocks hold meanwhile; they stand at their cold values, the node number as it was (DESIGN CHOICE,
assumption 7). -/
def holdReset (s : Gx24) : Gx24 := setPower { coldBlocks s.tp.node s with resetLow := true }

/-- RESET_N is released, or power-on is done: every block holds its cold values, and an asserted ESTOP_N raises ESTOP at once
(R125, R128, R187). -/
def releaseReset (straps : Serial) (s : Gx24) : Gx24 :=
  let c := coldBlocks straps s
  if s.estop then setPower (raise keyEstop c) else setPower c

/-- The cold reset: RESET_N asserted, or released with what the straps read (R187). -/
def coldReset (straps : Option Serial) (s : Gx24) : Gx24 :=
  match straps with
  | none => holdReset s
  | some n => releaseReset n s

/-- ESTOP_N takes this level while RESET_N is asserted: the part follows the pin and does nothing else (R125, R187;
assumption 7). -/
def estopHeld (level : Bool) (s : Gx24) : Gx24 := holdReset { s with estop := level }

/-! ### Warm reset, block by block -/

/-- A station after a warm reset (R22). R22 does not name the reported last-started serial and cue-playing flag: they are kept
(DESIGN CHOICE, assumption 24). -/
def Station.warm (x : Station) : Station :=
  { x with
    state := if x.state = .present then .joining else x.state
    missCount := 0, cue := none, beacon := .dark, lamps := Vector.replicate 8 .off, stepped := false, lostKey := none }

/-- The Branch Scheduler (R22). -/
def warmBranch (s : Gx24) : Gx24 :=
  { s with
    branchOut := []
    bs := { s.bs with
      stations := tmake fun st => (stationOf st s).warm
      sweepCode := s.tp.period, nextSlot := 0, awaiting := none, query := none } }

/-- The Press Dispatcher (R39). -/
def warmDispatcher (s : Gx24) : Gx24 :=
  { s with pd := { s.pd with continuation := Vector.replicate 128 none } }

/-- An exhibit after a warm reset (R62). -/
def Exhibit.warm (x : Exhibit) : Exhibit :=
  { x with
    mode := match x.mode with
      | .pub => .service
      | .held => .service
      | .service => .service
      | .dark => .dark
    activity := .idle, grant := none, cooldown := 0, queue := [], flood := 0 }

/-- The Exhibit Controller (R62). -/
def warmExhibits (s : Gx24) : Gx24 := { s with exhibits := tmake fun e => (exhibitOf e s).warm }

/-- A runner after a warm reset (R87). R87 does not name the row, the input, the origin, the request tick and the current action
index: row and input become absent, the others are kept (DESIGN CHOICE, assumption 24). -/
def Runner.warm (r : Runner) : Runner := { r.freed with steps := 0, wait := 0 }

/-- The Chain Runner (R87). -/
def warmChains (s : Gx24) : Gx24 := { s with cr := { s.cr with runners := tmake fun e => (runnerOf e s).warm } }

/-- An axis after a warm reset (R106, R129; what neither rule names is kept: DEDUCED, assumption 24). -/
def Axis.warm (x : Axis) : Axis :=
  { x with
    state := .off, velocity := 0, job := none, dwell := 0, stopAtLoopEnd := false, resume := .running
    setpoint := none, owner := none, claims := [], lastOwner := none, disabling := false
    guardOpen := false, settleCount := 0, guardOpenTime := 0, guardHeldKey := none
    strikes := 0, cause := none, acked := false, faultKey := none }

/-- The Motion Unit (R106, R129). -/
def warmMotion (s : Gx24) : Gx24 := { s with mu := { s.mu with axes := tmake fun a => (axisOf a s).warm } }

/-- The Alert Unit: every slot FREE with its generation kept, the sets empty, every zone DARK, SUPERVISOR off (R152). -/
def warmAlerts (s : Gx24) : Gx24 :=
  { s with
    supervisor := false
    au := { s.au with
      slots := tmake fun i => ⟨(tget s.au.slots i).generation, none⟩
      overflowHeld := noExhibits, lostAxes := Vector.replicate 8 none
      patterns := Vector.replicate 4 .dark, heldGiven := noExhibits } }

/-- The Activity Unit (R165). -/
def warmActivity (s : Gx24) : Gx24 := reloadAllTimers { s with ac := { s.ac with gallery := .closed } }

/-- The Gallery Clock (R178). -/
def warmClock (s : Gx24) : Gx24 :=
  { s with gc := { s.gc with
      schedule := [], missed := 0, silence := if s.gc.state = .locked then 0 else s.gc.silence } }

/-- Every block takes its warm reset; what was in flight is dropped, and MOTION_PWR follows R126 (R188). -/
def warmBlocks (s : Gx24) : Gx24 :=
  let s := { s with work := [] }
  let s := warmAlerts (warmMotion (warmChains (warmExhibits (warmDispatcher (warmBranch s)))))
  setPower (warmClock (warmActivity s))

/-- The owners raise their present conditions again: ESTOP, STATION-LOST of each LOST station in rising number, TRUNK-LOST in
ISLAND (R22, R129, R152, R178). The manual gives no order among the owners (DESIGN CHOICE, assumption 29). The ESTOP record so
raised keeps MOTION_PWR deasserted until it is removed, as R126 states, though R129 speaks of power at the release of ESTOP_N
(DEDUCED, assumption 34). -/
def raiseAgain (s : Gx24) : Gx24 :=
  let s := if s.estop then setPower (raise keyEstop s) else s
  let s := forRows (n := 24) (fun st s => if (stationOf st s).state = .lost then raiseLost st s else s) s
  if s.gc.state = .island then raise keyTrunkLost s else s

/-- RESET-WARM: the blocks, then the reply, then the raises (R188). -/
def manageReset (tag : Byte) (body : List Byte) (s : Gx24) : Gx24 :=
  match body with
  | [] => raiseAgain (replyPlain tag opResetWarm .ok [] (warmBlocks s))
  | _ => replyPlain tag opResetWarm .range [] s

end Sys2Proof.Machine
end

