-- ==== Sys2Proof/Machine/Events.lean ====
section
/-! DEFINITION. The events inside the part that the opcode table lists as commands of their own: each is the last count or
the moment its rule names, taken when the part stands at that moment, and without effect otherwise (assumption 5). -/

namespace Sys2Proof.Machine

/-- The clock gives tick events: in UNSYNCED there are none, and no count of tick events ends (R56, R167). -/
def ticking (s : Gx24) : Bool := decide (s.gc.state ≠ .unsynced)

/-- SWEEP_START: the sweep that follows slot 31, or the one at whose slot 0 the part stands (R7, R8). -/
def eventSweepStart (s : Gx24) : Gx24 :=
  if s.bs.nextSlot = 0 ∨ s.bs.nextSlot = 32 then startSweep (settle (endSlot none s)) else s

/-- DWELL_END: the step point at which the dwell remaining falls to 0 (R96). It stands apart from any slot: it neither reads
nor sets the station's stepped mark of R9, so the sweep's own step point still comes (DESIGN CHOICE, assumption 5). -/
def eventDwellEnd (a : Fin 8) (s : Gx24) : Gx24 :=
  let x := axisOf a s
  if x.state = .dwell ∧ x.dwell ≤ 1 ∧ x.stepGood then stepAxis a s else s

/-- GUARD_SETTLE: the step point at which the settle count reaches the guard settle (R119). It stands apart from any slot: it
neither reads nor sets the station's stepped mark of R9, so the sweep's own step point still comes (DESIGN CHOICE,
assumption 5). -/
def eventGuardSettle (a : Fin 8) (s : Gx24) : Gx24 :=
  let x := axisOf a s
  if x.state = .guardStop ∧ !x.guardOpen ∧ x.params.guardSettle ≤ x.settleCount + 1 ∧ x.stepGood then stepAxis a s else s

/-- The miss that is a station's third: the end of the slot in which its reply is awaited (R5). -/
def missAwaited (st : Fin 24) (s : Gx24) : Gx24 :=
  match s.bs.awaiting with
  | some w => if w.station = st then endSlot none s else s
  | none => s

/-- STATION_LOST: the third consecutive miss (R5). -/
def eventStationLost (st : Fin 24) (s : Gx24) : Gx24 :=
  let x := stationOf st s
  if x.state = .joining ∨ x.state = .present then
    if x.missCount = missLimit then loseStation st s else if x.missCount = 2 then missAwaited st s else s
  else s

/-- The pending query has no poll left to carry it: its polls are used up, and what is awaited, if anything, is the fourth
poll's reply, or its station, disabled or without a slot, is not polled any more (R17, R18). A LOST station is polled still
(R5, R7): a query taken while it is LOST goes on. -/
def queryExhausted (q : PendingQuery) (s : Gx24) : Bool :=
  decide (q.polls = 0) || decide ((stationOf q.station s).state = .absent) || !hasSlot q.station s

/-- QUERY_TIMEOUT: a query without a poll left ends TIMEOUT, the fourth poll's reply then being one without an answer (R17, R18;
DESIGN CHOICE, assumption 5). -/
def eventQueryTimeout (s : Gx24) : Gx24 :=
  match s.bs.query with
  | some q => if queryExhausted q s then endQuery .timeout none s else s
  | none => s

/-- CHAIN_FAULT_LOOP: a runner in STEPPING whose steps field holds 32 (R67). -/
def eventChainFaultLoop (e : Fin 16) (s : Gx24) : Gx24 :=
  if (runnerOf e s).state = .stepping ∧ stepLimit ≤ (runnerOf e s).steps then chainFault e .loop s else s

/-- CROWDING: the flood count reaches its threshold (R58). -/
def eventCrowding (e : Fin 16) (s : Gx24) : Gx24 :=
  let x := exhibitOf e s
  if 0 < x.record.flood ∧ x.record.flood ≤ x.flood + 1 then raiseCrowding e s else s

/-- GUARD_HELD: the guard-open time reaches the guard timeout (R120). -/
def eventGuardHeld (a : Fin 8) (s : Gx24) : Gx24 :=
  let x := axisOf a s
  if ticking s ∧ x.state ≠ .off ∧ x.guardOpen ∧ x.guardHeldKey = none ∧ 0 < x.params.guardTimeout
      ∧ x.params.guardTimeout ≤ x.guardOpenTime + 1 then
    raiseGuardHeld a (modAxis a (fun x => { x with guardOpenTime := x.params.guardTimeout }) s)
  else s

/-- CLAIM_TIMEOUT: the time of a pending claim reaches 0 (R113). -/
def eventClaimTimeout (a : Fin 8) (c : Claimant) (s : Gx24) : Gx24 :=
  match (axisOf a s).claims.find? (fun d => decide (d.claimant = c)) with
  | some d =>
    if ticking s ∧ d.timeLeft ≤ 1 then
      timeOutClaim a c (modAxis a (fun x => { x with
        claims := x.claims.map (fun d => if d.claimant = c then { d with timeLeft := 0 } else d) }) s)
    else s
  | none => s

/-- ESCALATION: a record's countdown reaches 0; while the clock is UNSYNCED no record escalates (R140). -/
def eventEscalation (i : Fin 64) (s : Gx24) : Gx24 :=
  match recordAt i s with
  | some r =>
    if ticking s ∧ escalates r s ∧ r.countdown ≤ 1 then
      let (ns, s) := escalateSlot i ([], s)
      alertsChanged ns s
    else s
  | none => s

/-- COOLDOWN_END: the cooldown remaining reaches 0, the exhibit's queued presses having aged first by the tick event that
ends it (R56). -/
def eventCooldownEnd (e : Fin 16) (s : Gx24) : Gx24 :=
  if ticking s ∧ (exhibitOf e s).activity = .cooldown ∧ (exhibitOf e s).cooldown ≤ 1 then
    cooldownOver e (modExhibit e (fun x => { x with queue := x.queue.map QueueEntry.aged, cooldown := 0 }) s)
  else s

/-- WAIT_TICKS_END: the wait remaining of a WAIT reaches 0 (R74). -/
def eventWaitTicksEnd (e : Fin 16) (s : Gx24) : Gx24 :=
  if ticking s ∧ (runnerOf e s).state = .waitTicks ∧ (runnerOf e s).wait ≤ 1 then
    endWait e (modRunner e (fun r => { r with wait := 0 }) s)
  else s

/-- REFERRAL_TIMEOUT: the wait remaining of a referral reaches 0 (R81). -/
def eventReferralTimeout (e : Fin 16) (s : Gx24) : Gx24 :=
  if ticking s ∧ (runnerOf e s).state = .waitVerdict ∧ (runnerOf e s).wait ≤ 1 then
    timeOutReferral e (modRunner e (fun r => { r with wait := 0 }) s)
  else s

/-- QUIET_TIMER_EXPIRY: the quiet timer of an OPEN gallery reaches 0 (R155). -/
def eventQuietExpiry (s : Gx24) : Gx24 :=
  if ticking s ∧ s.ac.gallery = .opened ∧ 0 < s.tp.quietReload ∧ s.ac.quiet ≤ 1 then
    expireQuiet { s with ac := { s.ac with quiet := 0 } }
  else s

/-- IDLE_EXPIRY: an exhibit's idle timer reaches 0 (R160). -/
def eventIdleExpiry (e : Fin 16) (s : Gx24) : Gx24 :=
  if ticking s ∧ idleCounts e s ∧ tget s.ac.idle e ≤ 1 then expireIdle e s else s

/-- ISLAND_ENTRY: the expiry that brings the silence count to 20 (R169). -/
def eventIslandEntry (s : Gx24) : Gx24 :=
  if s.gc.state = .locked ∧ islandSilence ≤ s.gc.silence + 1 then enterIsland s else s

/-- CUE_FIRE: an entry of the schedule falls due, now or at the next tick number (R175). -/
def eventCueFire (e : Fin 16) (due : Word) (s : Gx24) : Gx24 :=
  match s.gc.schedule.find? (fun c => c.names e due) with
  | some c => if ticking s ∧ ticksAhead due s.gc.tick ≤ 1 then runCue c (takeCues (fun c => c.names e due) s).2 else s
  | none => s

end Sys2Proof.Machine
end

