-- ==== Sys2Proof/Machine/Act.lean ====
section
/-! DEFINITION. The form every command's meaning has: an operation on the part, after which every notice it gave is
taken, so that the command is whole and indivisible (chapter 95). -/

namespace Sys2Proof.Machine

/-- The outcome of a command that does `f` to the part, or `held` while RESET_N is asserted: the next state, every notice
taken and the waiting commands untouched. -/
def State.actOr (held f : Gx24 → Gx24) (s : State) : Host.Outcome State Fault Refusal :=
  .next { s with part := if s.part.resetLow then held s.part else settle (f s.part) }

/-- The outcome of a command that does `f` to the part. While RESET_N is asserted the part receives and sends nothing and no
event comes about in it: the command has no effect (R187; assumption 7). -/
def State.act (f : Gx24 → Gx24) (s : State) : Host.Outcome State Fault Refusal := s.actOr id f

end Sys2Proof.Machine
end

