-- ==== Sys2Proof/Machine/ManagementCommands.lean ====
section
/-! DEFINITION. The commands that are management frames (10.5). -/

namespace Sys2Proof.Machine

/-- TABLE_READ (R185). -/
def execTableRead (tag : Byte) (body : List Byte) (s : State) : Host.Outcome State Fault Refusal :=
  s.act (takeFrame (readTable tag body))

/-- TABLE_WRITE, the row of the opcode table for a table that is read only or does not exist (R185). -/
def execTableWrite (tag : Byte) (body : List Byte) (s : State) : Host.Outcome State Fault Refusal :=
  s.act (takeFrame (writeTable tag body))

/-- STATION_ROW_WRITE (R1). -/
def execStationRowWrite (tag : Byte) (row : Word) (contents : List Byte) (s : State) : Host.Outcome State Fault Refusal :=
  s.act (takeFrame (fun p => replyWrite tag 1 row (writeStationRow row contents p)))

/-- SWEEP_SCHEDULE_WRITE (R7). -/
def execSweepScheduleWrite (tag : Byte) (row : Word) (contents : List Byte) (s : State) : Host.Outcome State Fault Refusal :=
  s.act (takeFrame (fun p => replyWrite tag 2 row (writeSchedule row contents p)))

/-- INPUT_MAP_WRITE (R24). -/
def execInputMapWrite (tag : Byte) (row : Word) (contents : List Byte) (s : State) : Host.Outcome State Fault Refusal :=
  s.act (takeFrame (fun p => replyWrite tag 3 row (writeInputMap row contents p)))

/-- TRIGGER_ROW_WRITE (R25). -/
def execTriggerRowWrite (tag : Byte) (row : Word) (contents : List Byte) (s : State) : Host.Outcome State Fault Refusal :=
  s.act (takeFrame (fun p => replyWrite tag 4 row (writeTriggerRow row contents p)))

/-- ACTION_ENTRY_WRITE (R64). -/
def execActionEntryWrite (tag : Byte) (row : Word) (contents : List Byte) (s : State) : Host.Outcome State Fault Refusal :=
  s.act (takeFrame (fun p => replyWrite tag 6 row (writeAction row contents p)))

/-- EXHIBIT_CONFIG_WRITE (R40). -/
def execExhibitConfigWrite (tag : Byte) (row : Word) (contents : List Byte) (s : State) : Host.Outcome State Fault Refusal :=
  s.act (takeFrame (fun p => replyWrite tag 7 row (writeExhibitConfig row contents p)))

/-- AXIS_PARAMETER_WRITE (R88). -/
def execAxisParameterWrite (tag : Byte) (row : Word) (contents : List Byte) (s : State) : Host.Outcome State Fault Refusal :=
  s.act (takeFrame (fun p => replyWrite tag 8 row (writeAxisParams row contents p)))

/-- PROGRAM_WRITE (R89). -/
def execProgramWrite (tag : Byte) (row : Word) (contents : List Byte) (s : State) : Host.Outcome State Fault Refusal :=
  s.act (takeFrame (fun p => replyWrite tag 9 row (writeProgram row contents p)))

/-- SEGMENT_WRITE (R90). -/
def execSegmentWrite (tag : Byte) (row : Word) (contents : List Byte) (s : State) : Host.Outcome State Fault Refusal :=
  s.act (takeFrame (fun p => replyWrite tag 10 row (writeSegment row contents p)))

/-- ALERT_CLASS_WRITE (R130). -/
def execAlertClassWrite (tag : Byte) (row : Word) (contents : List Byte) (s : State) : Host.Outcome State Fault Refusal :=
  s.act (takeFrame (fun p => replyWrite tag 11 row (writeAlertClass row contents p)))

/-- ZONE_NEIGHBOUR_WRITE (R138). -/
def execZoneNeighbourWrite (tag : Byte) (row : Word) (contents : List Byte) (s : State) : Host.Outcome State Fault Refusal :=
  s.act (takeFrame (fun p => replyWrite tag 12 row (writeNeighbours row contents p)))

/-- SETTINGS_WRITE (R186). -/
def execSettingsWrite (tag : Byte) (row : Word) (contents : List Byte) (s : State) : Host.Outcome State Fault Refusal :=
  s.act (takeFrame (fun p => replyWrite tag 15 row (writeSettings row contents p)))

/-- EXHIBIT_MODE (R42). -/
def execExhibitMode (tag : Byte) (body : List Byte) (s : State) : Host.Outcome State Fault Refusal :=
  s.act (takeFrame (manageMode tag body))

/-- AXIS_ENABLE (R107). -/
def execAxisEnable (tag : Byte) (body : List Byte) (s : State) : Host.Outcome State Fault Refusal :=
  s.act (takeFrame (manageAxis tag body))

/-- AXIS_DISABLE (R108). -/
def execAxisDisable (tag : Byte) (body : List Byte) (s : State) : Host.Outcome State Fault Refusal :=
  s.act (takeFrame (manageAxis tag body))

/-- SNAPSHOT (R162). -/
def execSnapshot (tag : Byte) (body : List Byte) (s : State) : Host.Outcome State Fault Refusal :=
  s.act (takeFrame (manageSnapshot tag body))

/-- RESET_WARM (R188). -/
def execResetWarm (tag : Byte) (body : List Byte) (s : State) : Host.Outcome State Fault Refusal :=
  s.act (takeFrame (manageReset tag body))

/-- CLEAR_COLD (R187). -/
def execClearCold (tag : Byte) (body : List Byte) (s : State) : Host.Outcome State Fault Refusal :=
  s.act (takeFrame (manageClearCold tag body))

/-- MGMT_UNKNOWN_OPERATION: answered RANGE (R184). -/
def execMgmtUnknownOperation (tag operation : Byte) (_ : List Byte) (s : State) : Host.Outcome State Fault Refusal :=
  s.act (takeFrame (replyPlain tag operation .range []))

end Sys2Proof.Machine
end

