-- ==== Sys2Proof/Machine/SweepCommands.lean ====
section
/-! DEFINITION. The commands of the pins and of the branch: the cold reset, ESTOP_N, the sweep, its slots and what ends a
step point, a station or a query. -/

namespace Sys2Proof.Machine

/-- COLD_RESET (R187). -/
def execColdReset (straps : Option Serial) (s : State) : Host.Outcome State Fault Refusal :=
  s.actOr (fun p => settle (coldReset straps p)) (coldReset straps)

/-- ESTOP_ASSERTED (R125). -/
def execEstopAsserted (s : State) : Host.Outcome State Fault Refusal := s.actOr (estopHeld true) assertEstop

/-- ESTOP_RELEASED (R125). -/
def execEstopReleased (s : State) : Host.Outcome State Fault Refusal := s.actOr (estopHeld false) releaseEstop

/-- SWEEP_START (R8). -/
def execSweepStart (s : State) : Host.Outcome State Fault Refusal := s.act eventSweepStart

/-- SLOT_START (R7). -/
def execSlotStart (s : State) : Host.Outcome State Fault Refusal := s.act nextSlotStart

/-- DWELL_END (R96). -/
def execDwellEnd (axis : Fin 8) (s : State) : Host.Outcome State Fault Refusal := s.act (eventDwellEnd axis)

/-- GUARD_SETTLE (R119). -/
def execGuardSettle (axis : Fin 8) (s : State) : Host.Outcome State Fault Refusal := s.act (eventGuardSettle axis)

/-- SLOT_END (R3). -/
def execSlotEnd (reply : Option (List Byte)) (s : State) : Host.Outcome State Fault Refusal := s.act (endSlot reply)

/-- STATION_LOST (R5). -/
def execStationLost (station : Fin 24) (s : State) : Host.Outcome State Fault Refusal := s.act (eventStationLost station)

/-- QUERY_TIMEOUT (R17). -/
def execQueryTimeout (s : State) : Host.Outcome State Fault Refusal := s.act eventQueryTimeout

end Sys2Proof.Machine
end

