-- ==== Sys2Proof/Machine/TimerCommands.lean ====
section
/-! DEFINITION. The commands that are events of the timers, thresholds and clock inside the part. -/

namespace Sys2Proof.Machine

/-- CHAIN_FAULT_LOOP (R67). -/
def execChainFaultLoop (exhibit : Fin 16) (s : State) : Host.Outcome State Fault Refusal :=
  s.act (eventChainFaultLoop exhibit)

/-- CROWDING (R58). -/
def execCrowding (exhibit : Fin 16) (s : State) : Host.Outcome State Fault Refusal := s.act (eventCrowding exhibit)

/-- GUARD_HELD (R120). -/
def execGuardHeld (axis : Fin 8) (s : State) : Host.Outcome State Fault Refusal := s.act (eventGuardHeld axis)

/-- CLAIM_TIMEOUT (R113). -/
def execClaimTimeout (axis : Fin 8) (claimant : Claimant) (s : State) : Host.Outcome State Fault Refusal :=
  s.act (eventClaimTimeout axis claimant)

/-- ESCALATION (R140). -/
def execEscalation (slot : Fin 64) (s : State) : Host.Outcome State Fault Refusal := s.act (eventEscalation slot)

/-- COOLDOWN_END (R56). -/
def execCooldownEnd (exhibit : Fin 16) (s : State) : Host.Outcome State Fault Refusal := s.act (eventCooldownEnd exhibit)

/-- WAIT_TICKS_END (R74). -/
def execWaitTicksEnd (exhibit : Fin 16) (s : State) : Host.Outcome State Fault Refusal := s.act (eventWaitTicksEnd exhibit)

/-- REFERRAL_TIMEOUT (R81). -/
def execReferralTimeout (exhibit : Fin 16) (s : State) : Host.Outcome State Fault Refusal :=
  s.act (eventReferralTimeout exhibit)

/-- QUIET_TIMER_EXPIRY (R155). -/
def execQuietTimerExpiry (s : State) : Host.Outcome State Fault Refusal := s.act eventQuietExpiry

/-- IDLE_EXPIRY (R160). -/
def execIdleExpiry (exhibit : Fin 16) (s : State) : Host.Outcome State Fault Refusal := s.act (eventIdleExpiry exhibit)

/-- LOCAL_TIMER_EXPIRY (R170). -/
def execLocalTimerExpiry (s : State) : Host.Outcome State Fault Refusal := s.act localExpiry

/-- ISLAND_ENTRY (R169). -/
def execIslandEntry (s : State) : Host.Outcome State Fault Refusal := s.act eventIslandEntry

/-- CUE_FIRE (R175). -/
def execCueFire (exhibit : Fin 16) (due : Word) (s : State) : Host.Outcome State Fault Refusal :=
  s.act (eventCueFire exhibit due)

end Sys2Proof.Machine
end

