-- ==== Sys2Proof/Machine/TrunkCommands.lean ====
section
/-! DEFINITION. The commands that are frames of the trunk, but for management (10.2), and the sending of an up frame. -/

namespace Sys2Proof.Machine

/-! ### What the owners do with their frames -/

/-- A TICK frame as the Gallery Clock finds it; a command code outside the three is a frame error (R168). -/
def handleTick (number : Word) (command : Byte) (s : Gx24) : Gx24 :=
  match GalleryCommand.ofCode command with
  | some c => takeTick number c s
  | none => frameError s

/-- A MOVE frame: a claim of HEAD-END at origin SHOW (R115). -/
def handleMove (axis program mode : Byte) (s : Gx24) : Gx24 :=
  match indexOf 8 axis, indexOf 64 program, RunMode.ofCode mode with
  | some a, some p, some m => claimAxis a ⟨.headEnd, .showCue, .program p, m, 0⟩ s
  | _, _, _ => frameError s

/-- A HALT frame acts on the program in progress, whoever owns the axis (R115). -/
def handleHalt (axis manner : Byte) (s : Gx24) : Gx24 :=
  match indexOf 8 axis, Manner.ofCode manner with
  | some a, some m => haltAxis a m s
  | _, _ => frameError s

/-- The segment of a JOG: its target, its cruise clamped to 1 to 511, no dwell (R116). -/
def jogSegment (target cruise : Word) : Segment := ⟨target.toInt, clampTo 1 511 cruise.toNat, 0⟩

/-- A JOG frame: a claim of MAINTENANCE at origin ATTENDANT for one segment (R116). -/
def handleJog (axis : Byte) (target cruise : Word) (s : Gx24) : Gx24 :=
  match indexOf 8 axis with
  | some a => claimAxis a ⟨.maintenance, .attendant, .jog (jogSegment target cruise), .once, 0⟩ s
  | none => frameError s

/-- An ACK-ALERT frame: the record is acknowledged when its generation, the low four bits of the byte, matches; else the
frame is stray (R137). -/
def handleAck (slot generation : Byte) (s : Gx24) : Gx24 :=
  match indexOf 64 slot with
  | none => frameError s
  | some i =>
    if (recordAt i s).isSome ∧ (tget s.au.slots i).generation = generation.extractLsb' 0 4 then
      growAlert .headEndAcks (acknowledgeAll [i] s)
    else growAlert .strayAcks s

/-- A VERDICT frame; the serial is the low four bits of its byte (R80, R191). -/
def handleVerdict (exhibit serial verdict : Byte) (s : Gx24) : Gx24 :=
  match indexOf 16 exhibit, Verdict.ofCode verdict with
  | some e, some v => takeVerdict e (serial.extractLsb' 0 4) v s
  | _, _ => frameError s

/-- An OUTPUT frame: selector 0 writes a lamp (R13), selector 1 a cue (R14), another is a frame error (11.3). -/
def handleOutput (station selector lamp value : Byte) (s : Gx24) : Gx24 :=
  match indexOf 24 station, selector.toNat with
  | some st, 0 =>
    match indexOf 8 lamp, LampPattern.ofCode value with
    | some out, some p => writeLamp st out p s
    | _, _ => frameError s
  | some st, 1 => (writeCue st value s).2
  | _, _ => frameError s

/-! ### The commands -/

/-- TICK (R168). -/
def execTick (number : Word) (command : Byte) (s : State) : Host.Outcome State Fault Refusal :=
  s.act (takeBroadcast (handleTick number command))

/-- DOWN_FRAME_DISCARDED (R180). -/
def execDownFrameDiscarded (bytes : List Byte) (s : State) : Host.Outcome State Fault Refusal := s.act (discardFrame bytes)

/-- CUE_FRAME (R173). -/
def execCueFrame (due : Word) (exhibit : Byte) (start : Word) (tag : Byte) (s : State) :
    Host.Outcome State Fault Refusal := s.act (takeFrame (takeCue due exhibit start tag))

/-- CUE_CANCEL (R174). -/
def execCueCancel (exhibit : Byte) (due : Word) (s : State) : Host.Outcome State Fault Refusal :=
  s.act (takeFrame (cancelCue exhibit due))

/-- MOVE_FRAME (R115). -/
def execMoveFrame (axis program mode : Byte) (s : State) : Host.Outcome State Fault Refusal :=
  s.act (takeFrame (handleMove axis program mode))

/-- HALT (R115). -/
def execHalt (axis manner : Byte) (s : State) : Host.Outcome State Fault Refusal :=
  s.act (takeFrame (handleHalt axis manner))

/-- JOG (R116). -/
def execJog (axis : Byte) (target cruise : Word) (s : State) : Host.Outcome State Fault Refusal :=
  s.act (takeFrame (handleJog axis target cruise))

/-- ACK_ALERT (R137). -/
def execAckAlert (slot generation : Byte) (s : State) : Host.Outcome State Fault Refusal :=
  s.act (takeFrame (handleAck slot generation))

/-- VERDICT (R80). -/
def execVerdict (exhibit serial verdict : Byte) (s : State) : Host.Outcome State Fault Refusal :=
  s.act (takeFrame (handleVerdict exhibit serial verdict))

/-- QUERY (R16). -/
def execQuery (station : Byte) (parameter : Word) (s : State) : Host.Outcome State Fault Refusal :=
  s.act (takeFrame (takeQuery station parameter))

/-- OUTPUT_LAMP (R13). -/
def execOutputLamp (station selector lamp value : Byte) (s : State) : Host.Outcome State Fault Refusal :=
  s.act (takeFrame (handleOutput station selector lamp value))

/-- OUTPUT_CUE (R14). -/
def execOutputCue (station selector lamp value : Byte) (s : State) : Host.Outcome State Fault Refusal :=
  s.act (takeFrame (handleOutput station selector lamp value))

/-- UP_FRAME_SENT (R182). -/
def execUpFrameSent (s : State) : Host.Outcome State Fault Refusal := s.act sendHead

end Sys2Proof.Machine
end

