-- ==== Sys2Proof/Machine/Dispatch.lean ====
section
/-! DEFINITION. Which meaning each command has. -/

namespace Sys2Proof.Machine

def exec (i : Instr) (s : State) : Host.Outcome State Fault Refusal :=
  match i with
  | .coldReset straps => Sys2Proof.Machine.execColdReset straps s
  | .estopAsserted => Sys2Proof.Machine.execEstopAsserted s
  | .estopReleased => Sys2Proof.Machine.execEstopReleased s
  | .sweepStart => Sys2Proof.Machine.execSweepStart s
  | .slotStart => Sys2Proof.Machine.execSlotStart s
  | .dwellEnd axis => Sys2Proof.Machine.execDwellEnd axis s
  | .guardSettle axis => Sys2Proof.Machine.execGuardSettle axis s
  | .slotEnd reply => Sys2Proof.Machine.execSlotEnd reply s
  | .stationLost station => Sys2Proof.Machine.execStationLost station s
  | .queryTimeout => Sys2Proof.Machine.execQueryTimeout s
  | .chainFaultLoop exhibit => Sys2Proof.Machine.execChainFaultLoop exhibit s
  | .crowding exhibit => Sys2Proof.Machine.execCrowding exhibit s
  | .guardHeld axis => Sys2Proof.Machine.execGuardHeld axis s
  | .claimTimeout axis claimant => Sys2Proof.Machine.execClaimTimeout axis claimant s
  | .escalation slot => Sys2Proof.Machine.execEscalation slot s
  | .cooldownEnd exhibit => Sys2Proof.Machine.execCooldownEnd exhibit s
  | .waitTicksEnd exhibit => Sys2Proof.Machine.execWaitTicksEnd exhibit s
  | .referralTimeout exhibit => Sys2Proof.Machine.execReferralTimeout exhibit s
  | .quietTimerExpiry => Sys2Proof.Machine.execQuietTimerExpiry s
  | .idleExpiry exhibit => Sys2Proof.Machine.execIdleExpiry exhibit s
  | .localTimerExpiry => Sys2Proof.Machine.execLocalTimerExpiry s
  | .islandEntry => Sys2Proof.Machine.execIslandEntry s
  | .tick number command => Sys2Proof.Machine.execTick number command s
  | .cueFire exhibit due => Sys2Proof.Machine.execCueFire exhibit due s
  | .downFrameDiscarded bytes => Sys2Proof.Machine.execDownFrameDiscarded bytes s
  | .cueFrame due exhibit start tag => Sys2Proof.Machine.execCueFrame due exhibit start tag s
  | .cueCancel exhibit due => Sys2Proof.Machine.execCueCancel exhibit due s
  | .moveFrame axis program mode => Sys2Proof.Machine.execMoveFrame axis program mode s
  | .halt axis manner => Sys2Proof.Machine.execHalt axis manner s
  | .jog axis target cruise => Sys2Proof.Machine.execJog axis target cruise s
  | .ackAlert slot generation => Sys2Proof.Machine.execAckAlert slot generation s
  | .verdict exhibit serial verdict => Sys2Proof.Machine.execVerdict exhibit serial verdict s
  | .query station parameter => Sys2Proof.Machine.execQuery station parameter s
  | .outputLamp station selector lamp value => Sys2Proof.Machine.execOutputLamp station selector lamp value s
  | .outputCue station selector lamp value => Sys2Proof.Machine.execOutputCue station selector lamp value s
  | .tableRead tag body => Sys2Proof.Machine.execTableRead tag body s
  | .tableWrite tag body => Sys2Proof.Machine.execTableWrite tag body s
  | .stationRowWrite tag row contents => Sys2Proof.Machine.execStationRowWrite tag row contents s
  | .sweepScheduleWrite tag row contents => Sys2Proof.Machine.execSweepScheduleWrite tag row contents s
  | .inputMapWrite tag row contents => Sys2Proof.Machine.execInputMapWrite tag row contents s
  | .triggerRowWrite tag row contents => Sys2Proof.Machine.execTriggerRowWrite tag row contents s
  | .actionEntryWrite tag row contents => Sys2Proof.Machine.execActionEntryWrite tag row contents s
  | .exhibitConfigWrite tag row contents => Sys2Proof.Machine.execExhibitConfigWrite tag row contents s
  | .axisParameterWrite tag row contents => Sys2Proof.Machine.execAxisParameterWrite tag row contents s
  | .programWrite tag row contents => Sys2Proof.Machine.execProgramWrite tag row contents s
  | .segmentWrite tag row contents => Sys2Proof.Machine.execSegmentWrite tag row contents s
  | .alertClassWrite tag row contents => Sys2Proof.Machine.execAlertClassWrite tag row contents s
  | .zoneNeighbourWrite tag row contents => Sys2Proof.Machine.execZoneNeighbourWrite tag row contents s
  | .settingsWrite tag row contents => Sys2Proof.Machine.execSettingsWrite tag row contents s
  | .exhibitMode tag body => Sys2Proof.Machine.execExhibitMode tag body s
  | .axisEnable tag body => Sys2Proof.Machine.execAxisEnable tag body s
  | .axisDisable tag body => Sys2Proof.Machine.execAxisDisable tag body s
  | .snapshot tag body => Sys2Proof.Machine.execSnapshot tag body s
  | .resetWarm tag body => Sys2Proof.Machine.execResetWarm tag body s
  | .clearCold tag body => Sys2Proof.Machine.execClearCold tag body s
  | .upFrameSent => Sys2Proof.Machine.execUpFrameSent s
  | .mgmtUnknownOperation tag operation body => Sys2Proof.Machine.execMgmtUnknownOperation tag operation body s

end Sys2Proof.Machine
end

