-- ==== Sys2Proof/Machine/Receive.lean ====
section
/-! DEFINITION. The command that the bytes between two delimiters of the trunk amount to (R180, R181, 11.3). -/

namespace Sys2Proof.Machine

/-- The command of a TABLE-WRITE body by its table id (R185). -/
def tableWriteCommand (tag : Byte) (body : List Byte) : Instr :=
  match body with
  | id :: r1 :: r0 :: c =>
    let row := wordOf r1 r0
    match id.toNat with
    | 1 => .stationRowWrite tag row c
    | 2 => .sweepScheduleWrite tag row c
    | 3 => .inputMapWrite tag row c
    | 4 => .triggerRowWrite tag row c
    | 6 => .actionEntryWrite tag row c
    | 7 => .exhibitConfigWrite tag row c
    | 8 => .axisParameterWrite tag row c
    | 9 => .programWrite tag row c
    | 10 => .segmentWrite tag row c
    | 11 => .alertClassWrite tag row c
    | 12 => .zoneNeighbourWrite tag row c
    | 15 => .settingsWrite tag row c
    | _ => .tableWrite tag body
  | _ => .tableWrite tag body

/-- The command of an AXIS-ENABLE body by its flag (R107, R108). -/
def axisCommand (tag : Byte) (body : List Byte) : Instr :=
  match body with
  | [_, flag] => if flagOf flag then .axisEnable tag body else .axisDisable tag body
  | _ => .axisEnable tag body

/-- The command of a MGMT payload (10.5, 11.3). -/
def managementCommand (tag op : Byte) (body : List Byte) : Instr :=
  match op.toNat with
  | 1 => .tableRead tag body
  | 2 => tableWriteCommand tag body
  | 3 => .exhibitMode tag body
  | 4 => axisCommand tag body
  | 5 => .snapshot tag body
  | 6 => .resetWarm tag body
  | 7 => .clearCold tag body
  | _ => .mgmtUnknownOperation tag op body

/-- The command of an OUTPUT payload by its selector; a frame with another selector is that of a lamp write, which its
owner discards (R13, 11.3). -/
def outputCommand (station selector lamp value : Byte) : Instr :=
  if selector = 1#8 then .outputCue station selector lamp value else .outputLamp station selector lamp value

/-- The command of a taken frame's type and payload; none where the length disagrees (11.3). -/
def commandOf (type : Byte) (payload : List Byte) : Option Instr :=
  match type.toNat, payload with
  | 1, [t1, t0, c] => some (.tick (wordOf t1 t0) c)
  | 2, [d1, d0, e, a1, a0, tag] => some (.cueFrame (wordOf d1 d0) e (wordOf a1 a0) tag)
  | 3, [e, d1, d0] => some (.cueCancel e (wordOf d1 d0))
  | 4, [a, p, m] => some (.moveFrame a p m)
  | 5, [a, m] => some (.halt a m)
  | 6, [a, t1, t0, c1, c0] => some (.jog a (wordOf t1 t0) (wordOf c1 c0))
  | 7, [i, g] => some (.ackAlert i g)
  | 8, [e, n, v] => some (.verdict e n v)
  | 9, [st, p1, p0] => some (.query st (wordOf p1 p0))
  | 10, [st, sel, out, v] => some (outputCommand st sel out v)
  | 11, tag :: op :: body => some (managementCommand tag op body)
  | _, _ => none

/-- The command of the bytes between two delimiters at a node: the frame's own when it passes the four checks, else a
discarded frame (R180, R181). -/
def receive (node : Serial) (line : List Byte) : Instr :=
  match discardedBy node line, checkedFrame 3 (unescape line) with
  | none, some (_ :: type :: _ :: payload) => (commandOf type payload).getD (.downFrameDiscarded line)
  | _, _ => .downFrameDiscarded line

end Sys2Proof.Machine
end

