-- ==== Sys2Proof/Safety.lean ====
section
/-! DEFINITION. What counts as a safe part, in the terms the statements use: the laws every state keeps, and the plain
conditions under which a command's effect stands alone. -/

namespace Sys2Proof.Machine

/-! ### The laws -/

/-- No more than 64 up frames wait (R182). -/
def UpQueueBounded (s : Gx24) : Prop := s.tp.upQueue.length ≤ upQueueDepth

/-- MOTION_PWR is asserted exactly when ESTOP_N and RESET_N are released and no ESTOP-class record exists (R126, R187). -/
def MotionPowerLaw (s : Gx24) : Prop := s.motionPower = powerOn s

/-- No setpoint is stored, or the stored one has drive-enable off (R103). -/
def driveIsOff (p : Option Setpoint) : Bool :=
  match p with
  | some p => !p.enable
  | none => true

/-- The axis is OFF or in FAULT, and the setpoint it sends has drive-enable off (R103, R123, R125). -/
def Axis.still (x : Axis) : Bool := (decide (x.state = .off) || decide (x.state = .fault)) && driveIsOff x.setpoint

/-- While ESTOP_N is asserted every axis is still (R103, R107, R125). -/
def EstopLaw (s : Gx24) : Prop := s.estop = true → ∀ a, (axisOf a s).still = true

/-- The output image of every BEACON station holds the pattern last computed for its zone (R13, R141). -/
def Gx24.BeaconsShow (s : Gx24) : Prop :=
  ∀ st, (rowOf st s).kind = .beacon → (stationOf st s).beacon = tget s.au.patterns (rowOf st s).zone

/-- SUPERVISOR and the zone patterns are those of the records and modes as they stand, and the BEACON stations' images
show them (R141, R142). -/
def RenderLaw (s : Gx24) : Prop :=
  s.supervisor = supervisorCall s ∧ (∀ z, tget s.au.patterns z = zonePattern z s) ∧ s.BeaconsShow

/-- The cue schedule has at most 32 entries, no two of the same exhibit and due tick (R172, R173). -/
def ScheduleLaw (s : Gx24) : Prop :=
  s.gc.schedule.length ≤ scheduleDepth ∧ (s.gc.schedule.map (fun c => (c.exhibit, c.due))).Nodup

/-- A continuation entry is EMPTY unless its row is STEPPED and the row's exhibit is PUBLIC (R35). -/
def StoryLaw (s : Gx24) : Prop :=
  ∀ r, tget s.pd.continuation r ≠ none →
    (triggerOf r s).style = .stepped ∧ ∃ e, (triggerOf r s).exhibit = some e ∧ (exhibitOf e s).mode = .pub

/-- A press queue holds no more entries than the exhibit's depth and no two of one trigger row (R51), and none unless the
exhibit is PUBLIC (R31, R45, R47). -/
def QueueLaw (s : Gx24) : Prop :=
  ∀ e, (exhibitOf e s).queue.length ≤ (exhibitOf e s).record.depth ∧ ((exhibitOf e s).queue.map (·.row)).Nodup ∧
    ((exhibitOf e s).mode ≠ .pub → (exhibitOf e s).queue = [])

/-- The held set last given is the one that stands (R143), and an exhibit that is neither DARK nor SERVICE is HELD exactly
when it is named by it (R47), as soon as no held set is on its way to the Exhibit Controller. The held sets on their way stand
before the other notices, and the last of them is the one last given (assumption 2). -/
def HeldLaw (s : Gx24) : Prop :=
  currentHeld s = s.au.heldGiven ∧ (∀ w ∈ s.work.dropWhile Work.isHeld, w.isHeld = false) ∧
  match (s.work.takeWhile Work.isHeld).getLast? with
  | some w => w = .held s.au.heldGiven
  | none => ∀ e, (exhibitOf e s).mode = .pub ∨ (exhibitOf e s).mode = .held →
      ((exhibitOf e s).mode = .held ↔ tget s.au.heldGiven e = true)

/-- The axis has a program in progress by its state. -/
def Axis.moves (x : Axis) : Bool :=
  decide (x.state = .running) || decide (x.state = .dwell) || decide (x.state = .halting) || decide (x.state = .guardStop)

/-- The target of every axis with a program in progress lies within the axis's soft limits, and the soft limits are in order
(R88, R93, R95). -/
def TargetLaw (s : Gx24) : Prop :=
  ∀ a, let x := axisOf a s
    x.params.softMin ≤ x.params.softMax ∧
    (x.moves = true → x.params.softMin * 16 ≤ x.target ∧ x.target ≤ x.params.softMax * 16)

/-! ### When a command's effect stands alone -/

/-- RESET_N is released and no notice is in flight: every command starts so but during a reset (R187), unless one before it
left notices behind (assumption 13). -/
abbrev Gx24.Quiet (s : Gx24) : Prop := s.resetLow = false ∧ s.work = []

/-- The part has a node number of its own, so frames addressed to it are its own (R179). -/
abbrev Gx24.Addressed (s : Gx24) : Prop := s.tp.node ≠ broadcast

/-- The held set last given is the one that stands (R143). -/
abbrev Gx24.HoldsGiven (s : Gx24) : Prop := currentHeld s = s.au.heldGiven

/-- Nothing hangs on the station: no axis drives or guards by it, no chain waits for a cue on it, no query is pending to
it (R6). -/
def Gx24.Unattached (st : Fin 24) (s : Gx24) : Prop :=
  (∀ a, (axisOf a s).params.drive ≠ some st ∧ ∀ g, (axisOf a s).params.guard = some g → g.station ≠ st) ∧
  (∀ e serial, (runnerOf e s).awaitedCue ≠ some (st, serial)) ∧
  ∀ c, s.bs.query = some c → c.station ≠ st

/-- No exhibit stands at the end of a wait or a count that the next tick event would finish, and nothing counts at all:
no press waits, no exhibit cools down, no runner waits for ticks or a verdict, no claim waits, no guard is open, no quiet
or idle timer and no escalation runs (R167). -/
def Gx24.NothingCounts (s : Gx24) : Prop :=
  (∀ e, (exhibitOf e s).queue = [] ∧ (exhibitOf e s).activity ≠ .cooldown ∧ idleCounts e s = false ∧
    (runnerOf e s).state ≠ .waitTicks ∧ (runnerOf e s).state ≠ .waitVerdict) ∧
  (∀ a, (axisOf a s).claims = [] ∧ (axisOf a s).guardOpen = false) ∧
  ¬(s.ac.gallery = .opened ∧ 0 < s.tp.quietReload ∧ 0 < s.ac.quiet) ∧
  ∀ i r, recordAt i s = some r → escalates r s = false

/-! ### Rows that the head-end can load (11.4) -/

/-- The number is in the range. -/
def within (lo hi n : Nat) : Bool := decide (lo ≤ n) && decide (n ≤ hi)

/-- The entry's fields are those a write can leave (R64). -/
def Action.loadable : Action → Bool
  | .wait n _ => within 1 255 n
  | .alert c _ => decide (8 ≤ c.val)
  | .refer _ n _ _ _ => within 1 50 n
  | .count _ n _ => within 1 15 n
  | .free => true
  | .lamp _ _ _ _ => true
  | .cue _ _ _ _ => true
  | .move _ _ _ _ _ => true
  | .haltAxis _ _ _ => true
  | .pause _ => true

/-- The record's fields are those a write can leave (R40). -/
def ExhibitRecord.loadable (r : ExhibitRecord) : Bool :=
  decide (r.axes.length ≤ 2) && within 0 9999 r.idleReload && within 0 4 r.depth && within 0 255 r.patience
    && within 0 255 r.cooldown && within 0 255 r.flood

/-- A signed 16-bit number. -/
def isInt16 (n : Int) : Bool := decide (-32768 ≤ n) && decide (n ≤ 32767)

/-- The parameters are those a write can leave, the order of the soft limits aside (R88). -/
def AxisParams.loadable (p : AxisParams) : Bool :=
  within 1 1023 p.accel && isInt16 p.softMin && isInt16 p.softMax && within 1 4095 p.followLimit
    && within 1 255 p.guardSettle && within 0 255 p.guardTimeout && within 1 255 p.claimTimeout

/-- The segment's fields are those a write can leave (R90). -/
def Segment.loadable (g : Segment) : Bool := isInt16 g.target && within 1 511 g.cruise && within 0 255 g.dwell

/-- The class row's fields are those a write to this class can leave (R130). -/
def AlertClass.loadable (cls : Fin 16) (c : AlertClass) : Bool :=
  within 1 3 c.severity && within 0 9999 c.interval && within 1 3 c.maxTier
    && (c.hold || !forcedClass cls) && (c.ackRequired || !(momentary cls || forcedClass cls))

/-! ### What the branch does, in words of the statements -/

/-- The part with a station's runtime state replaced by `f` of it. -/
abbrev Gx24.withStation (s : Gx24) (st : Fin 24) (f : Station → Station) : Gx24 :=
  { s with bs := { s.bs with stations := tmod s.bs.stations st f } }

/-- A sweep has started: the stored period code is read and every stepped mark cleared (R8, R9). -/
def Gx24.sweepStarted (s : Gx24) : Gx24 :=
  { s with bs := { s.bs with
      sweepCode := s.tp.period, nextSlot := 0
      stations := tmake fun st => { stationOf st s with stepped := false } } }

/-- The query parameter a poll of the station carries: that of a query pending to it with polls left (R17). -/
def Gx24.queryFor (st : Fin 24) (s : Gx24) : Option Word :=
  match s.bs.query with
  | some c => if c.station = st ∧ 0 < c.polls then some c.parameter else none
  | none => none

/-- The pending query after a poll that carried it: one poll fewer is left (R17). -/
def Gx24.queryAsked (st : Fin 24) (s : Gx24) : Option PendingQuery :=
  match s.bs.query with
  | some c => if c.station = st ∧ 0 < c.polls then some { c with polls := c.polls - 1 } else some c
  | none => none

/-- The line bytes that follow the delimiter of a reply of this station with this payload (11.5). -/
def replyLine (st : Fin 24) (payload : List Byte) : List Byte :=
  (lineBytes ([byteOf st.val, byteOf payload.length] ++ payload)).drop 1

/-- A miss of the station: counted, and one more in a row up to 3; a reply that came but was bad adds to the CRC errors
(R3). -/
def Gx24.missedBy (st : Fin 24) (bad : Bool) (s : Gx24) : Gx24 :=
  let counted := if bad then growStation st .crcErrors 1 (growStation st .missed 1 s) else growStation st .missed 1 s
  counted.withStation st (fun x => { x with missCount := if x.missCount = 3 then 3 else x.missCount + 1 })

/-- What a good reply leaves in a station's state beside serials: no misses, the levels, the cue report with a pending cue
of the serial reported delivered, and drive data where the reply has them (R3, R11, R15). -/
def Station.heard (x : Station) (r : Reply) : Station :=
  { x with
    missCount := 0, levels := r.levels, lastStarted := r.lastStarted, cuePlaying := r.playing
    cue := if x.cue.map (·.serial) = some r.lastStarted then none else x.cue
    drive := r.drive.getD x.drive }

/-! ### What the alerts leave alone -/

/-- Nothing but the Alert Unit, the outputs it drives, the up queue and the notices in flight differs: axes, chains,
exhibits, clock, dispatcher, activity, tables and settings are as they were. -/
def Gx24.OnlyAlertsMoved (s t : Gx24) : Prop :=
  t.estop = s.estop ∧ t.resetLow = s.resetLow ∧ t.gc = s.gc ∧ t.pd = s.pd ∧ t.exhibits = s.exhibits ∧ t.cr = s.cr ∧ t.mu = s.mu ∧ t.ac = s.ac ∧
  t.bs = { s.bs with stations := t.bs.stations } ∧
  (∀ st, stationOf st t = { stationOf st s with beacon := (stationOf st t).beacon }) ∧
  t.tp = { s.tp with upQueue := t.tp.upQueue }

/-- The outputs follow the records: MOTION_PWR, SUPERVISOR, the zone patterns, and the held set last given (R126, R141 to
R143). -/
def Gx24.OutputsFollow (t : Gx24) : Prop :=
  t.motionPower = powerOn t ∧ t.supervisor = supervisorCall t ∧ (∀ z, tget t.au.patterns z = zonePattern z t) ∧
  t.au.heldGiven = currentHeld t

/-! ### What chains and exhibits do -/

/-- The exhibit owns no axis and has no claim pending: an abort of its chain touches no axis (R84). -/
def Gx24.MovesNothing (e : Fin 16) (s : Gx24) : Prop :=
  ∀ a, ownsAxis e a s = false ∧ ∀ c ∈ (axisOf a s).claims, c.claimant ≠ .exhibit e

/-- The start index of a row: the stored continuation of a STEPPED row, else its start action (R36). -/
def startsAt (r : Fin 128) (s : Gx24) : Fin 1023 :=
  match (triggerOf r s).style, tget s.pd.continuation r with
  | .stepped, some i => i
  | _, _ => match (triggerOf r s).start with | some a => entryIndex a | none => noStart

/-- A chain of this origin starts on a free runner: the exhibit is ENGAGED with the grant, COOLDOWN over, the runner STEPPING
at the start index, nothing of an earlier chain in flight, and above ATTRACT the idle timer reloaded (R49, R65, R159). -/
def Gx24.chainStarted (e : Fin 16) (c : ChainStart) (s : Gx24) : Gx24 :=
  { s with
    exhibits := tmod s.exhibits e (fun x => { x with
      grant := some ⟨c.origin, c.row⟩, activity := .engaged, cooldown := 0 })
    cr := { s.cr with runners := tmod s.cr.runners e (fun r => { r with
      state := .stepping, origin := c.origin, row := c.row, input := c.input, requestTick := c.tick
      index := c.index, steps := 0, awaitedCue := none, awaitedAxis := none }) }
    ac := if c.origin = .attract then s.ac
      else { s.ac with idle := tput s.ac.idle e (exhibitOf e s).record.idleReload }
    work := s.work.filter (fun w => !w.isRunnerOf e) ++ [.run e] }

/-- A VISITOR chain of a row starts: accepted is counted, the flood count is 0, and a STEPPED row's continuation is used
up (R36, R51, R57). -/
def Gx24.visitorStarted (e : Fin 16) (row : Fin 128) (input : Fin 24 × Fin 8) (arrival : Word) (s : Gx24) : Gx24 :=
  Gx24.chainStarted e ⟨.visitor, some row, some input, startsAt row s, arrival⟩
    { growExhibit e .accepted 1 s with
      exhibits := tmod s.exhibits e (fun x => { x with flood := 0 })
      pd := if (triggerOf row s).style = .stepped then
        { s.pd with continuation := tput s.pd.continuation row none } else s.pd }

/-- The part with an exhibit replaced by `f` of it. -/
abbrev Gx24.withExhibit (s : Gx24) (e : Fin 16) (f : Exhibit → Exhibit) : Gx24 :=
  { s with exhibits := tmod s.exhibits e f }

/-- The part with an exhibit's runner replaced by `f` of it. -/
abbrev Gx24.withRunner (s : Gx24) (e : Fin 16) (f : Runner → Runner) : Gx24 :=
  { s with cr := { s.cr with runners := tmod s.cr.runners e f } }

/-- The part with an axis replaced by `f` of it. -/
abbrev Gx24.withAxis (s : Gx24) (a : Fin 8) (f : Axis → Axis) : Gx24 :=
  { s with mu := { s.mu with axes := tmod s.mu.axes a f } }

/-- The runner goes on at entry `i`, with nothing awaited (R66). -/
def Runner.goesOn (r : Runner) (i : Fin 1023) : Runner :=
  { r with state := .stepping, index := i, awaitedCue := none, awaitedAxis := none }

/-- The runner is free: no row, input or awaited field; its last referral serial stays (R83). -/
def Runner.emptied (r : Runner) : Runner :=
  { r with state := .free, row := none, input := none, awaitedCue := none, awaitedAxis := none }

/-- The chain of an exhibit that moves nothing is aborted: aborted counted, the runner free, the end in flight to the Exhibit
Controller (R84). -/
def Gx24.chainAborted (e : Fin 16) (s : Gx24) : Gx24 :=
  { (growExhibit e .aborted 1 s).withRunner e Runner.emptied with work := s.work ++ [.ended e (runnerOf e s).origin] }

/-- The chain of an exhibit that moves nothing ends normally: completed counted, the runner free, the CHAIN-END mask event,
the end in flight to the Exhibit Controller (R83). -/
def Gx24.chainCompleted (e : Fin 16) (s : Gx24) : Gx24 :=
  { (growExhibit e .completed 1 s).withRunner e Runner.emptied with
    ac := if (exhibitOf e s).record.mask.chainEnd then
      { s.ac with idle := tput s.ac.idle e (exhibitOf e s).record.idleReload } else s.ac
    work := s.work ++ [.ended e (runnerOf e s).origin] }

/-- The runner of an exhibit that moves nothing leaves its entry by a link: on at the entry named, or the chain's end (R66,
R83). -/
def Gx24.linkTaken (e : Fin 16) (l : Link) (s : Gx24) : Gx24 :=
  match l with
  | .to i => { s.withRunner e (·.goesOn i) with work := s.work ++ [.run e] }
  | .endOfChain => s.chainCompleted e

/-- A visitor's press notice for a PUBLIC or HELD exhibit: ANY-PRESS, the quiet timer reloaded, a QUIET gallery OPEN again
(R27, R156). -/
def Gx24.visitorNoticed (e : Fin 16) (s : Gx24) : Gx24 :=
  { s with ac := { s.ac with
      gallery := if s.ac.gallery = .quiet then .opened else s.ac.gallery
      quiet := s.tp.quietReload
      idle := if (exhibitOf e s).record.mask.anyPress then tput s.ac.idle e (exhibitOf e s).record.idleReload
        else s.ac.idle } }

/-! ### What axes do -/

/-- The speed of a running step as the table of R94 gives it: acceleration `A`, cruise `C`, speed `v`, distance `d`; never
more than the distance (R94 steps 1 to 3). -/
def stepSpeed (A C v d : Nat) : Nat :=
  min d (if d ≤ v * v / (2 * A) then max (v - A) A
    else if v < C then min (v + A) C
    else if C < v then max (v - A) C
    else C)

/-- The axis moved by `n` sixteenths toward its target (R94 step 4, R99, R100). -/
def Axis.advanced (x : Axis) (n : Nat) : Axis :=
  { x with velocity := (x.target - x.position).sign * n, position := x.position + (x.target - x.position).sign * n }

/-- Before a step the following-error reference is the position of the stored setpoint (R122). -/
def referenceBefore (x : Axis) : Int :=
  match x.setpoint with
  | some p => p.position
  | none => x.reference

/-- A program or jog has begun on the axis with this first segment (R92, R93). -/
def Axis.begun (x : Axis) (j : Job) (m : RunMode) (g : Segment) : Axis :=
  { x with
    job := some j, mode := m, segIndex := 0, stopAtLoopEnd := false, resume := .running, velocity := 0
    state := if x.guardOpen then .guardStop else .running
    cruise := g.cruise * 16, target := softClamp x.params g.target * 16
    clamped := decide (softClamp x.params g.target ≠ g.target) }

/-- The only claim of an axis is granted: the counters, the owner and last owner, and the program begun (R92, R93, R104,
R111, R127). -/
def Gx24.claimGranted (a : Fin 8) (c : Claimant) (o : Origin) (j : Job) (m : RunMode) (g : Segment) (s : Gx24) : Gx24 :=
  let t := growAxis a .programsStarted (growAxis a .grants s)
  let t := if softClamp (axisOf a s).params g.target ≠ g.target then growAxis a .clamps t else t
  t.withAxis a (fun x => { x.begun j m g with claims := [], owner := some ⟨c, o⟩, lastOwner := some c })

/-- The axis has ended its program and is at rest without owner (R102). -/
def Axis.released (x : Axis) : Axis :=
  { x with state := .idle, velocity := 0, job := none, stopAtLoopEnd := false, resume := .running, owner := none }

/-- The axis in FAULT: P held, V 0, drive-enable off, no program, owner or claims, the cause recorded, the key of the raise kept
(R102, R103, R123, R134). -/
def Axis.faulted (x : Axis) (c : FaultCause) (key : AlertKey) : Axis :=
  { x with
    state := .fault, velocity := 0, job := none, stopAtLoopEnd := false, resume := .running
    setpoint := x.setpoint.map (fun s => { s with enable := false })
    owner := none, claims := [], cause := some c, acked := false, strikes := 0, faultKey := some key }

/-- The axis out of FAULT, IDLE at the position its drive reports, `n` in sixteenths (R124). -/
def Axis.recovered (x : Axis) (n : Int) : Axis :=
  { x with
    state := .idle, position := n, velocity := 0, reference := n, stepGood := true, strikes := 0, settleCount := 0
    setpoint := some ⟨n, false⟩, cause := none, faultKey := none }

/-- The reply of a MOVE or JOG: who claimed, what ran, the result and its reason (R114). -/
def moveReplyOf (a : Fin 8) (c : Claimant) (j : Job) (r : MoveResult) (why : RefuseReason) : UpFrame :=
  .moveReply a (decide (c = .maintenance)) (match j with | .program p => some p | .jog _ => none) r why

/-! ### What modes and timers do -/

/-- The queue entries that are too old for the patience after the tick event that ends a cooldown (R56, R57). -/
def tooOld (patience : Nat) (c : QueueEntry) : Bool := decide (0 < patience) && decide (patience < min (c.waited + 1) 255)

/-- Every continuation entry of the exhibit's rows is EMPTY (R38). -/
def Gx24.storiesCleared (e : Fin 16) (s : Gx24) : Gx24 :=
  { s with pd := { s.pd with continuation := tmake fun r =>
      if (triggerOf r s).exhibit = some e then none else tget s.pd.continuation r } }

/-- The exhibit's idle timer is reloaded (R159). -/
def Gx24.idleReloaded (e : Fin 16) (s : Gx24) : Gx24 :=
  { s with ac := { s.ac with idle := tput s.ac.idle e (exhibitOf e s).record.idleReload } }

/-- The exhibit is in mode `m`, with what every change of mode does: its stories are emptied, and its status lamp, when one
is configured, shows the mode: ON for PUBLIC, SLOW for HELD, OFF for SERVICE and DARK (R38, R48). -/
def Gx24.modeShown (e : Fin 16) (m : Mode) (s : Gx24) : Gx24 :=
  let t := Gx24.storiesCleared e (s.withExhibit e (fun x => { x with mode := m }))
  let pattern : LampPattern := match m with | .pub => .on | .held => .slow | .service => .off | .dark => .off
  match (exhibitOf e s).record.lamp with
  | some (st, out) => t.withStation st (fun x => { x with lamps := tput x.lamps out pattern })
  | none => t

/-- The loaded tables, the settings and the straps are the same in both parts. -/
def Gx24.SameTables (s t : Gx24) : Prop :=
  t.bs.rows = s.bs.rows ∧ t.bs.schedule = s.bs.schedule ∧ t.pd.inputMap = s.pd.inputMap ∧ t.pd.rows = s.pd.rows ∧
  t.cr.actions = s.cr.actions ∧ (∀ e, (exhibitOf e t).record = (exhibitOf e s).record) ∧
  (∀ a, (axisOf a t).params = (axisOf a s).params) ∧ t.mu.programs = s.mu.programs ∧ t.mu.segments = s.mu.segments ∧
  t.au.classes = s.au.classes ∧ t.au.neighbours = s.au.neighbours ∧
  t.tp.node = s.tp.node ∧ t.tp.coldFlag = s.tp.coldFlag ∧ t.tp.period = s.tp.period ∧ t.tp.quietReload = s.tp.quietReload

end Sys2Proof.Machine
end

