-- ==== Sys2Proof/Certificates/Slice0/Obligations.lean ====
section
/-! DEFINITION. The statements for the provers. A statement over every part `p` and queue `q` says what the command makes of
the machine `⟨p, q⟩`: the whole next state, so that what is not named is unchanged. -/

open Sys2Proof Sys2Proof.Machine

/-! ### The machine -/

/-- A step runs the command at the front of the queue on the part with the queue's rest. With no command waiting and nothing
in flight the part idles: nothing changes (assumption 4). -/
def Obligations.StepRunsTheFrontCommand : Prop :=
  (∀ (c : Instr) (p : Gx24) (q : List Instr), step ⟨p, c :: q⟩ = exec c ⟨p, q⟩) ∧
  (∀ p : Gx24, p.Quiet → step ⟨p, []⟩ = .next ⟨p, []⟩)

/-- Every command answers a next state, in every state, and leaves the commands behind it waiting: the manual gives every
row of the opcode table an effect (chapter 95), and none stops the part. -/
def Obligations.NoCommandStopsThePart : Prop :=
  ∀ (c : Instr) (p : Gx24) (q : List Instr), ∃ t, exec c ⟨p, q⟩ = .next ⟨t, q⟩

/-- What a cold reset leaves in each kind of state, read at State.reset, and that the nine laws hold there (R21, R39, R61, R87,
R105, R128, R151, R164, R177, R187). That the straps read 0 and RESET_N and ESTOP_N are released is the model's choice
(assumption 3). -/
def Obligations.ResetHoldsTheColdValues : Prop :=
  (let p := State.reset.part
   State.reset.pending = [] ∧ p.estop = false ∧ p.resetLow = false ∧ p.motionPower = true ∧ p.supervisor = false ∧
   (∀ st, (rowOf st p).enabled = false ∧ (stationOf st p).state = .absent ∧ (stationOf st p).levels = 0#8) ∧
   (∀ i, tget p.bs.schedule i = none) ∧ p.bs.query = none ∧
   (∀ i, tget p.pd.inputMap i = none) ∧ (∀ r, tget p.pd.continuation r = none) ∧
   (∀ e, (exhibitOf e p).mode = .dark ∧ (exhibitOf e p).queue = [] ∧ (runnerOf e p).state = .free ∧
     (runnerOf e p).lastReferral = none) ∧
   (∀ i, tget p.cr.actions i = .free) ∧
   (∀ a, (axisOf a p).state = .off ∧ (axisOf a p).position = 0 ∧ (axisOf a p).claims = [] ∧
     (axisOf a p).params.drive = none) ∧
   (∀ i, tget p.au.slots i = ⟨0#4, none⟩) ∧ (∀ z, tget p.au.patterns z = .dark) ∧
   p.gc.state = .unsynced ∧ p.gc.tick = 0#16 ∧ p.gc.schedule = [] ∧
   p.ac.gallery = .closed ∧ p.ac.bank.taken = false ∧ p.counters = .zero ∧
   p.tp.coldFlag = true ∧ p.tp.upQueue = [] ∧ p.tp.period = 3) ∧
  (let p := State.reset.part
   UpQueueBounded p ∧ MotionPowerLaw p ∧ EstopLaw p ∧ RenderLaw p ∧ ScheduleLaw p ∧ StoryLaw p ∧ QueueLaw p ∧ HeldLaw p ∧
   TargetLaw p)

/-! ### What every step keeps -/

/-- The up queue never holds more than 64 frames (R182). -/
def Obligations.UpQueueStaysBounded : Prop :=
  ∀ s t : State, UpQueueBounded s.part → step s = .next t → UpQueueBounded t.part

/-- MOTION_PWR is asserted if and only if ESTOP_N is released and no ESTOP-class record exists, and RESET_N is not asserted (R126,
R187). -/
def Obligations.MotionPowerFollowsEstop : Prop :=
  ∀ s t : State, MotionPowerLaw s.part → step s = .next t → MotionPowerLaw t.part

/-- While ESTOP_N is asserted no axis is in any state but OFF and FAULT, and none sends drive-enable (R103, R107, R125). -/
def Obligations.EstopKeepsEveryAxisStill : Prop :=
  ∀ s t : State, EstopLaw s.part → step s = .next t → EstopLaw t.part

/-- SUPERVISOR and the zone patterns stay those of the records and the exhibits' modes, and every BEACON station's image shows
its zone's pattern (R13, R141, R142, R145). -/
def Obligations.BeaconsAndSupervisorStayRendered : Prop :=
  ∀ s t : State, RenderLaw s.part → step s = .next t → RenderLaw t.part

/-- The cue schedule never holds more than 32 entries, nor two of one exhibit and due tick (R172, R173). -/
def Obligations.ScheduleStaysUniqueAndBounded : Prop :=
  ∀ s t : State, ScheduleLaw s.part → step s = .next t → ScheduleLaw t.part

/-- A continuation entry is EMPTY unless its trigger row is STEPPED and that row's exhibit is PUBLIC (R35). -/
def Obligations.StoriesStayOfPublicSteppedRows : Prop :=
  ∀ s t : State, StoryLaw s.part → step s = .next t → StoryLaw t.part

/-- An exhibit's press queue never holds more entries than its depth, nor two for one trigger row, nor any unless the exhibit
is PUBLIC (R45, R47, R51). -/
def Obligations.PressQueuesStayWithinTheirDepth : Prop :=
  ∀ s t : State, QueueLaw s.part → step s = .next t → QueueLaw t.part

/-- An exhibit that is neither DARK nor SERVICE is HELD if and only if the held set names it (R47, R143). While a new held set is
on its way to the Exhibit Controller the last one on its way is the one that stands, which is the model's notice of it
(assumption 2). -/
def Obligations.HeldExhibitsAreTheNamedOnes : Prop :=
  ∀ s t : State, HeldLaw s.part → step s = .next t → HeldLaw t.part

/-- Every target an axis pursues lies within that axis's soft limits (R88, R93, R95). -/
def Obligations.TargetsStayWithinTheSoftLimits : Prop :=
  ∀ s t : State, TargetLaw s.part → step s = .next t → TargetLaw t.part

/-! ### Bytes (chapter 11) -/

/-- Escaped bytes hold no delimiter and read back as they were, and a frame sent to a node whole, in the layout of 11.3, reaches
that node as the command its type and payload spell, at every payload that spells one (R180, R181, R190). That an OUTPUT frame of
another selector spells OUTPUT_LAMP, and an AXIS-ENABLE body of another length AXIS_ENABLE, is the model's choice
(assumption 28). -/
def Obligations.FramesReachTheirCommand : Prop :=
  (∀ bytes : List Byte, 0x7E#8 ∉ bytes.flatMap escapeByte ∧ unescape (bytes.flatMap escapeByte) = bytes) ∧
  (∀ (node : Serial) (type : Byte) (payload : List Byte) (c : Instr),
    node ≠ broadcast → payload.length ≤ 250 → commandOf type payload = some c →
    receive node ((lineBytes ([byteOf node.toNat, type, byteOf payload.length] ++ payload)).drop 1) = c ∧
    (type = 1#8 → receive node ((lineBytes ([byteOf broadcast.toNat, type, byteOf payload.length] ++ payload)).drop 1) = c))

/-- A row written with the bytes that a loaded row reads as is that row again, in every table the head-end loads (11.4,
R191). -/
def Obligations.LoadedRowsReadBack : Prop :=
  (∀ r : StationRow, stationRowOf r.bytes = some r) ∧
  (∀ x : Option (Fin 24), optIndexOf 24 (optByte (x.map (·.val))) = some x) ∧
  (∀ x : Option (Fin 128), optIndexOf 128 (optByte (x.map (·.val))) = some x) ∧
  (∀ r : TriggerRow, triggerRowOf r.bytes = some r) ∧
  (∀ a : Action, a.loadable → actionContentsOf a.bytes = some (.entry a)) ∧
  (∀ r : ExhibitRecord, r.loadable → exhibitRecordOf r.bytes = some r) ∧
  (∀ p : AxisParams, p.loadable → axisRowOf p.bytes = some p) ∧
  (∀ x : Axis, x.params.loadable → axisRowOf x.bytes = some x.params) ∧
  (∀ p : Program, within 1 16 p.count → programOf p.bytes = some p) ∧
  (∀ g : Segment, g.loadable → segmentOf g.bytes = some g) ∧
  (∀ (cls : Fin 16) (c : AlertClass), c.loadable cls → alertClassOf cls c.bytes = some c) ∧
  (∀ z : ZoneSet, bitTable 4 (byteOf (bitsOf z)).toNat = z) ∧
  (∀ s : Gx24, s.tp.quietReload ≤ 65535 → settingsOf (settingsBytes s) = some (s.tp.period, s.tp.quietReload))

/-! ### The branch (chapter 1) -/

/-- A sweep that starts where the last one ended reads the stored period code and clears every stepped mark, nothing else. A slot
that names no station, or an ABSENT one, sends no poll; a slot that names another sends that station's poll, with the query
parameter when one is pending, and awaits its reply. At the first slot of a DRIVE station in the sweep its axis takes its
step before the poll is built, and the reply awaited answers that step; without an axis the station is only marked stepped
(R7, R8, R9, R10, R17, R91). The model's choices: SWEEP_START at another slot changes nothing (assumption 5); SLOT_START after
slot 31 is slot 0 of a new sweep, and either command while a reply is awaited first ends the slot without one
(assumption 16). -/
def Obligations.SlotStartPollsTheStation : Prop :=
  (∀ (p : Gx24) (q : List Instr), p.Quiet → p.bs.awaiting = none →
    (p.bs.nextSlot = 0 ∨ p.bs.nextSlot = 32 → exec .sweepStart ⟨p, q⟩ = .next ⟨p.sweepStarted, q⟩) ∧
    (¬(p.bs.nextSlot = 0 ∨ p.bs.nextSlot = 32) → exec .sweepStart ⟨p, q⟩ = .next ⟨p, q⟩)) ∧
  (∀ (p : Gx24) (q : List Instr), p.Quiet → p.bs.awaiting = none →
     (p.bs.nextSlot = 32 → exec .slotStart ⟨p, q⟩ = exec .slotStart ⟨p.sweepStarted, q⟩) ∧
     ∀ i : Fin 32, p.bs.nextSlot = i.castSucc →
       (tget p.bs.schedule i = none →
         exec .slotStart ⟨p, q⟩ = .next ⟨{ p with branchOut := [], bs := { p.bs with nextSlot := i.succ } }, q⟩) ∧
       ∀ st, tget p.bs.schedule i = some st →
         ((stationOf st p).state = .absent →
           exec .slotStart ⟨p, q⟩ = .next ⟨{ p with branchOut := [], bs := { p.bs with nextSlot := i.succ } }, q⟩) ∧
         (let polled : Gx24 := { p with
            branchOut := pollLine st
              (pollPayload (rowOf st p).kind (stationOf st p) (p.queryFor st) (pollSetpoint st p))
            bs := { p.bs with
              nextSlot := i.succ, query := p.queryAsked st
              awaiting := some ⟨st, none, (p.queryFor st).isSome, false⟩ } }
          ((stationOf st p).state ≠ .absent → (rowOf st p).kind ≠ .drive ∨ (stationOf st p).stepped = true →
            exec .slotStart ⟨p, q⟩ = .next ⟨polled, q⟩) ∧
          ((stationOf st p).state ≠ .absent → (rowOf st p).kind = .drive → (stationOf st p).stepped = false →
            axisOnDrive st p = none →
            exec .slotStart ⟨p, q⟩ = .next ⟨polled.withStation st (fun x => { x with stepped := true }), q⟩))) ∧
  (∀ (p : Gx24) (q : List Instr) (i : Fin 32) (st : Fin 24) (a : Fin 8),
     p.Quiet → p.bs.awaiting = none → p.bs.nextSlot = i.castSucc → tget p.bs.schedule i = some st →
     (stationOf st p).state ≠ .absent → (rowOf st p).kind = .drive → (stationOf st p).stepped = false →
     axisOnDrive st p = some a →
     let t := stepAxis a ({ p with branchOut := [], bs := { p.bs with
       nextSlot := i.succ, query := p.queryAsked st
       awaiting := some ⟨st, some a, (p.queryFor st).isSome, false⟩ } }.withStation st (fun x => { x with stepped := true }))
     exec .slotStart ⟨p, q⟩ = .next ⟨settle { t with
       branchOut := pollLine st
         (pollPayload (rowOf st t).kind (stationOf st p) (p.queryFor st) (pollSetpoint st t)) }, q⟩) ∧
  (∀ (p t : Gx24) (q : List Instr), exec (.slotEnd none) ⟨p, q⟩ = .next ⟨t, q⟩ → p.Quiet → t.Quiet →
     p.bs.awaiting.isSome →
     exec .slotStart ⟨p, q⟩ = exec .slotStart ⟨t, q⟩ ∧
     (p.bs.nextSlot = 0 ∨ p.bs.nextSlot = 32 → exec .sweepStart ⟨p, q⟩ = exec .sweepStart ⟨t, q⟩))

/-- A poll carries the whole image: the pattern of lamp n in bits 2n and 2n + 1, flags for a pending cue, a query and
drive-enable, the pending cue's number and serial, the expected event serial and the query parameter, then nothing for a
PANEL, the pattern for a BEACON, the position for a DRIVE (R10, 11.5). -/
def Obligations.PollCarriesTheWholeImage : Prop :=
  ∀ (kind : StationKind) (x : Station) (query : Option Word) (sp : Setpoint),
    ∃ (hi lo flags number serial : Byte) (rest : List Byte),
      pollPayload kind x query sp =
        [hi, lo, flags, number, serial, byteOf x.expected.toNat, (query.getD 0#16).extractLsb' 0 8] ++ rest ∧
      (∀ n : Fin 8, (wordOf hi lo).toNat / 4 ^ n.val % 4 = (tget x.lamps n).code.toNat) ∧
      flags.getLsbD 0 = x.cue.isSome ∧ flags.getLsbD 1 = query.isSome ∧
      flags.getLsbD 2 = (decide (kind = .drive) && sp.enable) ∧
      (∀ c, x.cue = some c → number = c.number ∧ serial = byteOf c.serial.toNat) ∧
      (x.cue = none → number = 0#8 ∧ serial = 0#8) ∧
      (kind = .panel → rest = []) ∧ (kind = .beacon → rest = [x.beacon.code]) ∧
      (kind = .drive → rest = longBytes sp.position)

/-- A slot whose poll brought nothing, or nothing good, is a miss: it is counted, one more in a row up to 3, a bad reply
also as a CRC error, and the axis stepped by that poll has missed its step reply. A reply to be discarded, and a slot with
no poll, change nothing. A miss of the poll that carried the query leaves it pending while polls remain, and after the fourth
ends it TIMEOUT. The third miss in a row makes a JOINING or PRESENT station LOST and raises STATION-LOST, naming the station and
its home exhibit; here nothing else hangs on the station (R2, R3, R5, R9, R17). That the command STATION_LOST is that miss is the
model's choice (assumption 5). -/
def Obligations.SlotEndCountsAMiss : Prop :=
  (∀ (p : Gx24) (q : List Instr), p.Quiet →
    (∀ reply, p.bs.awaiting = none → exec (.slotEnd reply) ⟨p, q⟩ = .next ⟨p, q⟩) ∧
    ∀ w, p.bs.awaiting = some w →
      (∀ reply, w.discard = true →
        exec (.slotEnd reply) ⟨p, q⟩ = .next ⟨{ p with bs := { p.bs with awaiting := none } }, q⟩) ∧
      (w.discard = false → w.query = false → w.stepAxis = none →
        (stationOf w.station p).missCount < 2 ∨ (stationOf w.station p).state = .lost →
        exec (.slotEnd none) ⟨p, q⟩ =
          .next ⟨Gx24.missedBy w.station false { p with bs := { p.bs with awaiting := none } }, q⟩ ∧
        ∀ line, goodReply w.station (rowOf w.station p).kind line = none →
          exec (.slotEnd (some line)) ⟨p, q⟩ =
            .next ⟨Gx24.missedBy w.station true { p with bs := { p.bs with awaiting := none } }, q⟩) ∧
      (∀ a, w.discard = false → w.query = false → w.stepAxis = some a →
        (stationOf w.station p).missCount < 2 ∨ (stationOf w.station p).state = .lost →
        exec (.slotEnd none) ⟨p, q⟩ = .next ⟨Gx24.missedBy w.station false
          (modAxis a (fun x => { x with stepGood := false }) { p with bs := { p.bs with awaiting := none } }), q⟩) ∧
      (∀ c, w.discard = false → w.query = true → w.stepAxis = none →
        (stationOf w.station p).missCount < 2 ∨ (stationOf w.station p).state = .lost → p.bs.query = some c →
        let m := Gx24.missedBy w.station false { p with bs := { p.bs with awaiting := none } }
        (0 < c.polls → exec (.slotEnd none) ⟨p, q⟩ = .next ⟨m, q⟩) ∧
        (c.polls = 0 → exec (.slotEnd none) ⟨p, q⟩ = .next ⟨sendUp
          (.queryReply (byteOf c.station.val) c.parameter .timeout none) { m with bs := { m.bs with query := none } }, q⟩))) ∧
  (∀ (p : Gx24) (q : List Instr) (w : Awaiting), p.Quiet → p.bs.awaiting = some w → w.discard = false →
    w.query = false → w.stepAxis = none → (stationOf w.station p).missCount = 2 →
    (stationOf w.station p).state = .joining ∨ (stationOf w.station p).state = .present → p.Unattached w.station →
    let key : AlertKey := ⟨clsStationLost, .none, (rowOf w.station p).home, some w.station, none⟩
    let lost := (Gx24.missedBy w.station false { p with bs := { p.bs with awaiting := none } }).withStation w.station
      (fun x => { x with state := .lost, lostKey := some key })
    exec (.slotEnd none) ⟨p, q⟩ = .next ⟨settle (raise key lost), q⟩ ∧
    exec (.stationLost w.station) ⟨p, q⟩ = .next ⟨settle (raise key lost), q⟩)

/-- A good reply of a PRESENT station is stored, and its events are taken one after another: an old serial is counted duplicate
and dropped, a new one counts the serials skipped as gaps, moves the expected serial and goes to the Press Dispatcher; an event on
an unmapped input is counted and, where the row says so, reported (R3, R11, R12, R15, R19, R23). R12 gives the order of the events;
that every notice an event gives is taken before the next event is read from the rules (DEDUCED, assumption 21). The station here
drives and guards no axis, and no chain awaits its cue. -/
def Obligations.GoodReplyIsStoredAndItsEventTaken : Prop :=
  (∀ (p : Gx24) (q : List Instr) (w : Awaiting) (payload : List Byte) (r : Reply),
    p.Quiet → p.bs.awaiting = some w → w.discard = false → w.query = false → (stationOf w.station p).state = .present →
    p.Unattached w.station → payload.length ≤ 255 → replyOf (rowOf w.station p).kind payload = some r →
    let st := w.station
    let s := { p with bs := { p.bs with awaiting := none } }.withStation st (·.heard r)
    let done := exec (.slotEnd (some (replyLine st payload))) ⟨p, q⟩
    done = .next ⟨settle (r.events.foldl (fun s ev => takeEvent st ev s) s), q⟩ ∧
    (r.events = [] → done = .next ⟨s, q⟩) ∧
    ∀ ev, r.events = [ev] →
      let d := (ev.serial - (stationOf st p).expected).toNat
      let taken := (growStation st .gap d s).withStation st (fun x => { x with expected := ev.serial + 1#4 })
      (8 ≤ d → done = .next ⟨growStation st .duplicate 1 s, q⟩) ∧
      (d < 8 → tget p.pd.inputMap (mapIndex st ev.input) = none →
        let counted := growStation st .unmapped 1 taken
        done = .next ⟨if (rowOf st p).forwardUnmapped then sendUp (.inputReport st ev.input ev.edge p.gc.tick) counted
          else counted, q⟩) ∧
      (d < 8 → ∀ row, tget p.pd.inputMap (mapIndex st ev.input) = some row →
        done = .next ⟨settle (settle (inputEvent st ev.input ev.edge taken)), q⟩)) ∧
  (∀ (s : Gx24) (st : Fin 24) (ev : ReplyEvent),
    let d := (ev.serial - (stationOf st s).expected).toNat
    (8 ≤ d → takeEvent st ev s = growStation st .duplicate 1 s) ∧
    (d < 8 → takeEvent st ev s = settle (inputEvent st ev.input ev.edge
      ((growStation st .gap d s).withStation st (fun x => { x with expected := ev.serial + 1#4 })))))

/-- The first good reply of a JOINING station joins it: its events are counted stale and dropped, the expected serial is
the reply's next serial, the running cue serial the one last started, a cue pending for it takes the serial after that and
is not taken for started, and the station is PRESENT (R4). -/
def Obligations.FirstGoodReplyJoinsTheStation : Prop :=
  ∀ (p : Gx24) (q : List Instr) (w : Awaiting) (payload : List Byte) (r : Reply),
    p.Quiet → p.bs.awaiting = some w → w.discard = false → w.query = false → (stationOf w.station p).state = .joining →
    (stationOf w.station p).lostKey = none → p.Unattached w.station → payload.length ≤ 255 →
    replyOf (rowOf w.station p).kind payload = some r →
    let st := w.station
    let s := growStation st .stale r.events.length { p with bs := { p.bs with awaiting := none } }
    exec (.slotEnd (some (replyLine st payload))) ⟨p, q⟩ = .next ⟨s.withStation st (fun x => { x with
      state := .present, missCount := 0, expected := r.nextSerial, levels := r.levels
      lastStarted := r.lastStarted, cuePlaying := r.playing, drive := r.drive.getD x.drive
      runningCue := if x.cue.isSome then r.lastStarted + 1#4 else r.lastStarted
      latestCue := if x.cue.isSome then r.lastStarted + 1#4 else x.latestCue
      cue := x.cue.map (fun c => { c with serial := r.lastStarted + 1#4 }) }), q⟩

/-- A QUERY is refused RANGE, BUSY or INVALID in that order and otherwise becomes the pending query with four polls to carry
it. QUERY_TIMEOUT ends a query whose polls are used up, or whose station is ABSENT or without a slot, TIMEOUT, and leaves one
with polls left, be its station LOST, pending; that it is given when no poll is left, and is without effect otherwise, is the
model's choice (assumption 5). A good reply with an answer ends a query pending to its station VALUE with the answer, and is
no answer to another; a good reply without one to a poll that carried the query leaves it pending while polls remain and else
ends it TIMEOUT (R11, R16, R17, R18). Nothing else hangs on the replying station here. -/
def Obligations.QueryIsTakenAnsweredOrTimedOut : Prop :=
  (∀ (p : Gx24) (q : List Instr) (station : Byte) (parameter : Word), p.Quiet → p.Addressed →
     let s := growTrunk .framesTaken p
     (24 ≤ station.toNat ∨ 255 < parameter.toNat →
       exec (.query station parameter) ⟨p, q⟩ = .next ⟨sendUp (.queryReply station parameter .range none) s, q⟩) ∧
     ∀ st : Fin 24, station = byteOf st.val → parameter.toNat ≤ 255 →
       (p.bs.query.isSome →
         exec (.query station parameter) ⟨p, q⟩ = .next ⟨sendUp (.queryReply station parameter .busy none) s, q⟩) ∧
       (p.bs.query = none → (stationOf st p).state = .absent ∨ hasSlot st p = false →
         exec (.query station parameter) ⟨p, q⟩ = .next ⟨sendUp (.queryReply station parameter .invalid none) s, q⟩) ∧
       (p.bs.query = none → (stationOf st p).state ≠ .absent → hasSlot st p = true →
         exec (.query station parameter) ⟨p, q⟩ =
           .next ⟨{ s with bs := { s.bs with query := some ⟨st, parameter, 4⟩ } }, q⟩)) ∧
  (∀ (p : Gx24) (q : List Instr), p.Quiet →
     (p.bs.query = none → exec .queryTimeout ⟨p, q⟩ = .next ⟨p, q⟩) ∧
     ∀ c, p.bs.query = some c →
       (c.polls = 0 ∨ (stationOf c.station p).state = .absent ∨ hasSlot c.station p = false →
         exec .queryTimeout ⟨p, q⟩ = .next ⟨sendUp (.queryReply (byteOf c.station.val) c.parameter .timeout none)
           { p with bs := { p.bs with query := none, awaiting := p.bs.awaiting.map (fun w => { w with query := false }) } },
           q⟩) ∧
       (¬(c.polls = 0 ∨ (stationOf c.station p).state = .absent ∨ hasSlot c.station p = false) →
         exec .queryTimeout ⟨p, q⟩ = .next ⟨p, q⟩)) ∧
  (∀ (p : Gx24) (q : List Instr) (w : Awaiting) (payload : List Byte) (r : Reply),
     p.Quiet → p.bs.awaiting = some w → w.discard = false → (stationOf w.station p).state = .present →
     ({ p with bs := { p.bs with query := none } } : Gx24).Unattached w.station →
     payload.length ≤ 255 → replyOf (rowOf w.station p).kind payload = some r → r.events = [] →
     let done := exec (.slotEnd (some (replyLine w.station payload))) ⟨p, q⟩
     let s := { p with bs := { p.bs with awaiting := none } }.withStation w.station (·.heard r)
     (∀ v, r.answer = some v → (∀ c, p.bs.query = some c → c.station ≠ w.station) → done = .next ⟨s, q⟩) ∧
     (r.answer = none → w.query = false → done = .next ⟨s, q⟩) ∧
     ∀ c, p.bs.query = some c →
       (∀ v, r.answer = some v → c.station = w.station → done = .next ⟨sendUp
         (.queryReply (byteOf c.station.val) c.parameter .value (some v)) { s with bs := { s.bs with query := none } }, q⟩) ∧
       (r.answer = none → w.query = true → 0 < c.polls → done = .next ⟨s, q⟩) ∧
       (r.answer = none → w.query = true → c.polls = 0 → done = .next ⟨sendUp
         (.queryReply (byteOf c.station.val) c.parameter .timeout none) { s with bs := { s.bs with query := none } }, q⟩))

/-- An OUTPUT frame with selector 0 writes one lamp of the station's image, and a cue selector makes the cue pending with
the next cue serial, unless the station is ABSENT; a field out of range is a frame error (R13, R14, R181). For the cue no
chain waits on the station here. -/
def Obligations.OutputWritesTheStationImage : Prop :=
  ∀ (p : Gx24) (q : List Instr) (station lamp value : Byte), p.Quiet → p.Addressed →
    let s := growTrunk .framesTaken p
    (∀ (st : Fin 24) (out : Fin 8) (pat : LampPattern),
      station = byteOf st.val → lamp = byteOf out.val → value = pat.code →
      exec (.outputLamp station 0#8 lamp value) ⟨p, q⟩ =
        .next ⟨s.withStation st (fun x => { x with lamps := tput x.lamps out pat }), q⟩) ∧
    (24 ≤ station.toNat ∨ 8 ≤ lamp.toNat ∨ 4 ≤ value.toNat →
      exec (.outputLamp station 0#8 lamp value) ⟨p, q⟩ = .next ⟨growTrunk .frameErrors s, q⟩) ∧
    (24 ≤ station.toNat → exec (.outputCue station 1#8 lamp value) ⟨p, q⟩ = .next ⟨growTrunk .frameErrors s, q⟩) ∧
    ∀ st : Fin 24, station = byteOf st.val →
      ((stationOf st p).state = .absent → exec (.outputCue station 1#8 lamp value) ⟨p, q⟩ = .next ⟨s, q⟩) ∧
      ((stationOf st p).state ≠ .absent → p.Unattached st →
        exec (.outputCue station 1#8 lamp value) ⟨p, q⟩ = .next ⟨s.withStation st (fun x => { x with
          runningCue := x.runningCue + 1#4, latestCue := x.runningCue + 1#4
          cue := some ⟨value, x.runningCue + 1#4⟩ }), q⟩)

/-! ### Alerts (chapter 7) -/

/-- A raise that matches no record takes the lowest-numbered FREE general slot, its generation one on, with tier 1, repeat
count 1, the current tick and the class's settings; the other slots stand. A raise that matches a record counts a repeat, 255 at
most and then with the mark, and a condition raise makes a WAITING record OPEN. After either the held set, MOTION_PWR, SUPERVISOR,
the zone patterns and the BEACON stations' images follow the records, and one ALERT-NOTICE is given; a raise that changes nothing
does nothing at all (R13, R131, R132, R133, R141 to R144, R148). -/
def Obligations.RaiseMakesOrRepeatsARecord : Prop :=
  (∀ (p : Gx24) (key : AlertKey) (i : Fin 64),
     slotOfKey key p = none → i.val < 63 → recordAt i p = none → (∀ j, j < i → recordAt j p ≠ none) →
     let c := tget p.au.classes key.cls
     let g := (tget p.au.slots i).generation + 1#4
     let state : AlertState := if momentary key.cls then .waiting else .opened
     let t := raise key p
     tget t.au.slots i = ⟨g, some {
       key := key, state := state, tier := 1, countdown := c.interval, repeats := 1, saturated := false
       raiseTick := p.gc.tick, severity := c.severity, hold := c.hold, ackRequired := c.ackRequired
       interval := c.interval, maxTier := c.maxTier
       zones := zoneSetFor c.zone key.exhibit p, target := holdTargetFor key c.hold p }⟩ ∧
     (∀ j, j ≠ i → tget t.au.slots j = tget p.au.slots j) ∧ t.OutputsFollow ∧ (p.BeaconsShow → t.BeaconsShow) ∧
     p.OnlyAlertsMoved t ∧
     (p.tp.upQueue.length < 64 → t.tp.upQueue = p.tp.upQueue ++
       [.alertNotice i g key state.notice 1 1 false p.gc.tick p.gc.tick])) ∧
  (∀ (p : Gx24) (key : AlertKey) (i : Fin 64) (r : AlertRecord),
     slotOfKey key p = some i → recordAt i p = some r →
     let r' : AlertRecord := { r with
       repeats := min (r.repeats + 1) 255, saturated := r.saturated || decide (255 ≤ r.repeats + 1)
       state := if r.state = .waiting ∧ momentary r.key.cls = false then .opened else r.state }
     let t := raise key p
     tget t.au.slots i = ⟨(tget p.au.slots i).generation, some r'⟩ ∧
     (∀ j, j ≠ i → tget t.au.slots j = tget p.au.slots j) ∧ (p.BeaconsShow → t.BeaconsShow) ∧ p.OnlyAlertsMoved t ∧
     (r' = r → t = p) ∧
     (r' ≠ r → t.OutputsFollow ∧ (p.tp.upQueue.length < 64 → t.tp.upQueue = p.tp.upQueue ++
       [.alertNotice i (tget p.au.slots i).generation key r'.state.notice r'.tier r'.repeats r'.saturated r'.raiseTick
         p.gc.tick])))

/-- A raise that finds every general slot taken is lost: it is counted, its hold target joins the overflow held set, a lost
AXIS-FAULT's axis and key are kept, and the overflow record in slot 63 stands OPEN with that set; no general slot changes
(R146). -/
def Obligations.LostRaiseOpensTheOverflowRecord : Prop :=
  ∀ (p : Gx24) (key : AlertKey),
    slotOfKey key p = none → (∀ i : Fin 64, i.val < 63 → recordAt i p ≠ none) →
    let t := raise key p
    tget t.counters.alert AlertCounter.raisesLost.index =
      (tget p.counters.alert AlertCounter.raisesLost.index).add 1 ∧
    (∀ e, tget t.au.overflowHeld e =
      (tget p.au.overflowHeld e || tget (holdTargetFor key (tget p.au.classes key.cls).hold p) e)) ∧
    (∀ a, tget t.au.lostAxes a =
      if key.cls = clsAxisFault ∧ key.axis = some a then some key else tget p.au.lostAxes a) ∧
    (∃ r, recordAt overflowSlot t = some r ∧ r.state = .opened ∧ r.target = t.au.overflowHeld ∧
      (recordAt overflowSlot p = none → r.key = ⟨clsSystem, .overflow, none, none, none⟩ ∧ r.repeats = 1 ∧ r.tier = 1)) ∧
    (∀ i : Fin 64, i.val < 63 → tget t.au.slots i = tget p.au.slots i) ∧ t.OutputsFollow ∧ p.OnlyAlertsMoved t

/-- An ACK-ALERT whose generation matches makes an OPEN record OWNED, removes a WAITING one and leaves an OWNED one; one
that names no such record is stray, and a slot above 63 is a frame error (R135, R137, R181). The acknowledgement of an AXIS-FAULT
marks its axis acknowledged when the key is that of the axis's present FAULT, and the axis is tested for recovery (R124). No
overflow record stands here. -/
def Obligations.AckAlertActsOnTheRecord : Prop :=
  ∀ (p : Gx24) (q : List Instr) (slot generation : Byte), p.Quiet → p.Addressed → p.HoldsGiven →
    let s := growTrunk .framesTaken p
    (64 ≤ slot.toNat → exec (.ackAlert slot generation) ⟨p, q⟩ = .next ⟨growTrunk .frameErrors s, q⟩) ∧
    ∀ i : Fin 64, slot = byteOf i.val →
      (recordAt i p = none ∨ (tget p.au.slots i).generation ≠ generation.extractLsb' 0 4 →
        exec (.ackAlert slot generation) ⟨p, q⟩ = .next ⟨growAlert .strayAcks s, q⟩) ∧
      ∀ r, recordAt i p = some r → (tget p.au.slots i).generation = generation.extractLsb' 0 4 →
        recordAt overflowSlot p = none →
        let done := exec (.ackAlert slot generation) ⟨p, q⟩
        let notice (k : NoticeState) : UpFrame := .alertNotice i (tget p.au.slots i).generation r.key k r.tier r.repeats
          r.saturated r.raiseTick p.gc.tick
        let owned := alertsChanged [notice .owned] (putRecord i (some { r with state := .owned }) s)
        let removed := alertsChanged [notice .removed] (putRecord i none s)
        (r.key.cls ≠ clsAxisFault →
          (r.state = .opened → done = .next ⟨growAlert .headEndAcks owned, q⟩) ∧
          (r.state = .waiting → done = .next ⟨settle (growAlert .headEndAcks removed), q⟩) ∧
          (r.state = .owned → RenderLaw p → MotionPowerLaw p → done = .next ⟨growAlert .headEndAcks s, q⟩)) ∧
        (∀ a, r.key.cls = clsAxisFault → r.key.axis = some a →
          let acked (u : Gx24) : Gx24 := growAlert .headEndAcks (recoverTest a
            (if (axisOf a p).faultKey = some r.key then u.withAxis a (fun x => { x with acked := true }) else u))
          (r.state = .opened → done = .next ⟨settle (acked owned), q⟩) ∧
          (r.state = .waiting → done = .next ⟨settle (acked removed), q⟩) ∧
          (r.state = .owned → RenderLaw p → MotionPowerLaw p → done = .next ⟨settle (acked s), q⟩))

/-- A record whose countdown runs out is called more widely: its tier rises by one, its countdown is its interval again,
and the outputs and an ALERT-NOTICE follow (R140). A record that does not escalate, as none does while the clock is UNSYNCED, and
one whose countdown has more than one tick left, are left alone, which for the latter is the model's choice (assumption 5). -/
def Obligations.EscalationRaisesTheTier : Prop :=
  ∀ (p : Gx24) (q : List Instr) (i : Fin 64), p.Quiet → p.HoldsGiven →
    (recordAt i p = none → exec (.escalation i) ⟨p, q⟩ = .next ⟨p, q⟩) ∧
    ∀ r, recordAt i p = some r →
      let due := p.gc.state ≠ .unsynced ∧ r.state ≠ .owned ∧ 0 < r.interval ∧ r.tier < r.maxTier ∧
        (∀ e, r.key.exhibit = some e → (exhibitOf e p).mode ≠ .dark) ∧ r.countdown ≤ 1
      (due → exec (.escalation i) ⟨p, q⟩ = .next ⟨alertsChanged
        [.alertNotice i (tget p.au.slots i).generation r.key r.state.notice (r.tier + 1) r.repeats r.saturated r.raiseTick
          p.gc.tick]
        (putRecord i (some { r with tier := r.tier + 1, countdown := r.interval }) p), q⟩) ∧
      (¬due → exec (.escalation i) ⟨p, q⟩ = .next ⟨p, q⟩)

/-- A held set that reaches the exhibits makes every PUBLIC exhibit it names HELD and every HELD exhibit it does not name
PUBLIC; DARK and SERVICE exhibits stay (R46, R47). -/
def Obligations.HeldSetMovesPublicAndHeld : Prop :=
  ∀ (p : Gx24) (set : ExhibitSet) (e : Fin 16),
    (exhibitOf e (deliver (.held set) p)).mode =
      match (exhibitOf e p).mode with
      | .pub => if tget set e then .held else .pub
      | .held => if tget set e then .held else .pub
      | .service => .service
      | .dark => .dark

/-! ### Presses and exhibits (chapters 2 and 3) -/

/-- An event that counts for its row, at a row whose exhibit is DARK, adds one to the exhibit's ignored-dark counter and has
no other effect, whatever the row's class and edge; the release of a HOLD row is one such event (R28). -/
def Obligations.DarkExhibitIgnoresEvents : Prop :=
  ∀ (p : Gx24) (st : Fin 24) (i : Fin 8) (edge : Edge) (r : Fin 128) (e : Fin 16),
    tget p.pd.inputMap (mapIndex st i) = some r → (triggerOf r p).exhibit = some e →
    edgeCounts (triggerOf r p).edge edge = true → (exhibitOf e p).mode = .dark →
    inputEvent st i edge p = growExhibit e .ignoredDark 1 p

/-- An event whose edge does not count for its row has no effect; a counting event of a SERVICE exhibit on a row that is not
ATTENDANT is reported to the head-end and does nothing else. At an exhibit that is PUBLIC or HELD, a counting event that is not the
release of a HOLD row is a press: in a CLOSED gallery a visitor's or HELP press is refused as closed; in an open one a visitor's
press at a HELD exhibit is refused and counted, and a HELP press raises HELP and then, where its row has a start action and the
exhibit is HELD, is refused likewise (R26, R27, R29, R30, R31, R32). -/
def Obligations.InputEventsFollowTheMode : Prop :=
  ∀ (p : Gx24) (st : Fin 24) (i : Fin 8) (edge : Edge) (r : Fin 128) (e : Fin 16),
    tget p.pd.inputMap (mapIndex st i) = some r → (triggerOf r p).exhibit = some e →
    let row := triggerOf r p
    let x := exhibitOf e p
    let done := inputEvent st i edge p
    let helped := raise ⟨clsHelp, .none, some e, none, none⟩ (p.visitorNoticed e)
    (edgeCounts row.edge edge = false → done = p) ∧
    (edgeCounts row.edge edge = true →
      (x.mode = .service → row.cls ≠ .attendant → done = sendUp (.inputReport st i edge p.gc.tick) p) ∧
      (¬(row.edge = .hold ∧ edge = .release) →
        (row.cls = .visitor ∨ row.cls = .help → x.mode = .held ∨ x.mode = .pub → p.ac.gallery = .closed →
          done = growExhibit e .refusedClosed 1 (p.visitorNoticed e)) ∧
        (row.cls = .visitor → x.mode = .held → p.ac.gallery ≠ .closed →
          done = growExhibit e .refusedHeld 1 (p.visitorNoticed e)) ∧
        (row.cls = .help → x.mode = .held → p.ac.gallery ≠ .closed → row.start.isSome →
          done = growExhibit e .refusedHeld 1 helped) ∧
        (row.cls = .help → x.mode = .held ∨ x.mode = .pub → p.ac.gallery ≠ .closed → row.start = none → done = helped)))

/-- A visitor's press at a PUBLIC exhibit of an open gallery, on a row of any edge that counts it, starts the row's chain at once
when the exhibit is IDLE, and aborts an ATTRACT chain for it; at an exhibit otherwise busy or cooling a press of a row already
queued is merged, else it joins a queue with room, else it is refused; merged and refused presses advance the flood count. A HELP
press of a row with a start action does the same once HELP is raised (R27, R32, R36, R49, R50, R51). That a row without a start
action starts as one that names no entry is read from the rules (assumption 9). -/
def Obligations.VisitorPressStartsOrQueues : Prop :=
  ∀ (p : Gx24) (st : Fin 24) (i : Fin 8) (edge : Edge) (r : Fin 128) (e : Fin 16), p.Quiet →
    tget p.pd.inputMap (mapIndex st i) = some r → (triggerOf r p).exhibit = some e →
    edgeCounts (triggerOf r p).edge edge = true → ¬((triggerOf r p).edge = .hold ∧ edge = .release) →
    (triggerOf r p).cls = .visitor ∨ ((triggerOf r p).cls = .help ∧ (triggerOf r p).start.isSome) →
    (exhibitOf e p).mode = .pub → p.ac.gallery ≠ .closed →
    let s := if (triggerOf r p).cls = .help then raise ⟨clsHelp, .none, some e, none, none⟩ (p.visitorNoticed e)
      else p.visitorNoticed e
    let x := exhibitOf e p
    let done := inputEvent st i edge p
    (x.grant = none → x.activity ≠ .cooldown → done = Gx24.visitorStarted e r (st, i) p.gc.tick s) ∧
    (∀ g, x.grant = some g → g.origin = .attract → (runnerOf e p).state ≠ .free → p.MovesNothing e →
      done = Gx24.visitorStarted e r (st, i) p.gc.tick (growExhibit e .aborted 1 s)) ∧
    ((x.grant = none ∧ x.activity = .cooldown) ∨ (∃ g, x.grant = some g ∧ g.origin ≠ .attract) →
      ((∃ c ∈ x.queue, c.row = r) → done = advanceFlood e (growExhibit e .merged 1 s)) ∧
      ((∀ c ∈ x.queue, c.row ≠ r) → x.queue.length < x.record.depth →
        done = maskEvent e (·.acceptedPress) ((growExhibit e .queued 1 s).withExhibit e
          (fun x => { x with queue := x.queue ++ [⟨r, st, i, p.gc.tick, 0⟩] }))) ∧
      ((∀ c ∈ x.queue, c.row ≠ r) → x.record.depth ≤ x.queue.length →
        done = advanceFlood e (growExhibit e .refusedFull 1 s)))

/-- A cooldown whose last tick has come ends: the exhibit is IDLE and its queued presses one tick older; those too old that stand
before the first within its patience are dropped, counted stale and for the flood count, and that first one starts its chain; with
none left the queue is empty (R56, R57, R58). The flood count reaches no threshold here. That a row without a start action starts as
one that names no entry is read from the rules (assumption 9). Without such a cooldown, or in UNSYNCED, where there are no tick
events, the command changes nothing, which is the model's choice (assumption 5). -/
def Obligations.CooldownEndServesTheQueue : Prop :=
  ∀ (p : Gx24) (q : List Instr) (e : Fin 16), p.Quiet →
    let x := exhibitOf e p
    let due := p.gc.state ≠ .unsynced ∧ x.activity = .cooldown ∧ x.cooldown ≤ 1
    let served (old : Nat) (rest : List QueueEntry) : Gx24 := (growExhibit e .stale 1)^[old] (p.withExhibit e (fun x => { x with
      activity := .idle, cooldown := 0, flood := if x.record.flood = 0 then x.flood else x.flood + old
      queue := rest.map (fun c => { c with waited := min (c.waited + 1) 255 }) }))
    let calm (old : Nat) := old = 0 ∨ x.record.flood = 0 ∨ x.flood + old < x.record.flood
    (¬due → exec (.cooldownEnd e) ⟨p, q⟩ = .next ⟨p, q⟩) ∧
    (due → (∀ c ∈ x.queue, tooOld x.record.patience c = true) → calm x.queue.length →
      exec (.cooldownEnd e) ⟨p, q⟩ = .next ⟨served x.queue.length [], q⟩) ∧
    (∀ old c rest, due → x.queue = old ++ c :: rest → (∀ d ∈ old, tooOld x.record.patience d = true) →
      tooOld x.record.patience c = false → calm old.length →
      exec (.cooldownEnd e) ⟨p, q⟩ = .next ⟨settle (Gx24.visitorStarted e c.row (c.station, c.input) c.arrival
        (served old.length rest)), q⟩)

/-- A flood count that reaches its threshold raises CROWDING and begins again at 0; a runner that has made 32 steps without a
suspension has its chain aborted and CHAIN-FAULT raised with cause LOOP; a guard open for the guard timeout raises
GUARD-HELD, naming the axis and the lowest exhibit that lists it, and the key is kept (R58, R67, R84, R85, R120, R134).
Elsewhere, and for the guard in UNSYNCED, where there are no tick events, the three commands change nothing, which is the model's
choice (assumption 5). -/
def Obligations.ThresholdsRaiseTheirAlerts : Prop :=
  (∀ (p : Gx24) (q : List Instr) (e : Fin 16), p.Quiet →
     let x := exhibitOf e p
     (0 < x.record.flood → x.record.flood ≤ x.flood + 1 → exec (.crowding e) ⟨p, q⟩ =
       .next ⟨settle (raise ⟨clsCrowding, .none, some e, none, none⟩ (p.withExhibit e (fun x => { x with flood := 0 }))),
         q⟩) ∧
     (¬(0 < x.record.flood ∧ x.record.flood ≤ x.flood + 1) → exec (.crowding e) ⟨p, q⟩ = .next ⟨p, q⟩)) ∧
  (∀ (p : Gx24) (q : List Instr) (e : Fin 16), p.Quiet →
     ((runnerOf e p).state = .stepping → 32 ≤ (runnerOf e p).steps → p.MovesNothing e →
       exec (.chainFaultLoop e) ⟨p, q⟩ =
         .next ⟨settle (raise ⟨clsChainFault, .loop, some e, none, none⟩ (p.chainAborted e)), q⟩) ∧
     (¬((runnerOf e p).state = .stepping ∧ 32 ≤ (runnerOf e p).steps) →
       exec (.chainFaultLoop e) ⟨p, q⟩ = .next ⟨p, q⟩)) ∧
  (∀ (p : Gx24) (q : List Instr) (a : Fin 8), p.Quiet →
     let x := axisOf a p
     let due := p.gc.state ≠ .unsynced ∧ x.state ≠ .off ∧ x.guardOpen = true ∧ x.guardHeldKey = none ∧ 0 < x.params.guardTimeout ∧
       x.params.guardTimeout ≤ x.guardOpenTime + 1
     let key : AlertKey := ⟨clsGuardHeld, .none, lowestListing a p, none, some a⟩
     (due → exec (.guardHeld a) ⟨p, q⟩ = .next ⟨settle (raise key (p.withAxis a (fun x => { x with
       guardOpenTime := x.params.guardTimeout, guardHeldKey := some key }))), q⟩) ∧
     (¬due → exec (.guardHeld a) ⟨p, q⟩ = .next ⟨p, q⟩))

/-! ### Chains (chapter 4) -/

/-- A STEPPING runner executes one entry whole: a lamp or a cue is written, a counter grown, an alert raised, a wait or a
referral begun, an axis claimed or left as it is, and a FREE entry is a fault; then the link is taken or the runner waits. A PAUSE
ends the chain, and its link is stored for a STEPPED row of a PUBLIC exhibit and for no other (R37, R66 to R75, R79, R83, R85). The
exhibit owns and claims no axis before, and the clock is not ISLAND. -/
def Obligations.RunnerExecutesOneEntryWhole : Prop :=
  ∀ (p : Gx24) (e : Fin 16), p.Quiet → (runnerOf e p).state = .stepping → (runnerOf e p).steps < 32 →
    p.MovesNothing e → p.gc.state ≠ .island →
    let s := p.withRunner e (fun r => { r with steps := r.steps + 1 })
    let act := actionAt (runnerOf e p).index p
    let done := deliver (.run e) p
    (∀ st out pat l, act = .lamp st out pat l →
      done = Gx24.linkTaken e l (s.withStation st (fun x => { x with lamps := tput x.lamps out pat }))) ∧
    (∀ c n l, act = .count c n l →
      done = Gx24.linkTaken e l { s with counters := { s.counters with
        usage := tmod s.counters.usage c (Counter.add n) } }) ∧
    (∀ c l, act = .alert c l → done = Gx24.linkTaken e l (raise ⟨c, .none, some e, none, none⟩ s)) ∧
    (∀ n l, act = .wait n l →
      done = p.withRunner e (fun r => { r with state := .waitTicks, wait := n, steps := 0 })) ∧
    (∀ tag n d go stop, act = .refer tag n d go stop →
      let r := runnerOf e p
      let serial := match r.lastReferral with | some k => k + 1#4 | none => 0#4
      done = growExhibit e .referralsSent 1 (sendUp (.referral e serial tag r.row r.input r.requestTick)
        (p.withRunner e (fun r => { r with
          state := .waitVerdict, wait := n, steps := 0, lastReferral := some serial })))) ∧
    (∀ st n w l, act = .cue st n w l →
      ((stationOf st p).state = .absent → done = Gx24.linkTaken e l s) ∧
      ((stationOf st p).state ≠ .absent → p.Unattached st →
        let c := (stationOf st p).runningCue + 1#4
        let written (t : Gx24) := t.withStation st (fun x => { x with
          runningCue := c, latestCue := c, cue := some ⟨n, c⟩ })
        (w = false → done = Gx24.linkTaken e l (written s)) ∧
        (w = true → done = written (p.withRunner e (fun r => { r with
          state := .waitCue, steps := 0, awaitedCue := some (st, c) }))))) ∧
    (∀ a i m wait l, act = .move a i m wait l → (axisOf a p).state = .off →
      done = Gx24.linkTaken e l (growExhibit e .movesSkipped 1 (growAxis a .claimsRefused s))) ∧
    (∀ a i m wait l, act = .move a i m wait (.to l) → lists e a p = true → (axisOf a p).state = .idle →
      (axisOf a p).disabling = false → (axisOf a p).owner = none → (axisOf a p).claims = [] →
      let granted := Gx24.claimGranted a (.exhibit e) (runnerOf e p).origin (.program i) m
        (tget p.mu.segments (tget p.mu.programs i).first) s
      (wait = false → done = Gx24.linkTaken e (.to l) granted) ∧
      (wait = true → done = granted.withRunner e (fun r => { r with
        state := .waitDone, awaitedAxis := some a, steps := 0 }))) ∧
    (∀ a m l, act = .haltAxis a m l → done = Gx24.linkTaken e l s) ∧
    (∀ r i x, act = .pause (.to i) → (runnerOf e p).row = some r → (triggerOf r p).exhibit = some x →
      (triggerOf r p).style = .stepped → (exhibitOf x p).mode = .pub →
      done = Gx24.chainCompleted e { s with pd := { s.pd with continuation := tput s.pd.continuation r (some i) } }) ∧
    (∀ l, act = .pause l → l = .endOfChain ∨ (runnerOf e p).row = none ∨
      (∃ r, (runnerOf e p).row = some r ∧ ((triggerOf r p).style = .fresh ∨ (triggerOf r p).exhibit = none ∨
        ∃ x, (triggerOf r p).exhibit = some x ∧ (exhibitOf x p).mode ≠ .pub)) →
      done = s.chainCompleted e) ∧
    (act = .free → done = raise ⟨clsChainFault, .freeEntry, some e, none, none⟩ (p.chainAborted e))

/-- The last tick of a WAIT sends the runner on at the entry's link, and the last tick of a referral's timeout at the link of its
default, counted as defaulted (R74, R81); with more than one tick left, in another state, or in UNSYNCED, where there are no tick
events, both commands change nothing, which is the model's choice (assumption 5). A VERDICT that names the referral awaited sends
the runner on at the link of the verdict; one that names the latest referral too late is counted late, one that names another
stray, and a field out of range is a frame error (R80, R181). -/
def Obligations.WaitsAndReferralsEnd : Prop :=
  (∀ (p : Gx24) (q : List Instr) (e : Fin 16), p.Quiet → p.MovesNothing e →
    let r := runnerOf e p
    let s := p.withRunner e (fun r => { r with wait := 0 })
    let last := p.gc.state ≠ .unsynced ∧ r.wait ≤ 1
    (last → r.state = .waitTicks → exec (.waitTicksEnd e) ⟨p, q⟩ =
      .next ⟨settle (Gx24.linkTaken e (actionAt r.index p).link s), q⟩) ∧
    (¬(last ∧ r.state = .waitTicks) → exec (.waitTicksEnd e) ⟨p, q⟩ = .next ⟨p, q⟩) ∧
    (∀ tag n d go stop, last → r.state = .waitVerdict → actionAt r.index p = .refer tag n d go stop →
      exec (.referralTimeout e) ⟨p, q⟩ = .next ⟨settle (Gx24.linkTaken e (if d = .go then go else stop)
        (growExhibit e .referralsDefaulted 1 s)), q⟩) ∧
    (¬(last ∧ r.state = .waitVerdict) → exec (.referralTimeout e) ⟨p, q⟩ = .next ⟨p, q⟩)) ∧
  ∀ (p : Gx24) (q : List Instr) (exhibit serial verdict : Byte), p.Quiet → p.Addressed →
    let t := growTrunk .framesTaken p
    (16 ≤ exhibit.toNat ∨ 2 ≤ verdict.toNat →
      exec (.verdict exhibit serial verdict) ⟨p, q⟩ = .next ⟨growTrunk .frameErrors t, q⟩) ∧
    ∀ (e : Fin 16) (v : Verdict), exhibit = byteOf e.val → verdict = v.code →
      let r := runnerOf e p
      (r.lastReferral ≠ some (serial.extractLsb' 0 4) →
        exec (.verdict exhibit serial verdict) ⟨p, q⟩ = .next ⟨growExhibit e .verdictsStray 1 t, q⟩) ∧
      (r.lastReferral = some (serial.extractLsb' 0 4) → r.state ≠ .waitVerdict →
        exec (.verdict exhibit serial verdict) ⟨p, q⟩ = .next ⟨growExhibit e .verdictsLate 1 t, q⟩) ∧
      (∀ tag n d go stop, r.lastReferral = some (serial.extractLsb' 0 4) → r.state = .waitVerdict → p.MovesNothing e →
        actionAt r.index p = .refer tag n d go stop →
        exec (.verdict exhibit serial verdict) ⟨p, q⟩ = .next ⟨settle (Gx24.linkTaken e (if v = .go then go else stop)
          (growExhibit e .verdictsTaken 1 t)), q⟩)

/-! ### Axes (chapters 5 and 6) -/

/-- The step of a RUNNING axis whose last step reply was good: it moves toward its target at the speed of R94 and never past
it; short of the target nothing but its speed, position, reference and setpoint changes, and on the target it is at rest,
in DWELL where the segment has a dwell (R91, R94, R96, R103, R122). -/
def Obligations.RunningStepMovesTowardTheTarget : Prop :=
  ∀ (p : Gx24) (a : Fin 8),
    let x := axisOf a p
    x.state = .running → x.stepGood = true →
    let n := stepSpeed x.params.accel x.cruise x.velocity.natAbs (x.target - x.position).natAbs
    n ≤ (x.target - x.position).natAbs ∧
    (n < (x.target - x.position).natAbs → stepAxis a p = p.withAxis a (fun x => { x.advanced n with
      reference := referenceBefore x, setpoint := some ⟨(x.advanced n).position, !p.estop⟩ })) ∧
    (n = (x.target - x.position).natAbs → (x.advanced n).position = x.target ∧
      (0 < currentDwell x p → stepAxis a p = p.withAxis a (fun y => { y.advanced n with
        velocity := 0, state := .dwell, dwell := currentDwell x p
        reference := referenceBefore x, setpoint := some ⟨x.target, !p.estop⟩ })))

/-- The halting step slows the axis by A without regard to cruise or target, never past the target; when it is at rest or on
its target, it is at rest and the program ends HALTED (R99, R102). A step of an axis in HALTING is that step, with the
following-error reference taken before it and the setpoint built after it unless it took the axis OFF (R91, R103, R122); after a
missed step reply an axis in any state is held: the step is counted and the reference taken, and the setpoint stays (R91, R122). -/
def Obligations.HaltingStepBrakesToRest : Prop :=
  ∀ (p : Gx24) (a : Fin 8),
    let x := axisOf a p
    let n := min (x.velocity.natAbs - x.params.accel) (x.target - x.position).natAbs
    let y := x.advanced n
    (y.velocity ≠ 0 → y.position ≠ x.target → haltingStep a p = p.withAxis a (fun x => x.advanced n)) ∧
    (y.velocity = 0 ∨ y.position = x.target →
      haltingStep a p = endProgram a .halted (p.withAxis a (fun x => { x.advanced n with velocity := 0 }))) ∧
    (x.state = .halting → x.stepGood = true →
      (y.velocity ≠ 0 → y.position ≠ x.target → stepAxis a p = p.withAxis a (fun x => { x.advanced n with
        reference := referenceBefore x, setpoint := some ⟨y.position, !p.estop⟩ })) ∧
      (y.velocity = 0 ∨ y.position = x.target →
        let u := endProgram a .halted (p.withAxis a (fun x => { x.advanced n with
          velocity := 0, reference := referenceBefore x }))
        stepAxis a p = if (axisOf a u).state = .off then u else u.withAxis a (fun z => { z with
          setpoint := some ⟨z.position, decide (z.state ≠ .fault) && !u.estop⟩ }))) ∧
    (x.stepGood = false → stepAxis a p = growAxis a .heldSteps (p.withAxis a (fun x => { x with
      reference := referenceBefore x })))

/-- The last dwell step completes the segment: the next segment starts at once, and after the last segment of a ONCE program
the program ends DONE, which its HEAD-END or MAINTENANCE owner is told. A closed guard that settles lets the axis go on in
its resume state at that step point: a dwell goes on dwelling, and a running axis takes its running step (R93, R94, R96,
R97, R101, R102, R103, R114, R119). Elsewhere both commands change nothing, which is the model's choice (assumption 5). -/
def Obligations.DwellEndAndGuardSettleGoOn : Prop :=
  (∀ (p : Gx24) (q : List Instr) (a : Fin 8), p.Quiet →
     let x := axisOf a p
     (¬(x.state = .dwell ∧ x.dwell ≤ 1 ∧ x.stepGood) → exec (.dwellEnd a) ⟨p, q⟩ = .next ⟨p, q⟩) ∧
     ∀ j, x.state = .dwell → x.dwell ≤ 1 → x.stepGood = true → x.job = some j →
       (x.segIndex + 1 < jobCount j p →
         let g := jobSegment j (x.segIndex + 1) p
         exec (.dwellEnd a) ⟨p, q⟩ = .next ⟨(if softClamp x.params g.target ≠ g.target then growAxis a .clamps p else
           p).withAxis a (fun x => { x with
             state := .running, dwell := 0, segIndex := x.segIndex + 1
             cruise := g.cruise * 16, target := softClamp x.params g.target * 16
             clamped := x.clamped || decide (softClamp x.params g.target ≠ g.target)
             reference := referenceBefore x, setpoint := some ⟨x.position, !p.estop⟩ }), q⟩) ∧
       (∀ c o, jobCount j p ≤ x.segIndex + 1 → x.mode = .once → x.owner = some ⟨c, o⟩ → c = .headEnd ∨ c = .maintenance →
         x.claims = [] → x.disabling = false →
         exec (.dwellEnd a) ⟨p, q⟩ = .next ⟨sendUp (moveReplyOf a c j .done .none) ((growAxis a .programsDone p).withAxis a
           (fun x => { x.released with
             dwell := 0, reference := referenceBefore x, setpoint := some ⟨x.position, !p.estop⟩ })), q⟩)) ∧
  (∀ (p : Gx24) (q : List Instr) (a : Fin 8), p.Quiet →
     let x := axisOf a p
     let due := x.state = .guardStop ∧ x.guardOpen = false ∧ x.params.guardSettle ≤ x.settleCount + 1 ∧ x.stepGood = true
     (¬due → exec (.guardSettle a) ⟨p, q⟩ = .next ⟨p, q⟩) ∧
     (due → x.resume = .dwell → 1 < x.dwell →
       exec (.guardSettle a) ⟨p, q⟩ = .next ⟨p.withAxis a (fun x => { x with
         state := .dwell, dwell := x.dwell - 1, settleCount := x.settleCount + 1
         reference := referenceBefore x, setpoint := some ⟨x.position, !p.estop⟩ }), q⟩) ∧
     let n := stepSpeed x.params.accel x.cruise x.velocity.natAbs (x.target - x.position).natAbs
     (due → x.resume = .running → n < (x.target - x.position).natAbs →
       exec (.guardSettle a) ⟨p, q⟩ = .next ⟨p.withAxis a (fun x => { x.advanced n with
         state := .running, settleCount := x.settleCount + 1
         reference := referenceBefore x, setpoint := some ⟨(x.advanced n).position, !p.estop⟩ }), q⟩))

/-- A MOVE frame is a claim of HEAD-END at origin SHOW: on an axis that is OFF, in FAULT or disabling it is refused with that
reason, on a free IDLE axis it is granted and its program begins, and behind an owner of SHOW or ATTENDANT origin it waits. A JOG
frame is a claim of MAINTENANCE at origin ATTENDANT for one segment of its own: refused LIVE while a PUBLIC or HELD exhibit lists
the axis, granted on a free IDLE axis with its cruise held within 1 to 511. A field out of range is a frame error (R92, R93, R110,
R111, R114, R115, R116, R181). -/
def Obligations.MoveAndJogClaimTheAxis : Prop :=
  (∀ (p : Gx24) (q : List Instr) (axis program mode : Byte), p.Quiet → p.Addressed →
    let t := growTrunk .framesTaken p
    (8 ≤ axis.toNat ∨ 64 ≤ program.toNat ∨ 2 ≤ mode.toNat →
      exec (.moveFrame axis program mode) ⟨p, q⟩ = .next ⟨growTrunk .frameErrors t, q⟩) ∧
    ∀ (a : Fin 8) (n : Fin 64) (m : RunMode), axis = byteOf a.val → program = byteOf n.val → mode = m.code →
      let x := axisOf a p
      (∀ why, (x.state = .off ∧ why = .off) ∨ (x.state = .fault ∧ why = .fault) ∨
          (x.state ≠ .off ∧ x.state ≠ .fault ∧ x.disabling = true ∧ why = .disabling) →
        exec (.moveFrame axis program mode) ⟨p, q⟩ = .next ⟨sendUp (.moveReply a false (some n) .refused why)
          (growAxis a .claimsRefused t), q⟩) ∧
      (x.state = .idle → x.disabling = false → x.owner = none → x.claims = [] →
        exec (.moveFrame axis program mode) ⟨p, q⟩ = .next ⟨sendUp (.moveReply a false (some n) .granted .none)
          (Gx24.claimGranted a .headEnd .showCue (.program n) m
            (tget p.mu.segments (tget p.mu.programs n).first) t), q⟩) ∧
      (∀ o, x.state ≠ .off → x.state ≠ .fault → x.disabling = false → x.owner = some o →
          o.origin = .showCue ∨ o.origin = .attendant → (∀ c ∈ x.claims, c.claimant ≠ .headEnd) →
        exec (.moveFrame axis program mode) ⟨p, q⟩ = .next ⟨t.withAxis a (fun x => { x with
          claims := x.claims ++ [⟨.headEnd, .showCue, .program n, m, x.params.claimTimeout⟩] }), q⟩)) ∧
  ∀ (p : Gx24) (q : List Instr) (axis : Byte) (target cruise : Word), p.Quiet → p.Addressed →
    let t := growTrunk .framesTaken p
    (8 ≤ axis.toNat → exec (.jog axis target cruise) ⟨p, q⟩ = .next ⟨growTrunk .frameErrors t, q⟩) ∧
    ∀ a : Fin 8, axis = byteOf a.val →
      let x := axisOf a p
      let g : Segment := ⟨target.toInt, max 1 (min 511 cruise.toNat), 0⟩
      ((∃ e, lists e a p = true ∧ ((exhibitOf e p).mode = .pub ∨ (exhibitOf e p).mode = .held)) →
        exec (.jog axis target cruise) ⟨p, q⟩ = .next ⟨sendUp (.moveReply a true none .refused .live)
          (growAxis a .claimsRefused t), q⟩) ∧
      ((∀ e, lists e a p = true → (exhibitOf e p).mode = .dark ∨ (exhibitOf e p).mode = .service) → x.state = .idle →
        x.disabling = false → x.owner = none → x.claims = [] →
        exec (.jog axis target cruise) ⟨p, q⟩ = .next ⟨sendUp (.moveReply a true none .granted .none)
          (Gx24.claimGranted a .maintenance .attendant (.jog g) .once g t), q⟩)

/-- A HALT frame acts on the program in progress by the axis's state and the manner, whoever owns the axis; a program at rest
ends HALTED at once, which its HEAD-END or MAINTENANCE owner is told (R98, R102, R114, R115, R181). -/
def Obligations.HaltActsOnTheAxisState : Prop :=
  ∀ (p : Gx24) (q : List Instr) (axis manner : Byte), p.Quiet → p.Addressed →
    let t := growTrunk .framesTaken p
    (8 ≤ axis.toNat ∨ 2 ≤ manner.toNat → exec (.halt axis manner) ⟨p, q⟩ = .next ⟨growTrunk .frameErrors t, q⟩) ∧
    ∀ a : Fin 8, axis = byteOf a.val →
      let x := axisOf a p
      (x.state = .idle ∨ x.state = .off ∨ x.state = .fault ∨ x.state = .halting →
        manner = 0#8 ∨ manner = 1#8 → exec (.halt axis manner) ⟨p, q⟩ = .next ⟨t, q⟩) ∧
      (x.state = .running ∨ x.state = .dwell ∨ x.state = .guardStop → manner = 1#8 →
        exec (.halt axis manner) ⟨p, q⟩ = .next ⟨t.withAxis a (fun x => { x with stopAtLoopEnd := true }), q⟩) ∧
      (x.state = .running → x.velocity ≠ 0 → manner = 0#8 →
        exec (.halt axis manner) ⟨p, q⟩ = .next ⟨t.withAxis a (fun x => { x with state := .halting }), q⟩) ∧
      (x.state = .guardStop → x.velocity ≠ 0 → manner = 0#8 →
        exec (.halt axis manner) ⟨p, q⟩ = .next ⟨t.withAxis a (fun x => { x with resume := .halting }), q⟩) ∧
      (∀ c o j, x.state = .dwell ∨ ((x.state = .running ∨ x.state = .guardStop) ∧ x.velocity = 0) → manner = 0#8 →
        x.job = some j → x.owner = some ⟨c, o⟩ → c = .headEnd ∨ c = .maintenance → x.claims = [] → x.disabling = false →
        exec (.halt axis manner) ⟨p, q⟩ = .next ⟨sendUp (moveReplyOf a c j .halted .none)
          ((growAxis a .programsHalted t).withAxis a Axis.released), q⟩)

/-- The claim that wins is a pending one, of the highest origin, and among that origin's the first in the axis's order; with a
claim pending there is a winner (R111). A claim whose time runs out is removed, counted as skipped, and its claimant told: HEAD-END
and MAINTENANCE by a MOVE-REPLY, a waiting chain by going on past its MOVE (R75, R86, R113, R114). With more than one tick left, no
such claim, or in UNSYNCED, where there are no tick events, CLAIM_TIMEOUT changes nothing, which is the model's choice
(assumption 5). -/
def Obligations.ClaimsWinOrTimeOut : Prop :=
  (∀ x : Axis,
    (x.claims ≠ [] → (winner x).isSome) ∧
    ∀ c, winner x = some c → c ∈ x.claims ∧ ∀ d ∈ x.claims,
      d.origin.rank ≤ c.origin.rank ∧ (d.origin = c.origin → grantRank x c.claimant ≤ grantRank x d.claimant)) ∧
  ∀ (p : Gx24) (q : List Instr) (a : Fin 8) (c : Claimant), p.Quiet →
    let found := (axisOf a p).claims.find? (fun d => decide (d.claimant = c))
    let s := (growAxis a .claimsSkipped p).withAxis a (fun x => { x with
      claims := x.claims.filter (fun d => decide (d.claimant ≠ c)) })
    (found = none ∨ p.gc.state = .unsynced → exec (.claimTimeout a c) ⟨p, q⟩ = .next ⟨p, q⟩) ∧
    ∀ d, found = some d → p.gc.state ≠ .unsynced →
      (1 < d.timeLeft → exec (.claimTimeout a c) ⟨p, q⟩ = .next ⟨p, q⟩) ∧
      (d.timeLeft ≤ 1 → c = .headEnd ∨ c = .maintenance →
        exec (.claimTimeout a c) ⟨p, q⟩ = .next ⟨sendUp (moveReplyOf a c d.job .skipped .none) s, q⟩) ∧
      (∀ e, d.timeLeft ≤ 1 → c = .exhibit e → (runnerOf e p).state = .waitClaim → (runnerOf e p).awaitedAxis = some a →
        (∀ b, ownsAxis e b p = false) →
        exec (.claimTimeout a c) ⟨p, q⟩ = .next ⟨settle (Gx24.linkTaken e (actionAt (runnerOf e p).index p).link
          (growExhibit e .movesSkipped 1 s)), q⟩)

/-- AXIS-ENABLE of an OFF axis whose drive station can carry it places the axis IDLE at the drive's reported position,
without owner, claims or marks; each failing check gives its reply and changes nothing, and an axis that is not OFF is
answered OK (R107, R184). That the setpoint is stored at that position with drive-enable off is read from the rules
(assumption 14), and so is row 0 in the reply (assumption 11). -/
def Obligations.EnablePlacesTheAxisAtItsDrive : Prop :=
  ∀ (p : Gx24) (q : List Instr) (tag flag : Byte) (a : Fin 8), p.Quiet → p.Addressed → flag.getLsbD 0 = true →
    let t := growTrunk .framesTaken p
    let x := axisOf a p
    let reply (code : ReplyCode) (s : Gx24) := sendUp (.mgmtReply tag 4#8 code 0#8 0#16 []) s
    let answers (code : ReplyCode) := exec (.axisEnable tag [byteOf a.val, flag]) ⟨p, q⟩ = .next ⟨reply code t, q⟩
    (x.state ≠ .off → answers .ok) ∧
    (x.state = .off → x.params.drive = none → answers .invalid) ∧
    ∀ st, x.state = .off → x.params.drive = some st →
      let d := (stationOf st p).drive
      ((rowOf st p).kind ≠ .drive → answers .invalid) ∧
      ((rowOf st p).kind = .drive → p.estop = true ∨ (stationOf st p).state ≠ .present ∨ hasSlot st p = false ∨
        d.ready = false ∨ d.fault = true → answers .live) ∧
      ((rowOf st p).kind = .drive → p.estop = false → (stationOf st p).state = .present → hasSlot st p = true →
        d.ready = true → d.fault = false → ∀ n, d.position = some n →
        exec (.axisEnable tag [byteOf a.val, flag]) ⟨p, q⟩ = .next ⟨reply .ok (t.withAxis a (fun x => { x with
          state := .idle, position := n.toInt * 16, velocity := 0, reference := n.toInt * 16
          setpoint := some ⟨n.toInt * 16, false⟩, stepGood := true, strikes := 0, settleCount := 0, cause := none
          acked := false, guardOpenTime := 0, guardOpen := guardIsOpen a p, disabling := false, owner := none
          claims := [] })), q⟩)

/-- AXIS-ENABLE with the flag clear: an OFF axis is answered OK and stays; an IDLE axis goes OFF with drive-enable off; an
axis in motion is disabling and brakes; an axis number above 7 or a body of another length is answered RANGE (R98, R103,
R108, R184). No claim is pending here and no condition of the axis held. Row 0 in each reply is read from the rules (assumption 11), and that a
body of another length is one of either command is the model's choice (assumption 28). -/
def Obligations.DisableTakesTheAxisOff : Prop :=
  ∀ (p : Gx24) (q : List Instr) (tag : Byte), p.Quiet → p.Addressed →
    let t := growTrunk .framesTaken p
    let reply (code : ReplyCode) (s : Gx24) := sendUp (.mgmtReply tag 4#8 code 0#8 0#16 []) s
    (∀ body, (∀ x y, body = [x, y] → 8 ≤ x.toNat) →
      exec (.axisDisable tag body) ⟨p, q⟩ = .next ⟨reply .range t, q⟩ ∧
      exec (.axisEnable tag body) ⟨p, q⟩ = .next ⟨reply .range t, q⟩) ∧
    ∀ (a : Fin 8) (flag : Byte), flag.getLsbD 0 = false →
      let x := axisOf a p
      (x.state = .off → exec (.axisDisable tag [byteOf a.val, flag]) ⟨p, q⟩ = .next ⟨reply .ok t, q⟩) ∧
      (x.state = .idle → x.claims = [] → x.guardHeldKey = none → x.faultKey = none → p.bs.awaiting = none →
        exec (.axisDisable tag [byteOf a.val, flag]) ⟨p, q⟩ = .next ⟨reply .ok (t.withAxis a (fun x => { x with
          state := .off, velocity := 0, disabling := false, owner := none, guardOpen := false, guardOpenTime := 0
          setpoint := x.setpoint.map (fun s => { s with enable := false }) })), q⟩) ∧
      (x.state = .running → x.velocity ≠ 0 → x.claims = [] →
        exec (.axisDisable tag [byteOf a.val, flag]) ⟨p, q⟩ = .next ⟨reply .ok (t.withAxis a (fun x => { x with
          state := .halting, disabling := true })), q⟩)

/-- An axis that enters FAULT holds its position, has V 0 and drive-enable off, no program, owner or claims, and its cause
recorded and counted; AXIS-FAULT is raised naming the axis and the lowest exhibit that lists it, its key kept; a disabling axis
then goes OFF. Its owner is told first: HEAD-END and MAINTENANCE by a MOVE-REPLY FAULT, an exhibit's chain that awaits the end of
the program by being aborted, another chain not at all. Every claimant is then refused with reason FAULT, here in the order of
arrival, which is the model's choice (assumption 29). An axis that is OFF or in FAULT already does not change. An axis in FAULT
whose record has been acknowledged, whose drive station is PRESENT, ready and without fault, and with ESTOP_N released, is IDLE at
the drive's reported position, and its AXIS-FAULT condition ends; where one of these fails it stays. That the station must be
PRESENT then (assumption 19), and that the stored setpoint is that position with drive-enable off until the next step point
(assumption 14), are read from the rules (DEDUCED) (R77, R102, R103, R108, R114,
R117, R123, R124, R127). -/
def Obligations.FaultStopsTheAxis : Prop :=
  (∀ (p : Gx24) (a : Fin 8) (c : FaultCause),
    let x := axisOf a p
    let key : AlertKey := ⟨clsAxisFault, c.alert, lowestListing a p, none, some a⟩
    let refused (s : Gx24) (d : Claim) : Gx24 := match d.claimant with
      | .exhibit e =>
        if (runnerOf e s).state = .waitClaim ∧ (runnerOf e s).awaitedAxis = some a then
          Gx24.linkTaken e (actionAt (runnerOf e s).index s).link (growExhibit e .movesSkipped 1 s)
        else s
      | .headEnd => sendUp (moveReplyOf a .headEnd d.job .refused .fault) s
      | .maintenance => sendUp (moveReplyOf a .maintenance d.job .refused .fault) s
    let faulted (told : Gx24) : Gx24 :=
      raise key ((growAxis a c.counter (x.claims.foldl refused told)).withAxis a (fun x => x.faulted c key))
    let after (told : Gx24) := faultAxis a c p = if x.disabling then goOff a (faulted told) else faulted told
    (x.state = .off ∨ x.state = .fault → faultAxis a c p = p) ∧
    (x.state ≠ .off → x.state ≠ .fault →
      (∀ d ∈ x.claims, ∀ e, d.claimant = .exhibit e → ∀ b, b ≠ a → ownsAxis e b p = false) →
      (x.owner = none ∨ x.job = none → after p) ∧
      (∀ k o j, x.owner = some ⟨k, o⟩ → x.job = some j → k = .headEnd ∨ k = .maintenance →
        after (sendUp (moveReplyOf a k j .fault .none) p)) ∧
      (∀ e o, x.owner = some ⟨.exhibit e, o⟩ →
        ¬((runnerOf e p).state = .waitDone ∧ (runnerOf e p).awaitedAxis = some a) → after p) ∧
      (∀ e o j, x.owner = some ⟨.exhibit e, o⟩ → x.job = some j → (runnerOf e p).state = .waitDone →
        (runnerOf e p).awaitedAxis = some a → (∀ b, b ≠ a → ownsAxis e b p = false) →
        (∀ b, ∀ d ∈ (axisOf b p).claims, d.claimant ≠ .exhibit e) → after (p.chainAborted e)))) ∧
  (∀ (p : Gx24) (a : Fin 8),
    let x := axisOf a p
    let fit := ∃ st, x.params.drive = some st ∧ (stationOf st p).state = .present ∧ (stationOf st p).drive.ready = true ∧
      (stationOf st p).drive.fault = false
    (¬(x.state = .fault ∧ x.acked = true ∧ fit ∧ p.estop = false) → recoverTest a p = p) ∧
    ∀ st n key, x.state = .fault → x.acked = true → fit → p.estop = false → x.params.drive = some st →
      (stationOf st p).drive.position = some n → x.faultKey = some key → x.guardHeldKey = none →
      (guardIsOpen a p = false → recoverTest a p = endCondition key (p.withAxis a (fun x =>
        { x.recovered (n.toInt * 16) with guardOpen := false, guardOpenTime := 0 }))) ∧
      (guardIsOpen a p = true → x.guardOpen = true →
        recoverTest a p = endCondition key (p.withAxis a (fun x => x.recovered (n.toInt * 16)))))

/-! ### The clock and the gallery (chapters 8 and 9) -/

/-- A TICK frame with one of the three commands makes the clock LOCKED with silence 0 and its number the tick number, in
every state; where nothing counts, no cue is scheduled and the clock is not ISLAND it does nothing more but give STATUS,
and with OPEN in a CLOSED gallery open it with every timer reloaded. Another command code is a frame error (R153, R167,
R168, R181, R183). Where the tick number jumps, the opening may draw on the model's own record of free choices (assumption 2), which
stands outside the manual's state. -/
def Obligations.TickLocksTheClockAndGivesStatus : Prop :=
  ∀ (p : Gx24) (q : List Instr) (number : Word) (command : Byte), p.Quiet →
    let t := growTrunk .framesTaken p
    let locked (s : Gx24) := { s with gc := { s.gc with state := .locked, silence := 0, tick := number } }
    let reported (s : Gx24) :=
      let s := sendUp (.status (statusFrame s)) s
      { s with gc := { s.gc with missed := 0 } }
    (3 ≤ command.toNat → exec (.tick number command) ⟨p, q⟩ = .next ⟨growTrunk .frameErrors t, q⟩) ∧
    (command.toNat < 3 → ∃ u, exec (.tick number command) ⟨p, q⟩ = .next ⟨u, q⟩ ∧
      u.gc.state = .locked ∧ u.gc.silence = 0 ∧ u.gc.tick = number) ∧
    (p.NothingCounts → p.gc.schedule = [] → p.gc.state ≠ .island →
      (command = 0#8 ∨ (command = 1#8 ∧ p.ac.gallery ≠ .closed) ∨ (command = 2#8 ∧ p.ac.gallery = .closed) →
        exec (.tick number command) ⟨p, q⟩ = .next ⟨reported (locked t), q⟩) ∧
      (command = 1#8 → p.ac.gallery = .closed → ∃ cs n,
        exec (.tick number command) ⟨p, q⟩ = .next ⟨reported { locked t with
          ac := { t.ac with
            gallery := .opened, quiet := p.tp.quietReload
            idle := tmake fun e => (exhibitOf e p).record.idleReload }
          choices := cs, choicePoint := n }, q⟩ ∧
        (p.gc.state = .unsynced ∨ (number - p.gc.tick).toNat ≤ 1 ∨ 30000 < (number - p.gc.tick).toNat →
          cs = p.choices ∧ n = p.choicePoint)))

/-- An expiry of the local timer counts silence while the clock is LOCKED; the twentieth makes it ISLAND, as the command
ISLAND_ENTRY does; in ISLAND it is the next tick event, and UNSYNCED it is nothing (R166, R169, R170). Short of the twentieth
ISLAND_ENTRY changes nothing, which is the model's choice (assumption 5). -/
def Obligations.LocalTimerCountsSilenceOrTicks : Prop :=
  ∀ (p : Gx24) (q : List Instr), p.Quiet →
    (p.gc.state = .unsynced → exec .localTimerExpiry ⟨p, q⟩ = .next ⟨p, q⟩) ∧
    (p.gc.state = .locked → p.gc.silence + 1 < 20 →
      exec .localTimerExpiry ⟨p, q⟩ = .next ⟨{ p with gc := { p.gc with silence := p.gc.silence + 1 } }, q⟩) ∧
    (¬(p.gc.state = .locked ∧ 20 ≤ p.gc.silence + 1) → exec .islandEntry ⟨p, q⟩ = .next ⟨p, q⟩) ∧
    (p.gc.state = .locked → 20 ≤ p.gc.silence + 1 →
      exec .localTimerExpiry ⟨p, q⟩ = exec .islandEntry ⟨p, q⟩ ∧
      ∃ t, exec .islandEntry ⟨p, q⟩ = .next ⟨t, q⟩ ∧ t.gc.state = .island ∧ t.gc.silence = 20 ∧
        t.gc.tick = p.gc.tick + 1#16) ∧
    (p.gc.state = .island → p.NothingCounts → (∀ c ∈ p.gc.schedule, c.due ≠ p.gc.tick + 1#16) →
      exec .localTimerExpiry ⟨p, q⟩ = .next ⟨{ p with gc := { p.gc with tick := p.gc.tick + 1#16 } }, q⟩)

/-- A CUE frame is refused INVALID, RANGE or LATE in that order; one for the tick that is now is a SHOW request at once: missed at an
exhibit that is not PUBLIC or is held by a chain of SHOW or ATTENDANT origin, else it runs, and aborts a chain of lower origin, here
one that moves no axis; one ahead replaces the entry of its exhibit and due tick, or finds the schedule full, or enters it; each
case has its CUE-REPORT (R49, R52, R172, R173, R175, R176), which comes before the frames of the chain that starts: R182 leaves that
open, and it is the model's choice (assumption 31). -/
def Obligations.CueFrameIsScheduledOrRefused : Prop :=
  ∀ (p : Gx24) (q : List Instr) (due start : Word) (exhibit tag : Byte), p.Quiet → p.Addressed →
    let t := growTrunk .framesTaken p
    let report (tag : Byte) (r : CueResult) (s : Gx24) := sendUp (.cueReport exhibit due (some tag) r p.gc.tick) s
    (p.gc.state = .unsynced →
      exec (.cueFrame due exhibit start tag) ⟨p, q⟩ = .next ⟨report tag .invalid t, q⟩) ∧
    (p.gc.state ≠ .unsynced → 16 ≤ exhibit.toNat ∨ 512 ≤ start.toNat →
      exec (.cueFrame due exhibit start tag) ⟨p, q⟩ = .next ⟨report tag .range t, q⟩) ∧
    ∀ (e : Fin 16) (a : Fin 512), exhibit = byteOf e.val → start = BitVec.ofNat 16 a.val → p.gc.state ≠ .unsynced →
      (30000 < (due - p.gc.tick).toNat →
        exec (.cueFrame due exhibit start tag) ⟨p, q⟩ = .next ⟨report tag .late t, q⟩) ∧
      (due = p.gc.tick → (exhibitOf e p).mode ≠ .pub →
        exec (.cueFrame due exhibit start tag) ⟨p, q⟩ = .next ⟨report tag .notPublic
          { growExhibit e .showCuesMissed 1 t with gc := { p.gc with missed := min (p.gc.missed + 1) 255 } }, q⟩) ∧
      (∀ g, due = p.gc.tick → (exhibitOf e p).mode = .pub → (exhibitOf e p).grant = some g →
        g.origin = .showCue ∨ g.origin = .attendant →
        exec (.cueFrame due exhibit start tag) ⟨p, q⟩ = .next ⟨report tag .missedBusy
          { growExhibit e .showCuesMissed 1 t with gc := { p.gc with missed := min (p.gc.missed + 1) 255 } }, q⟩) ∧
      (let ran (s : Gx24) := settle (report tag .ran (Gx24.chainStarted e ⟨.showCue, none, none, entryIndex a, due⟩
        (growExhibit e .showCuesRun 1 s)))
       (due = p.gc.tick → (exhibitOf e p).mode = .pub → (exhibitOf e p).grant = none → (runnerOf e p).state = .free →
         exec (.cueFrame due exhibit start tag) ⟨p, q⟩ = .next ⟨ran t, q⟩) ∧
       (∀ g, due = p.gc.tick → (exhibitOf e p).mode = .pub → (exhibitOf e p).grant = some g →
         g.origin = .visitor ∨ g.origin = .attract → (runnerOf e p).state ≠ .free → p.MovesNothing e →
         exec (.cueFrame due exhibit start tag) ⟨p, q⟩ = .next ⟨ran (growExhibit e .aborted 1 t), q⟩)) ∧
      (1 ≤ (due - p.gc.tick).toNat → (due - p.gc.tick).toNat ≤ 30000 →
        (∀ old, p.gc.schedule.find? (fun c => c.names e due) = some old →
          exec (.cueFrame due exhibit start tag) ⟨p, q⟩ = .next ⟨report tag .accepted (report old.tag .replaced
            { t with gc := { p.gc with schedule := p.gc.schedule.map (fun c =>
              if c.names e due then ⟨due, e, a, tag⟩ else c) } }), q⟩) ∧
        ((∀ c ∈ p.gc.schedule, ¬(c.exhibit = e ∧ c.due = due)) → 32 ≤ p.gc.schedule.length →
          exec (.cueFrame due exhibit start tag) ⟨p, q⟩ = .next ⟨report tag .full t, q⟩) ∧
        ((∀ c ∈ p.gc.schedule, ¬(c.exhibit = e ∧ c.due = due)) → p.gc.schedule.length < 32 →
          exec (.cueFrame due exhibit start tag) ⟨p, q⟩ = .next ⟨report tag .accepted
            { t with gc := { p.gc with schedule := insertCue p.gc.tick ⟨due, e, a, tag⟩ p.gc.schedule } }, q⟩ ∧
          ∃ nearer farther, p.gc.schedule = nearer ++ farther ∧
            insertCue p.gc.tick ⟨due, e, a, tag⟩ p.gc.schedule = nearer ++ ⟨due, e, a, tag⟩ :: farther ∧
            (∀ c ∈ nearer, (c.due - p.gc.tick).toNat ≤ (due - p.gc.tick).toNat) ∧
            ∀ c, farther.head? = some c → (due - p.gc.tick).toNat < (c.due - p.gc.tick).toNat))

/-- A CUE-CANCEL removes the entry of its exhibit and due tick, the entries behind it keeping their order, and reports it
CANCELLED with its tag; where no entry matches, as after the cue has fired, or the exhibit is above 15, it is reported RANGE
without a tag and nothing is removed (R174). -/
def Obligations.CueCancelRemovesItsEntry : Prop :=
  ∀ (p : Gx24) (q : List Instr) (exhibit : Byte) (due : Word), p.Quiet → p.Addressed →
    let t := growTrunk .framesTaken p
    (16 ≤ exhibit.toNat ∨ (∀ c ∈ p.gc.schedule, ¬(c.exhibit.val = exhibit.toNat ∧ c.due = due)) →
      exec (.cueCancel exhibit due) ⟨p, q⟩ = .next ⟨sendUp (.cueReport exhibit due none .range p.gc.tick) t, q⟩) ∧
    ∀ (before after : List CueEntry) (c : CueEntry), p.gc.schedule = before ++ c :: after →
      exhibit = byteOf c.exhibit.val → due = c.due →
      (∀ d ∈ before ++ after, ¬(d.exhibit = c.exhibit ∧ d.due = c.due)) →
      exec (.cueCancel exhibit due) ⟨p, q⟩ = .next ⟨sendUp (.cueReport exhibit due (some c.tag) .cancelled p.gc.tick)
        { t with gc := { p.gc with schedule := before ++ after } }, q⟩

/-- A show cue that falls due leaves the schedule and is a SHOW request on its exhibit: missed and counted when the exhibit is
not PUBLIC, or is held by a chain of SHOW or ATTENDANT origin, else its chain starts, and aborts a chain of lower origin, here one
that moves no axis; the outcome is reported (R49, R52, R175, R176), before the frames of the chain that starts, which is the model's
choice (assumption 31). Without an entry due now or at the next tick, or in UNSYNCED, the
command changes nothing, which is the model's choice (assumption 5). -/
def Obligations.CueFireRunsOrMissesTheCue : Prop :=
  ∀ (p : Gx24) (q : List Instr) (e : Fin 16) (due : Word), p.Quiet →
    let found := p.gc.schedule.find? (fun c => c.names e due)
    let left := p.gc.schedule.filter (fun c => !c.names e due)
    (found = none ∨ 1 < (due - p.gc.tick).toNat ∨ p.gc.state = .unsynced → exec (.cueFire e due) ⟨p, q⟩ = .next ⟨p, q⟩) ∧
    ∀ c, found = some c → (due - p.gc.tick).toNat ≤ 1 → p.gc.state ≠ .unsynced →
      let missed (r : CueResult) := sendUp (.cueReport (byteOf e.val) due (some c.tag) r p.gc.tick)
        { growExhibit e .showCuesMissed 1 p with gc := { p.gc with
          schedule := left, missed := min (p.gc.missed + 1) 255 } }
      ((exhibitOf e p).mode ≠ .pub → exec (.cueFire e due) ⟨p, q⟩ = .next ⟨missed .notPublic, q⟩) ∧
      (∀ g, (exhibitOf e p).mode = .pub → (exhibitOf e p).grant = some g → g.origin = .showCue ∨ g.origin = .attendant →
        exec (.cueFire e due) ⟨p, q⟩ = .next ⟨missed .missedBusy, q⟩) ∧
      let ran (s : Gx24) := settle (sendUp (.cueReport (byteOf e.val) due (some c.tag) .ran p.gc.tick)
        (Gx24.chainStarted e ⟨.showCue, none, none, entryIndex c.start, due⟩
          { growExhibit e .showCuesRun 1 s with gc := { p.gc with schedule := left } }))
      ((exhibitOf e p).mode = .pub → (exhibitOf e p).grant = none → (runnerOf e p).state = .free →
        exec (.cueFire e due) ⟨p, q⟩ = .next ⟨ran p, q⟩) ∧
      (∀ g, (exhibitOf e p).mode = .pub → (exhibitOf e p).grant = some g → g.origin = .visitor ∨ g.origin = .attract →
        (runnerOf e p).state ≠ .free → p.MovesNothing e →
        exec (.cueFire e due) ⟨p, q⟩ = .next ⟨ran (growExhibit e .aborted 1 p), q⟩)

/-- The last count of the quiet timer makes an OPEN gallery QUIET, here with no ATTRACT chain to abort. The last count of an
exhibit's idle timer empties its stories and reloads the timer, and in an OPEN gallery an IDLE exhibit with an attract start
begins its ATTRACT chain (R54, R155, R158, R160). Elsewhere, and in UNSYNCED, where there are no tick events, the commands change
nothing, which is the model's choice (assumption 5). -/
def Obligations.QuietAndIdleTimersExpire : Prop :=
  ∀ (p : Gx24) (q : List Instr), p.Quiet →
    let quietDue := p.gc.state ≠ .unsynced ∧ p.ac.gallery = .opened ∧ 0 < p.tp.quietReload ∧ p.ac.quiet ≤ 1
    (¬quietDue → exec .quietTimerExpiry ⟨p, q⟩ = .next ⟨p, q⟩) ∧
    (quietDue →
      (∀ e g, (exhibitOf e p).grant = some g → g.origin ≠ .attract) →
      exec .quietTimerExpiry ⟨p, q⟩ = .next ⟨{ p with ac := { p.ac with gallery := .quiet, quiet := 0 } }, q⟩) ∧
    ∀ e : Fin 16,
      let due := p.gc.state ≠ .unsynced ∧ idleCounts e p = true ∧ tget p.ac.idle e ≤ 1
      (¬due → exec (.idleExpiry e) ⟨p, q⟩ = .next ⟨p, q⟩) ∧
      (due → p.ac.gallery ≠ .opened ∨ (exhibitOf e p).record.attract = none →
        exec (.idleExpiry e) ⟨p, q⟩ = .next ⟨Gx24.idleReloaded e (Gx24.storiesCleared e p), q⟩) ∧
      (∀ a, due → p.ac.gallery = .opened → (exhibitOf e p).record.attract = some a → (exhibitOf e p).activity = .idle →
        (exhibitOf e p).grant = none →
        exec (.idleExpiry e) ⟨p, q⟩ = .next ⟨settle (Gx24.idleReloaded e (Gx24.chainStarted e
          ⟨.attract, none, none, entryIndex a, p.gc.tick⟩
          (growExhibit e .attractRuns 1 (Gx24.storiesCleared e p)))), q⟩)

/-! ### Management (chapter 10) -/

/-- A table write whose row number is beyond its table, or whose contents do not decode, is answered RANGE with the row as it
stands, and changes nothing, in every writable table (R184, R185, R191; 11.4). For a row number beyond its table the reply has no
contents, which is read from the rules (assumption 11). -/
def Obligations.WritesOutOfRangeAreRefused : Prop :=
  ∀ (p : Gx24) (q : List Instr) (tag : Byte) (row : Word) (c : List Byte), p.Quiet → p.Addressed →
    let refused (id : Nat) : Gx24 := replyTable tag 2#8 .range id row (growTrunk .framesTaken p)
    (24 ≤ row.toNat ∨ stationRowOf c = none → exec (.stationRowWrite tag row c) ⟨p, q⟩ = .next ⟨refused 1, q⟩) ∧
    (32 ≤ row.toNat ∨ (∀ b, c = [b] → 24 ≤ b.toNat ∧ b ≠ 0xFF#8) →
      exec (.sweepScheduleWrite tag row c) ⟨p, q⟩ = .next ⟨refused 2, q⟩) ∧
    (192 ≤ row.toNat ∨ (∀ b, c = [b] → 128 ≤ b.toNat ∧ b ≠ 0xFF#8) →
      exec (.inputMapWrite tag row c) ⟨p, q⟩ = .next ⟨refused 3, q⟩) ∧
    (128 ≤ row.toNat ∨ triggerRowOf c = none → exec (.triggerRowWrite tag row c) ⟨p, q⟩ = .next ⟨refused 4, q⟩) ∧
    (512 ≤ row.toNat ∨ actionContentsOf c = none → exec (.actionEntryWrite tag row c) ⟨p, q⟩ = .next ⟨refused 6, q⟩) ∧
    (16 ≤ row.toNat ∨ exhibitRecordOf c = none → exec (.exhibitConfigWrite tag row c) ⟨p, q⟩ = .next ⟨refused 7, q⟩) ∧
    (8 ≤ row.toNat ∨ axisRowOf c = none → exec (.axisParameterWrite tag row c) ⟨p, q⟩ = .next ⟨refused 8, q⟩) ∧
    (64 ≤ row.toNat ∨ programOf c = none → exec (.programWrite tag row c) ⟨p, q⟩ = .next ⟨refused 9, q⟩) ∧
    (256 ≤ row.toNat ∨ segmentOf c = none → exec (.segmentWrite tag row c) ⟨p, q⟩ = .next ⟨refused 10, q⟩) ∧
    (16 ≤ row.toNat ∨ (∀ cls, alertClassOf cls c = none) → exec (.alertClassWrite tag row c) ⟨p, q⟩ = .next ⟨refused 11, q⟩) ∧
    (4 ≤ row.toNat ∨ (∀ b, c = [b] → 16 ≤ b.toNat) → exec (.zoneNeighbourWrite tag row c) ⟨p, q⟩ = .next ⟨refused 12, q⟩) ∧
    (row ≠ 0#16 ∨ settingsOf c = none → exec (.settingsWrite tag row c) ⟨p, q⟩ = .next ⟨refused 15, q⟩)

/-- A write to the tables of the branch and of presses is refused LIVE while what it would change is in use and INVALID where
its contents make no sense, and otherwise replaces the row and is answered OK with the row as it then stands (R1, R2, R7,
R24, R25, R38, R40, R41, R64). Nothing else hangs on the stations here. -/
def Obligations.PressPathTablesAreWritten : Prop :=
  ∀ (p : Gx24) (q : List Instr) (tag : Byte), p.Quiet → p.Addressed →
    let t := growTrunk .framesTaken p
    let answer (id row : Nat) (code : ReplyCode) (s : Gx24) : Gx24 := replyTable tag 2#8 code id (BitVec.ofNat 16 row) s
    (∀ (st : Fin 24) (r : StationRow),
      let old := rowOf st p
      let done := exec (.stationRowWrite tag (BitVec.ofNat 16 st.val) r.bytes) ⟨p, q⟩
      let stored := { t with bs := { t.bs with rows := tput t.bs.rows st r } }
      ((old.enabled = true ∧ r.enabled = false) ∨ old.kind ≠ r.kind → (∃ a, usesStation a st p = true) →
        done = .next ⟨answer 1 st.val .live t, q⟩) ∧
      (r.enabled = old.enabled → r.kind = old.kind → r.zone = old.zone → done = .next ⟨answer 1 st.val .ok stored, q⟩) ∧
      (old.enabled = false → r.enabled = true → r.kind ≠ .beacon → p.Unattached st →
        done = .next ⟨answer 1 st.val .ok (stored.withStation st (fun x => { x with state := .joining, missCount := 0 })), q⟩)) ∧
    (∀ (i : Fin 32) (new : Option (Fin 24)),
      let done := exec (.sweepScheduleWrite tag (BitVec.ofNat 16 i.val) [optByte (new.map (·.val))]) ⟨p, q⟩
      let stored := { t with bs := { t.bs with schedule := tput t.bs.schedule i new } }
      (∀ st, tget p.bs.schedule i = some st → hasSlot st stored = false → (axisOnDrive st p).isSome →
        done = .next ⟨answer 2 i.val .live t, q⟩) ∧
      ((∀ st, tget p.bs.schedule i = some st → p.Unattached st) → (∀ st, new = some st → p.Unattached st) →
        done = .next ⟨answer 2 i.val .ok stored, q⟩)) ∧
    (∀ (i : Fin 192) (new : Option (Fin 128)),
      let done := exec (.inputMapWrite tag (BitVec.ofNat 16 i.val) [optByte (new.map (·.val))]) ⟨p, q⟩
      let used := inPublicUse (mappedExhibit (tget p.pd.inputMap i) p) p || inPublicUse (mappedExhibit new p) p
      (used = true → done = .next ⟨answer 3 i.val .live t, q⟩) ∧
      (used = false → done = .next ⟨answer 3 i.val .ok
        { t with pd := { t.pd with inputMap := tput t.pd.inputMap i new } }, q⟩)) ∧
    (∀ (i : Fin 128) (r : TriggerRow),
      let done := exec (.triggerRowWrite tag (BitVec.ofNat 16 i.val) r.bytes) ⟨p, q⟩
      let used := inPublicUse (triggerOf i p).exhibit p || inPublicUse r.exhibit p
      (used = true → done = .next ⟨answer 4 i.val .live t, q⟩) ∧
      (used = false → done = .next ⟨answer 4 i.val .ok { t with pd := { t.pd with
        rows := tput t.pd.rows i r, continuation := tput t.pd.continuation i none } }, q⟩)) ∧
    (∀ (i : Fin 512) (c : List Byte) (x : ActionContents), actionContentsOf c = some x →
      let done := exec (.actionEntryWrite tag (BitVec.ofNat 16 i.val) c) ⟨p, q⟩
      let used := ∃ e, (runnerOf e p).state ≠ .free ∧ (runnerOf e p).index.val = i.val
      (used → done = .next ⟨answer 6 i.val .live t, q⟩) ∧
      (¬used → x = .hardwareAlert → done = .next ⟨answer 6 i.val .invalid t, q⟩) ∧
      (∀ a, ¬used → x = .entry a → done = .next ⟨answer 6 i.val .ok
        { t with cr := { t.cr with actions := tput t.cr.actions i a } }, q⟩)) ∧
    (∀ (e : Fin 16) (r : ExhibitRecord), r.loadable →
      let done := exec (.exhibitConfigWrite tag (BitVec.ofNat 16 e.val) r.bytes) ⟨p, q⟩
      let x := exhibitOf e p
      let used := x.mode = .pub ∨ x.mode = .held ∨ dropsHeldAxis e r.axes p = true
      let senseless := (∃ a, r.axes = [a, a]) ∨ listedByThree e r.axes p = true
      let stored := t.withExhibit e (fun x => { x with record := r })
      (used → done = .next ⟨answer 7 e.val .live t, q⟩) ∧
      (¬used → senseless → done = .next ⟨answer 7 e.val .invalid t, q⟩) ∧
      (¬used → ¬senseless → r.lamp = x.record.lamp ∨ r.lamp = none → done = .next ⟨answer 7 e.val .ok stored, q⟩) ∧
      (∀ st out, ¬used → ¬senseless → r.lamp ≠ x.record.lamp → r.lamp = some (st, out) →
        done = .next ⟨answer 7 e.val .ok (stored.withStation st (fun x => { x with lamps := tput x.lamps out .off })), q⟩))

/-- A taken write that enables a station makes it JOINING without misses; one that disables it makes it ABSENT, and one that changes
the kind of an enabled station makes it JOINING, its beacon DARK and its drive data none reported; either ends a STATION-LOST
condition, discards its pending cue and has a reply still awaited from it discarded. Another write changes the row alone. A station
that has become a BEACON, or a BEACON with a new zone, is given its zone's pattern (R1, R2, R141). Nothing else hangs on the station
here, so the order of these effects is not seen; the reply comes before a held set that the end of the condition gives is taken,
which is the model's choice (assumption 31). -/
def Obligations.StationRowWritesMoveTheStation : Prop :=
  ∀ (p : Gx24) (q : List Instr) (tag : Byte) (st : Fin 24) (r : StationRow), p.Quiet → p.Addressed → p.Unattached st →
    let t := growTrunk .framesTaken p
    let old := rowOf st p
    let done := exec (.stationRowWrite tag (BitVec.ofNat 16 st.val) r.bytes) ⟨p, q⟩
    let stored := { t with bs := { t.bs with rows := tput t.bs.rows st r } }
    let shown (s : Gx24) : Gx24 := if r.kind = .beacon ∧ (old.kind ≠ .beacon ∨ old.zone ≠ r.zone) then
      s.withStation st (fun x => { x with beacon := tget s.au.patterns r.zone }) else s
    let answer (s : Gx24) := settle (replyTable tag 2#8 .ok 1 (BitVec.ofNat 16 st.val) (shown s))
    let withdrawn (f : Station → Station) : Gx24 :=
      let s := { stored with bs := { stored.bs with awaiting := stored.bs.awaiting.map (fun (w : Awaiting) =>
        if w.station = st then { w with discard := true } else w) } }.withStation st (fun x => { f x with lostKey := none })
      let s := match (stationOf st p).lostKey with | some key => endCondition key s | none => s
      s.withStation st (fun x => { x with cue := none })
    (old.enabled = false → r.enabled = true →
      done = .next ⟨answer (stored.withStation st (fun x => { x with state := .joining, missCount := 0 })), q⟩) ∧
    (old.enabled = true → r.enabled = false →
      done = .next ⟨answer (withdrawn (fun x => { x with state := .absent })), q⟩) ∧
    (old.enabled = true → r.enabled = true → old.kind ≠ r.kind →
      done = .next ⟨answer (withdrawn (fun x => { x with
        state := .joining, missCount := 0, beacon := .dark, drive := .none })), q⟩) ∧
    (old.enabled = r.enabled → old.kind = r.kind ∨ r.enabled = false → done = .next ⟨answer stored, q⟩)

/-- A write whose clamped fields are out of their ranges is the write of the row with them brought into range: an exhibit's idle
reload and queue depth; the ticks of a WAIT, the timeout of a REFER and the amount of a COUNT; an axis's acceleration, follow limit,
guard settle and claim timeout; a segment's cruise; a class's interval. The hold and acknowledge-required fields of ESTOP and
AXIS-FAULT, and the acknowledge-required field of the momentary classes, are forced to yes. The read-only fields of an axis row are
ignored, and a FREE entry keeps nothing of what was written with it (R40, R64, R88, R90, R130, R191). That its links are not even
tested is read from the rules (assumption 30). -/
def Obligations.WritesAreClampedAndForced : Prop :=
  ∀ (s : State) (tag : Byte) (row : Word),
    (∀ (r : ExhibitRecord) (n1 n0 d : Byte), r.loadable →
      exec (.exhibitConfigWrite tag row (((r.bytes.set 3 n1).set 4 n0).set 7 d)) s =
        exec (.exhibitConfigWrite tag row
          { r with idleReload := min 9999 (wordOf n1 n0).toNat, depth := min 4 d.toNat }.bytes) s) ∧
    (∀ (a b c d e f : Byte) (l stop : Link) (verdict : Verdict) (counter : Fin 64),
      exec (.actionEntryWrite tag row ([5#8, a, b, c, d] ++ wordBytes l.word ++ [e, f])) s =
        exec (.actionEntryWrite tag row (Action.wait (max 1 a.toNat) l).bytes) s ∧
      exec (.actionEntryWrite tag row ([8#8, a, b, verdict.code, d] ++ wordBytes l.word ++ wordBytes stop.word)) s =
        exec (.actionEntryWrite tag row (Action.refer a (max 1 (min 50 b.toNat)) verdict l stop).bytes) s ∧
      exec (.actionEntryWrite tag row ([9#8, byteOf counter.val, b, c, d] ++ wordBytes l.word ++ [e, f])) s =
        exec (.actionEntryWrite tag row (Action.count counter (max 1 (min 15 b.toNat)) l).bytes) s) ∧
    (∀ rest : List Byte, rest.length = 8 →
      exec (.actionEntryWrite tag row (0#8 :: rest)) s = exec (.actionEntryWrite tag row Action.free.bytes) s) ∧
    (∀ (r : AxisParams) (a1 a0 f1 f0 settle claim : Byte) (ignored : List Byte), r.loadable →
      ignored = [] ∨ ignored.length = 5 →
      exec (.axisParameterWrite tag row ((((((((r.bytes.set 1 a1).set 2 a0).set 7 f1).set 8 f0).set 12 settle).set 14 claim))
          ++ ignored)) s =
        exec (.axisParameterWrite tag row { r with
          accel := max 1 (min 1023 (wordOf a1 a0).toNat), followLimit := max 1 (min 4095 (wordOf f1 f0).toNat)
          guardSettle := max 1 settle.toNat, claimTimeout := max 1 claim.toNat }.bytes) s) ∧
    (∀ (g : Segment) (c1 c0 : Byte), g.loadable →
      exec (.segmentWrite tag row ((g.bytes.set 2 c1).set 3 c0)) s =
        exec (.segmentWrite tag row { g with cruise := max 1 (min 511 (wordOf c1 c0).toNat) }.bytes) s) ∧
    (∀ (cls : Fin 16) (r : AlertClass) (h k n1 n0 : Byte), r.loadable cls → row = BitVec.ofNat 16 cls.val →
      let forced := cls = clsEstop ∨ cls = clsAxisFault
      let momentary := cls = clsHelp ∨ cls = clsCrowding ∨ cls = clsChainFault ∨ 8 ≤ cls.val
      exec (.alertClassWrite tag row ((((r.bytes.set 1 h).set 2 k).set 3 n1).set 4 n0)) s =
        exec (.alertClassWrite tag row { r with
          hold := h.getLsbD 0 || decide forced, ackRequired := k.getLsbD 0 || decide (forced ∨ momentary)
          interval := min 9999 (wordOf n1 n0).toNat }.bytes) s)

/-- A write to the tables of motion, alerts and settings is refused LIVE while what it would change is in use and INVALID
where its contents make no sense, and otherwise replaces the row and is answered OK with the row as it then stands; a changed
quiet reload reloads the quiet timer, and a zone neighbour write has the beacons rendered (R88, R89, R90, R130, R138, R157,
R186). -/
def Obligations.MotionAlertAndSettingsTablesAreWritten : Prop :=
  ∀ (p : Gx24) (q : List Instr) (tag : Byte), p.Quiet → p.Addressed →
    let t := growTrunk .framesTaken p
    let answer (id row : Nat) (code : ReplyCode) (s : Gx24) : Gx24 := replyTable tag 2#8 code id (BitVec.ofNat 16 row) s
    (∀ (a : Fin 8) (r : AxisParams), r.loadable →
      let done := exec (.axisParameterWrite tag (BitVec.ofNat 16 a.val) r.bytes) ⟨p, q⟩
      let senseless := r.softMax < r.softMin ∨
        ∃ b st, b ≠ a ∧ r.drive = some st ∧ (axisOf b p).params.drive = some st
      ((axisOf a p).state ≠ .off → done = .next ⟨answer 8 a.val .live t, q⟩) ∧
      ((axisOf a p).state = .off → senseless → done = .next ⟨answer 8 a.val .invalid t, q⟩) ∧
      ((axisOf a p).state = .off → ¬senseless →
        done = .next ⟨answer 8 a.val .ok (t.withAxis a (fun x => { x with params := r })), q⟩)) ∧
    (∀ (i : Fin 64) (r : Program), within 1 16 r.count →
      let done := exec (.programWrite tag (BitVec.ofNat 16 i.val) r.bytes) ⟨p, q⟩
      (programActive i p = true → done = .next ⟨answer 9 i.val .live t, q⟩) ∧
      (programActive i p = false → done = .next ⟨answer 9 i.val .ok
        { t with mu := { t.mu with programs := tput t.mu.programs i r } }, q⟩)) ∧
    (∀ (i : Fin 256) (r : Segment), r.loadable →
      let done := exec (.segmentWrite tag (BitVec.ofNat 16 i.val) r.bytes) ⟨p, q⟩
      (segmentActive i p = true → done = .next ⟨answer 10 i.val .live t, q⟩) ∧
      (segmentActive i p = false → done = .next ⟨answer 10 i.val .ok
        { t with mu := { t.mu with segments := tput t.mu.segments i r } }, q⟩)) ∧
    (∀ (i : Fin 16) (r : AlertClass), r.loadable i →
      exec (.alertClassWrite tag (BitVec.ofNat 16 i.val) r.bytes) ⟨p, q⟩ = .next ⟨answer 11 i.val .ok
        { t with au := { t.au with classes := tput t.au.classes i r } }, q⟩) ∧
    (∀ (z : Fin 4) (r : ZoneSet),
      exec (.zoneNeighbourWrite tag (BitVec.ofNat 16 z.val) [byteOf (bitsOf r)]) ⟨p, q⟩ = .next ⟨answer 12 z.val .ok
        (render { t with au := { t.au with neighbours := tput t.au.neighbours z r } }), q⟩) ∧
    (∀ (period : Fin 4) (n : Nat), n ≤ 65535 →
      exec (.settingsWrite tag 0#16 (byteOf period.val :: natBytes n)) ⟨p, q⟩ = .next ⟨answer 15 0
        .ok { t with
          tp := { t.tp with period := period, quietReload := n }
          ac := if n = p.tp.quietReload then t.ac else { t.ac with quiet := n } }, q⟩)

/-- A TABLE-READ is answered OK with the row as its owner reads it, or RANGE where there is no such row or the body is longer; a
TABLE-WRITE to a read-only table is answered READ-ONLY with the row as it stands, whatever its length, and one to a table that does
not exist RANGE; a body too short to name a row, and an operation the part does not know, are answered RANGE. A reply that finds 64
frames waiting is dropped and counted (R182, R184, R185, R191). What such a reply carries of table, row and contents, where the body
names none or there is no such row, is read from the rules (assumption 11). -/
def Obligations.ReadsAndUnknownOperationsAreAnswered : Prop :=
  ∀ (p : Gx24) (q : List Instr) (tag : Byte), p.Quiet → p.Addressed →
    let t := growTrunk .framesTaken p
    let answer (f : UpFrame) : Gx24 :=
      if p.tp.upQueue.length < 64 then { t with tp := { t.tp with upQueue := t.tp.upQueue ++ [f] } }
      else growTrunk .upFramesDropped t
    (∀ (id r1 r0 : Byte) (c : List Byte), readRow id.toNat (wordOf r1 r0).toNat t = some c →
      exec (.tableRead tag [id, r1, r0]) ⟨p, q⟩ = .next ⟨answer (.mgmtReply tag 1#8 .ok id (wordOf r1 r0) c), q⟩) ∧
    (∀ (id r1 r0 : Byte), readRow id.toNat (wordOf r1 r0).toNat t = none →
      exec (.tableRead tag [id, r1, r0]) ⟨p, q⟩ = .next ⟨answer (.mgmtReply tag 1#8 .range id (wordOf r1 r0) []), q⟩) ∧
    (∀ (id r1 r0 x : Byte) (more : List Byte), exec (.tableRead tag (id :: r1 :: r0 :: x :: more)) ⟨p, q⟩ =
      .next ⟨answer (.mgmtReply tag 1#8 .range id (wordOf r1 r0) ((readRow id.toNat (wordOf r1 r0).toNat t).getD [])), q⟩) ∧
    (∀ (id : Byte) (part : List Byte), part.length ≤ 1 →
      exec (.tableRead tag (id :: part)) ⟨p, q⟩ = .next ⟨answer (.mgmtReply tag 1#8 .range id 0#16 []), q⟩ ∧
      exec (.tableWrite tag (id :: part)) ⟨p, q⟩ = .next ⟨answer (.mgmtReply tag 2#8
        (if id.toNat = 5 ∨ id.toNat = 13 ∨ id.toNat = 14 ∨ id.toNat = 16 then .readOnly else .range) id 0#16 []), q⟩) ∧
    exec (.tableRead tag []) ⟨p, q⟩ = .next ⟨answer (.mgmtReply tag 1#8 .range 0#8 0#16 []), q⟩ ∧
    exec (.tableWrite tag []) ⟨p, q⟩ = .next ⟨answer (.mgmtReply tag 2#8 .range 0#8 0#16 []), q⟩ ∧
    (∀ (id r1 r0 : Byte) (c : List Byte), id.toNat = 5 ∨ id.toNat = 13 ∨ id.toNat = 14 ∨ id.toNat = 16 →
      exec (.tableWrite tag (id :: r1 :: r0 :: c)) ⟨p, q⟩ = .next ⟨answer (.mgmtReply tag 2#8 .readOnly id (wordOf r1 r0)
        ((readRow id.toNat (wordOf r1 r0).toNat t).getD [])), q⟩) ∧
    (∀ (id r1 r0 : Byte) (c : List Byte), id.toNat = 0 ∨ 16 < id.toNat →
      exec (.tableWrite tag (id :: r1 :: r0 :: c)) ⟨p, q⟩ = .next ⟨answer (.mgmtReply tag 2#8 .range id (wordOf r1 r0) []), q⟩) ∧
    (∀ op body, exec (.mgmtUnknownOperation tag op body) ⟨p, q⟩ = .next ⟨answer (.mgmtReply tag op .range 0#8 0#16 []), q⟩)

/-- EXHIBIT-MODE: a malformed body is answered RANGE and a HELD target INVALID; the mode the exhibit has is answered OK and
kept; PUBLIC is refused INVALID naming the first failure of the check, and otherwise entered, as HELD when the held set names
the exhibit; SERVICE or DARK from PUBLIC or HELD empties the queue, ends COOLDOWN and aborts the chain, here one that moves no axis;
a move into or out of DARK has the beacons and SUPERVISOR rendered (R38, R42 to R45, R48, R145, R159). That a HELD target is INVALID
at a HELD exhibit too (assumption 26), and row 0 in each reply (assumption 11), are read from the rules. -/
def Obligations.ExhibitModeOpensAndCloses : Prop :=
  ∀ (p : Gx24) (q : List Instr) (tag : Byte), p.Quiet → p.Addressed →
    let t := growTrunk .framesTaken p
    let answer (code : ReplyCode) (c : List Byte) (s : Gx24) : Gx24 := sendUp (.mgmtReply tag 3#8 code 0#8 0#16 c) s
    (∀ body, (∀ x m, body = [x, m] → 16 ≤ x.toNat ∨ 4 ≤ m.toNat) →
      exec (.exhibitMode tag body) ⟨p, q⟩ = .next ⟨answer .range [] t, q⟩) ∧
    ∀ e : Fin 16,
      let x := exhibitOf e p
      let set (m : Mode) := exec (.exhibitMode tag [byteOf e.val, m.code]) ⟨p, q⟩
      let shown (m : Mode) (s : Gx24) : Gx24 :=
        if x.mode = .dark ∨ m = .dark then render (Gx24.modeShown e m s) else Gx24.modeShown e m s
      let idle := (runnerOf e p).state = .free
      let aborted (s : Gx24) : Gx24 := if idle then s else (growExhibit e .aborted 1 s).withRunner e Runner.emptied
      set .held = .next ⟨answer .invalid [] t, q⟩ ∧
      (x.mode = .pub ∨ x.mode = .held → set .pub = .next ⟨answer .ok [] t, q⟩) ∧
      (x.mode = .dark → set .dark = .next ⟨answer .ok [] t, q⟩) ∧ (x.mode = .service → set .service = .next ⟨answer .ok [] t, q⟩) ∧
      (x.mode = .dark → set .service = .next ⟨answer .ok [] (shown .service t), q⟩) ∧
      (x.mode = .service → set .dark = .next ⟨answer .ok [] (shown .dark t), q⟩) ∧
      (∀ b, x.mode = .dark ∨ x.mode = .service → publicCheck e p = some b → set .pub = .next ⟨answer .invalid [b] t, q⟩) ∧
      (x.mode = .dark ∨ x.mode = .service → publicCheck e p = none → set .pub = .next ⟨answer .ok [] (Gx24.idleReloaded e
        (shown (if tget (currentHeld p) e then .held else .pub)
          (t.withExhibit e (fun x => { x with flood := 0, activity := .idle })))), q⟩) ∧
      (∀ m, m = .service ∨ m = .dark → x.mode = .pub ∨ x.mode = .held → idle ∨ p.MovesNothing e →
        set m = .next ⟨answer .ok [] (Gx24.idleReloaded e (shown m
          ((aborted (growExhibit e .cleared x.queue.length t)).withExhibit e (fun x => { x with
            queue := [], cooldown := 0, activity := .idle, grant := none })))), q⟩)

/-- SNAPSHOT copies every live counter, value and mark, into the bank with the tick number and the clear flag, and with the
clear flag every live counter becomes 0 without mark; it changes nothing else and is answered OK. A body of another length
is answered RANGE and copies nothing (R162, R184). Row 0 in each reply is read from the rules (assumption 11). -/
def Obligations.SnapshotCopiesAndClears : Prop :=
  ∀ (p : Gx24) (q : List Instr) (tag : Byte), p.Quiet → p.Addressed →
    let t := growTrunk .framesTaken p
    let answer (code : ReplyCode) (s : Gx24) : Gx24 := sendUp (.mgmtReply tag 5#8 code 0#8 0#16 []) s
    (∀ flag : Byte, exec (.snapshot tag [flag]) ⟨p, q⟩ = .next ⟨answer .ok { t with
      ac := { t.ac with bank := ⟨true, t.gc.tick, flag.getLsbD 0, t.counters⟩ }
      counters := if flag.getLsbD 0 then .zero else t.counters }, q⟩) ∧
    (∀ body, body.length ≠ 1 → exec (.snapshot tag body) ⟨p, q⟩ = .next ⟨answer .range t, q⟩)

/-- RESET-WARM returns every block to its warm values and keeps every table, setting and counter: no exhibit is open, every
axis is OFF, every runner free, every alert slot FREE with its generation kept, the gallery CLOSED, the schedule empty; the
reply follows. CLEAR-COLD clears the cold flag. A body that is not empty is answered RANGE (R22, R39, R62, R87, R106, R129,
R152, R165, R178, R184, R187, R188). No condition is present here to be raised again. Row 0 in each
reply is read from the rules (assumption 11). -/
def Obligations.WarmResetKeepsTheTables : Prop :=
  ∀ (p : Gx24) (q : List Instr) (tag : Byte), p.Quiet → p.Addressed →
    let t := growTrunk .framesTaken p
    let answer (op : Byte) (code : ReplyCode) (s : Gx24) : Gx24 := sendUp (.mgmtReply tag op code 0#8 0#16 []) s
    (∀ body, body ≠ [] → exec (.resetWarm tag body) ⟨p, q⟩ = .next ⟨answer 6#8 .range t, q⟩ ∧
      exec (.clearCold tag body) ⟨p, q⟩ = .next ⟨answer 7#8 .range t, q⟩) ∧
    exec (.clearCold tag []) ⟨p, q⟩ = .next ⟨answer 7#8 .ok { t with tp := { t.tp with coldFlag := false } }, q⟩ ∧
    (p.estop = false → (∀ st, (stationOf st p).state ≠ .lost) → p.gc.state ≠ .island →
      ∃ u, exec (.resetWarm tag []) ⟨p, q⟩ = .next ⟨answer 6#8 .ok u, q⟩ ∧ p.SameTables u ∧ u.tp = p.tp ∧ u.counters = t.counters ∧
        (∀ e, (exhibitOf e u).mode = (if (exhibitOf e p).mode = .dark then .dark else .service) ∧
          (exhibitOf e u).activity = .idle ∧ (exhibitOf e u).grant = none ∧ (exhibitOf e u).queue = [] ∧
          (exhibitOf e u).cooldown = 0 ∧ (exhibitOf e u).flood = 0 ∧ (runnerOf e u).state = .free ∧
          (runnerOf e u).lastReferral = (runnerOf e p).lastReferral) ∧
        (∀ a, (axisOf a u).state = .off ∧ (axisOf a u).owner = none ∧ (axisOf a u).claims = [] ∧
          (axisOf a u).setpoint = none ∧ (axisOf a u).position = (axisOf a p).position) ∧
        (∀ st, (stationOf st u).state = (if (stationOf st p).state = .present then .joining else (stationOf st p).state) ∧
          (stationOf st u).missCount = 0 ∧ (stationOf st u).cue = none ∧ (stationOf st u).beacon = .dark ∧
          (stationOf st u).levels = (stationOf st p).levels) ∧
        (∀ i, tget u.au.slots i = ⟨(tget p.au.slots i).generation, none⟩) ∧ (∀ z, tget u.au.patterns z = .dark) ∧
        (∀ r, tget u.pd.continuation r = none) ∧ u.gc.schedule = [] ∧ u.gc.tick = p.gc.tick ∧ u.gc.state = p.gc.state ∧
        u.ac.gallery = .closed ∧ u.ac.bank = p.ac.bank ∧ u.motionPower = true ∧ u.supervisor = false ∧ u.bs.query = none)

/-! ### The trunk and the pins -/

/-- The frame at the head of the up queue is sent whole and removed, and the sending counted; with nothing waiting nothing
happens. A down frame is discarded by the first check it fails, and counted there alone: the CRC, a payload above 250 bytes
among its failures; a destination that is neither the node nor the broadcast; a type that is no down type, or another than
TICK at the broadcast destination; a length that disagrees with the type (R180, R182, R189). -/
def Obligations.TrunkSendsItsHeadAndCountsDiscards : Prop :=
  (∀ (p : Gx24) (q : List Instr), p.Quiet →
     (p.tp.upQueue = [] → exec .upFrameSent ⟨p, q⟩ = .next ⟨p, q⟩) ∧
     ∀ f rest, p.tp.upQueue = f :: rest →
       exec .upFrameSent ⟨p, q⟩ = .next ⟨growTrunk .upFramesSent { p with
         trunkOut := f.line p.tp.node, tp := { p.tp with upQueue := rest } }, q⟩) ∧
  (∀ (p : Gx24) (q : List Instr), p.Quiet →
     (∀ line, checkedFrame 3 (unescape line) = none →
       exec (.downFrameDiscarded line) ⟨p, q⟩ = .next ⟨growTrunk .crcErrors p, q⟩) ∧
     ∀ (address type : Byte) (payload : List Byte),
       let done := exec (.downFrameDiscarded
         ((lineBytes ([address, type, byteOf payload.length] ++ payload)).drop 1)) ⟨p, q⟩
       (250 < payload.length → payload.length ≤ 255 → done = .next ⟨growTrunk .crcErrors p, q⟩) ∧
       (payload.length ≤ 250 →
         (address ≠ byteOf p.tp.node.toNat → address ≠ 15#8 → done = .next ⟨growTrunk .foreignFrames p, q⟩) ∧
         (address = byteOf p.tp.node.toNat ∨ address = 15#8 →
           isDownType type = false ∨ (address = 15#8 ∧ type ≠ 1#8) → done = .next ⟨growTrunk .typeErrors p, q⟩) ∧
         (address = byteOf p.tp.node.toNat ∨ address = 15#8 → isDownType type = true → (address = 15#8 → type = 1#8) →
           lengthAgrees type payload.length = false → done = .next ⟨growTrunk .lengthErrors p, q⟩)))

/-- A cold reset gives every block its cold values, reads the straps, and keeps only the level of ESTOP_N; while that is
asserted it raises ESTOP at once, and MOTION_PWR stays off and every zone is RED (R125, R126, R128, R151, R179, R187). While RESET_N
is asserted MOTION_PWR and SUPERVISOR are deasserted and every command but the pins' own is without effect (R187); that the blocks
stand at their cold values meanwhile is the model's choice (assumption 7). The cold values no rule states are the model's too
(assumption 18), and what it draws its free choices from stays (assumption 2). -/
def Obligations.ColdResetGivesTheColdValues : Prop :=
  ∀ (p : Gx24) (q : List Instr),
    let low (node : Serial) (estop : Bool) : Gx24 := { Gx24.cold node with
      resetLow := true, motionPower := false, estop := estop, choices := p.choices, choicePoint := p.choicePoint }
    exec (.coldReset none) ⟨p, q⟩ = .next ⟨low p.tp.node p.estop, q⟩ ∧
    (p.resetLow = true →
      exec .estopAsserted ⟨p, q⟩ = .next ⟨low p.tp.node true, q⟩ ∧ exec .estopReleased ⟨p, q⟩ = .next ⟨low p.tp.node false, q⟩ ∧
      ∀ c, (∀ straps, c ≠ .coldReset straps) → c ≠ .estopAsserted → c ≠ .estopReleased → exec c ⟨p, q⟩ = .next ⟨p, q⟩) ∧
    ∀ straps : Serial,
      (p.estop = false → exec (.coldReset (some straps)) ⟨p, q⟩ =
        .next ⟨{ Gx24.cold straps with choices := p.choices, choicePoint := p.choicePoint }, q⟩) ∧
      (p.estop = true → ∃ t, exec (.coldReset (some straps)) ⟨p, q⟩ = .next ⟨t, q⟩ ∧
        t.estop = true ∧ t.resetLow = false ∧ t.motionPower = false ∧ t.supervisor = false ∧
        (∀ z, tget t.au.patterns z = .red) ∧
        (∃ r, tget t.au.slots 0 = ⟨1#4, some r⟩ ∧ r.key = ⟨clsEstop, .none, none, none, none⟩ ∧ r.state = .opened) ∧
        (∀ i, i ≠ 0 → tget t.au.slots i = ⟨0#4, none⟩) ∧
        t.tp.upQueue = [.alertNotice 0 1#4 ⟨clsEstop, .none, none, none, none⟩ .opened 1 1 false 0#16 0#16] ∧
        (Gx24.cold straps).SameTables t ∧ t.bs = (Gx24.cold straps).bs ∧ t.mu = (Gx24.cold straps).mu ∧
        t.exhibits = (Gx24.cold straps).exhibits ∧ t.cr = (Gx24.cold straps).cr ∧ t.pd = (Gx24.cold straps).pd ∧
        t.gc = (Gx24.cold straps).gc ∧ t.ac = (Gx24.cold straps).ac ∧ t.counters = .zero)

/-- ESTOP_N asserted turns MOTION_PWR off, raises ESTOP and leaves every axis OFF or in FAULT with drive-enable off, in every
state; where every axis was so before, that is all it does. Released, it ends the condition: an OPEN record waits for its
acknowledgement and keeps MOTION_PWR off, and with no record MOTION_PWR follows at once; each axis is then tested for recovery
(R103, R124, R125, R126, R134), in rising number, which is the model's choice (assumption 29). A level that does not change does
nothing. -/
def Obligations.EstopActsOnPowerAndAxes : Prop :=
  ∀ (p : Gx24) (q : List Instr), p.Quiet →
    let key : AlertKey := ⟨clsEstop, .none, none, none, none⟩
    (p.estop = true → exec .estopAsserted ⟨p, q⟩ = .next ⟨p, q⟩) ∧
    (p.estop = false → exec .estopReleased ⟨p, q⟩ = .next ⟨p, q⟩) ∧
    (p.estop = false → ∃ t, exec .estopAsserted ⟨p, q⟩ = .next ⟨t, q⟩ ∧
      t.estop = true ∧ t.motionPower = false ∧ ∀ a, (axisOf a t).still = true) ∧
    (p.estop = false → (∀ a, (axisOf a p).still = true) → exec .estopAsserted ⟨p, q⟩ =
      .next ⟨settle { raise key { p with estop := true } with motionPower := false }, q⟩) ∧
    (p.estop = true →
      let u := endCondition key { p with estop := false }
      exec .estopReleased ⟨p, q⟩ = .next ⟨settle ((List.finRange 8).foldl (fun s a => recoverTest a s)
        { u with motionPower := powerOn u }), q⟩) ∧
    (p.estop = true → (∀ a, (axisOf a p).acked = false) →
      (slotOfKey key p = none → exec .estopReleased ⟨p, q⟩ =
        .next ⟨{ p with estop := false, motionPower := !estopRecordStands p }, q⟩) ∧
      (∀ i r, slotOfKey key p = some i → recordAt i p = some r → r.state = .opened → r.ackRequired = true →
        p.HoldsGiven → exec .estopReleased ⟨p, q⟩ = .next ⟨alertsChanged
          [.alertNotice i (tget p.au.slots i).generation key .waiting r.tier r.repeats r.saturated r.raiseTick p.gc.tick]
          (putRecord i (some { r with state := .waiting }) { p with estop := false }), q⟩))
end

