-- ==== Sys2Proof/Laws/State.lean ====
section
/-! SUPPORT. What each named update of the part leaves of every field: one lemma per field and update, each by
definition. -/

namespace Sys2Proof.Machine

@[simp] theorem modStation_estop (st : Fin 24) (f : Station → Station) (s : Gx24) : (modStation st f s).estop = s.estop := rfl
@[simp] theorem modStation_resetLow (st : Fin 24) (f : Station → Station) (s : Gx24) : (modStation st f s).resetLow = s.resetLow := rfl
@[simp] theorem modStation_motionPower (st : Fin 24) (f : Station → Station) (s : Gx24) : (modStation st f s).motionPower = s.motionPower := rfl
@[simp] theorem modStation_supervisor (st : Fin 24) (f : Station → Station) (s : Gx24) : (modStation st f s).supervisor = s.supervisor := rfl
@[simp] theorem modStation_branchOut (st : Fin 24) (f : Station → Station) (s : Gx24) : (modStation st f s).branchOut = s.branchOut := rfl
@[simp] theorem modStation_trunkOut (st : Fin 24) (f : Station → Station) (s : Gx24) : (modStation st f s).trunkOut = s.trunkOut := rfl
@[simp] theorem modStation_tp (st : Fin 24) (f : Station → Station) (s : Gx24) : (modStation st f s).tp = s.tp := rfl
@[simp] theorem modStation_gc (st : Fin 24) (f : Station → Station) (s : Gx24) : (modStation st f s).gc = s.gc := rfl
@[simp] theorem modStation_bs (st : Fin 24) (f : Station → Station) (s : Gx24) : (modStation st f s).bs = { s.bs with stations := tmod s.bs.stations st f } := rfl
@[simp] theorem modStation_pd (st : Fin 24) (f : Station → Station) (s : Gx24) : (modStation st f s).pd = s.pd := rfl
@[simp] theorem modStation_exhibits (st : Fin 24) (f : Station → Station) (s : Gx24) : (modStation st f s).exhibits = s.exhibits := rfl
@[simp] theorem modStation_cr (st : Fin 24) (f : Station → Station) (s : Gx24) : (modStation st f s).cr = s.cr := rfl
@[simp] theorem modStation_mu (st : Fin 24) (f : Station → Station) (s : Gx24) : (modStation st f s).mu = s.mu := rfl
@[simp] theorem modStation_au (st : Fin 24) (f : Station → Station) (s : Gx24) : (modStation st f s).au = s.au := rfl
@[simp] theorem modStation_ac (st : Fin 24) (f : Station → Station) (s : Gx24) : (modStation st f s).ac = s.ac := rfl
@[simp] theorem modStation_counters (st : Fin 24) (f : Station → Station) (s : Gx24) : (modStation st f s).counters = s.counters := rfl
@[simp] theorem modStation_work (st : Fin 24) (f : Station → Station) (s : Gx24) : (modStation st f s).work = s.work := rfl
@[simp] theorem modStation_choices (st : Fin 24) (f : Station → Station) (s : Gx24) : (modStation st f s).choices = s.choices := rfl
@[simp] theorem modStation_choicePoint (st : Fin 24) (f : Station → Station) (s : Gx24) : (modStation st f s).choicePoint = s.choicePoint := rfl

@[simp] theorem modExhibit_estop (e : Fin 16) (f : Exhibit → Exhibit) (s : Gx24) : (modExhibit e f s).estop = s.estop := rfl
@[simp] theorem modExhibit_resetLow (e : Fin 16) (f : Exhibit → Exhibit) (s : Gx24) : (modExhibit e f s).resetLow = s.resetLow := rfl
@[simp] theorem modExhibit_motionPower (e : Fin 16) (f : Exhibit → Exhibit) (s : Gx24) : (modExhibit e f s).motionPower = s.motionPower := rfl
@[simp] theorem modExhibit_supervisor (e : Fin 16) (f : Exhibit → Exhibit) (s : Gx24) : (modExhibit e f s).supervisor = s.supervisor := rfl
@[simp] theorem modExhibit_branchOut (e : Fin 16) (f : Exhibit → Exhibit) (s : Gx24) : (modExhibit e f s).branchOut = s.branchOut := rfl
@[simp] theorem modExhibit_trunkOut (e : Fin 16) (f : Exhibit → Exhibit) (s : Gx24) : (modExhibit e f s).trunkOut = s.trunkOut := rfl
@[simp] theorem modExhibit_tp (e : Fin 16) (f : Exhibit → Exhibit) (s : Gx24) : (modExhibit e f s).tp = s.tp := rfl
@[simp] theorem modExhibit_gc (e : Fin 16) (f : Exhibit → Exhibit) (s : Gx24) : (modExhibit e f s).gc = s.gc := rfl
@[simp] theorem modExhibit_bs (e : Fin 16) (f : Exhibit → Exhibit) (s : Gx24) : (modExhibit e f s).bs = s.bs := rfl
@[simp] theorem modExhibit_pd (e : Fin 16) (f : Exhibit → Exhibit) (s : Gx24) : (modExhibit e f s).pd = s.pd := rfl
@[simp] theorem modExhibit_exhibits (e : Fin 16) (f : Exhibit → Exhibit) (s : Gx24) : (modExhibit e f s).exhibits = tmod s.exhibits e f := rfl
@[simp] theorem modExhibit_cr (e : Fin 16) (f : Exhibit → Exhibit) (s : Gx24) : (modExhibit e f s).cr = s.cr := rfl
@[simp] theorem modExhibit_mu (e : Fin 16) (f : Exhibit → Exhibit) (s : Gx24) : (modExhibit e f s).mu = s.mu := rfl
@[simp] theorem modExhibit_au (e : Fin 16) (f : Exhibit → Exhibit) (s : Gx24) : (modExhibit e f s).au = s.au := rfl
@[simp] theorem modExhibit_ac (e : Fin 16) (f : Exhibit → Exhibit) (s : Gx24) : (modExhibit e f s).ac = s.ac := rfl
@[simp] theorem modExhibit_counters (e : Fin 16) (f : Exhibit → Exhibit) (s : Gx24) : (modExhibit e f s).counters = s.counters := rfl
@[simp] theorem modExhibit_work (e : Fin 16) (f : Exhibit → Exhibit) (s : Gx24) : (modExhibit e f s).work = s.work := rfl
@[simp] theorem modExhibit_choices (e : Fin 16) (f : Exhibit → Exhibit) (s : Gx24) : (modExhibit e f s).choices = s.choices := rfl
@[simp] theorem modExhibit_choicePoint (e : Fin 16) (f : Exhibit → Exhibit) (s : Gx24) : (modExhibit e f s).choicePoint = s.choicePoint := rfl

@[simp] theorem modRunner_estop (e : Fin 16) (f : Runner → Runner) (s : Gx24) : (modRunner e f s).estop = s.estop := rfl
@[simp] theorem modRunner_resetLow (e : Fin 16) (f : Runner → Runner) (s : Gx24) : (modRunner e f s).resetLow = s.resetLow := rfl
@[simp] theorem modRunner_motionPower (e : Fin 16) (f : Runner → Runner) (s : Gx24) : (modRunner e f s).motionPower = s.motionPower := rfl
@[simp] theorem modRunner_supervisor (e : Fin 16) (f : Runner → Runner) (s : Gx24) : (modRunner e f s).supervisor = s.supervisor := rfl
@[simp] theorem modRunner_branchOut (e : Fin 16) (f : Runner → Runner) (s : Gx24) : (modRunner e f s).branchOut = s.branchOut := rfl
@[simp] theorem modRunner_trunkOut (e : Fin 16) (f : Runner → Runner) (s : Gx24) : (modRunner e f s).trunkOut = s.trunkOut := rfl
@[simp] theorem modRunner_tp (e : Fin 16) (f : Runner → Runner) (s : Gx24) : (modRunner e f s).tp = s.tp := rfl
@[simp] theorem modRunner_gc (e : Fin 16) (f : Runner → Runner) (s : Gx24) : (modRunner e f s).gc = s.gc := rfl
@[simp] theorem modRunner_bs (e : Fin 16) (f : Runner → Runner) (s : Gx24) : (modRunner e f s).bs = s.bs := rfl
@[simp] theorem modRunner_pd (e : Fin 16) (f : Runner → Runner) (s : Gx24) : (modRunner e f s).pd = s.pd := rfl
@[simp] theorem modRunner_exhibits (e : Fin 16) (f : Runner → Runner) (s : Gx24) : (modRunner e f s).exhibits = s.exhibits := rfl
@[simp] theorem modRunner_cr (e : Fin 16) (f : Runner → Runner) (s : Gx24) : (modRunner e f s).cr = { s.cr with runners := tmod s.cr.runners e f } := rfl
@[simp] theorem modRunner_mu (e : Fin 16) (f : Runner → Runner) (s : Gx24) : (modRunner e f s).mu = s.mu := rfl
@[simp] theorem modRunner_au (e : Fin 16) (f : Runner → Runner) (s : Gx24) : (modRunner e f s).au = s.au := rfl
@[simp] theorem modRunner_ac (e : Fin 16) (f : Runner → Runner) (s : Gx24) : (modRunner e f s).ac = s.ac := rfl
@[simp] theorem modRunner_counters (e : Fin 16) (f : Runner → Runner) (s : Gx24) : (modRunner e f s).counters = s.counters := rfl
@[simp] theorem modRunner_work (e : Fin 16) (f : Runner → Runner) (s : Gx24) : (modRunner e f s).work = s.work := rfl
@[simp] theorem modRunner_choices (e : Fin 16) (f : Runner → Runner) (s : Gx24) : (modRunner e f s).choices = s.choices := rfl
@[simp] theorem modRunner_choicePoint (e : Fin 16) (f : Runner → Runner) (s : Gx24) : (modRunner e f s).choicePoint = s.choicePoint := rfl

@[simp] theorem modAxis_estop (a : Fin 8) (f : Axis → Axis) (s : Gx24) : (modAxis a f s).estop = s.estop := rfl
@[simp] theorem modAxis_resetLow (a : Fin 8) (f : Axis → Axis) (s : Gx24) : (modAxis a f s).resetLow = s.resetLow := rfl
@[simp] theorem modAxis_motionPower (a : Fin 8) (f : Axis → Axis) (s : Gx24) : (modAxis a f s).motionPower = s.motionPower := rfl
@[simp] theorem modAxis_supervisor (a : Fin 8) (f : Axis → Axis) (s : Gx24) : (modAxis a f s).supervisor = s.supervisor := rfl
@[simp] theorem modAxis_branchOut (a : Fin 8) (f : Axis → Axis) (s : Gx24) : (modAxis a f s).branchOut = s.branchOut := rfl
@[simp] theorem modAxis_trunkOut (a : Fin 8) (f : Axis → Axis) (s : Gx24) : (modAxis a f s).trunkOut = s.trunkOut := rfl
@[simp] theorem modAxis_tp (a : Fin 8) (f : Axis → Axis) (s : Gx24) : (modAxis a f s).tp = s.tp := rfl
@[simp] theorem modAxis_gc (a : Fin 8) (f : Axis → Axis) (s : Gx24) : (modAxis a f s).gc = s.gc := rfl
@[simp] theorem modAxis_bs (a : Fin 8) (f : Axis → Axis) (s : Gx24) : (modAxis a f s).bs = s.bs := rfl
@[simp] theorem modAxis_pd (a : Fin 8) (f : Axis → Axis) (s : Gx24) : (modAxis a f s).pd = s.pd := rfl
@[simp] theorem modAxis_exhibits (a : Fin 8) (f : Axis → Axis) (s : Gx24) : (modAxis a f s).exhibits = s.exhibits := rfl
@[simp] theorem modAxis_cr (a : Fin 8) (f : Axis → Axis) (s : Gx24) : (modAxis a f s).cr = s.cr := rfl
@[simp] theorem modAxis_mu (a : Fin 8) (f : Axis → Axis) (s : Gx24) : (modAxis a f s).mu = { s.mu with axes := tmod s.mu.axes a f } := rfl
@[simp] theorem modAxis_au (a : Fin 8) (f : Axis → Axis) (s : Gx24) : (modAxis a f s).au = s.au := rfl
@[simp] theorem modAxis_ac (a : Fin 8) (f : Axis → Axis) (s : Gx24) : (modAxis a f s).ac = s.ac := rfl
@[simp] theorem modAxis_counters (a : Fin 8) (f : Axis → Axis) (s : Gx24) : (modAxis a f s).counters = s.counters := rfl
@[simp] theorem modAxis_work (a : Fin 8) (f : Axis → Axis) (s : Gx24) : (modAxis a f s).work = s.work := rfl
@[simp] theorem modAxis_choices (a : Fin 8) (f : Axis → Axis) (s : Gx24) : (modAxis a f s).choices = s.choices := rfl
@[simp] theorem modAxis_choicePoint (a : Fin 8) (f : Axis → Axis) (s : Gx24) : (modAxis a f s).choicePoint = s.choicePoint := rfl

@[simp] theorem growStation_estop (st : Fin 24) (c : StationCounter) (k : Nat) (s : Gx24) : (growStation st c k s).estop = s.estop := rfl
@[simp] theorem growStation_resetLow (st : Fin 24) (c : StationCounter) (k : Nat) (s : Gx24) : (growStation st c k s).resetLow = s.resetLow := rfl
@[simp] theorem growStation_motionPower (st : Fin 24) (c : StationCounter) (k : Nat) (s : Gx24) : (growStation st c k s).motionPower = s.motionPower := rfl
@[simp] theorem growStation_supervisor (st : Fin 24) (c : StationCounter) (k : Nat) (s : Gx24) : (growStation st c k s).supervisor = s.supervisor := rfl
@[simp] theorem growStation_branchOut (st : Fin 24) (c : StationCounter) (k : Nat) (s : Gx24) : (growStation st c k s).branchOut = s.branchOut := rfl
@[simp] theorem growStation_trunkOut (st : Fin 24) (c : StationCounter) (k : Nat) (s : Gx24) : (growStation st c k s).trunkOut = s.trunkOut := rfl
@[simp] theorem growStation_tp (st : Fin 24) (c : StationCounter) (k : Nat) (s : Gx24) : (growStation st c k s).tp = s.tp := rfl
@[simp] theorem growStation_gc (st : Fin 24) (c : StationCounter) (k : Nat) (s : Gx24) : (growStation st c k s).gc = s.gc := rfl
@[simp] theorem growStation_bs (st : Fin 24) (c : StationCounter) (k : Nat) (s : Gx24) : (growStation st c k s).bs = s.bs := rfl
@[simp] theorem growStation_pd (st : Fin 24) (c : StationCounter) (k : Nat) (s : Gx24) : (growStation st c k s).pd = s.pd := rfl
@[simp] theorem growStation_exhibits (st : Fin 24) (c : StationCounter) (k : Nat) (s : Gx24) : (growStation st c k s).exhibits = s.exhibits := rfl
@[simp] theorem growStation_cr (st : Fin 24) (c : StationCounter) (k : Nat) (s : Gx24) : (growStation st c k s).cr = s.cr := rfl
@[simp] theorem growStation_mu (st : Fin 24) (c : StationCounter) (k : Nat) (s : Gx24) : (growStation st c k s).mu = s.mu := rfl
@[simp] theorem growStation_au (st : Fin 24) (c : StationCounter) (k : Nat) (s : Gx24) : (growStation st c k s).au = s.au := rfl
@[simp] theorem growStation_ac (st : Fin 24) (c : StationCounter) (k : Nat) (s : Gx24) : (growStation st c k s).ac = s.ac := rfl
@[simp] theorem growStation_work (st : Fin 24) (c : StationCounter) (k : Nat) (s : Gx24) : (growStation st c k s).work = s.work := rfl
@[simp] theorem growStation_choices (st : Fin 24) (c : StationCounter) (k : Nat) (s : Gx24) : (growStation st c k s).choices = s.choices := rfl
@[simp] theorem growStation_choicePoint (st : Fin 24) (c : StationCounter) (k : Nat) (s : Gx24) : (growStation st c k s).choicePoint = s.choicePoint := rfl

@[simp] theorem growExhibit_estop (e : Fin 16) (c : ExhibitCounter) (k : Nat) (s : Gx24) : (growExhibit e c k s).estop = s.estop := rfl
@[simp] theorem growExhibit_resetLow (e : Fin 16) (c : ExhibitCounter) (k : Nat) (s : Gx24) : (growExhibit e c k s).resetLow = s.resetLow := rfl
@[simp] theorem growExhibit_motionPower (e : Fin 16) (c : ExhibitCounter) (k : Nat) (s : Gx24) : (growExhibit e c k s).motionPower = s.motionPower := rfl
@[simp] theorem growExhibit_supervisor (e : Fin 16) (c : ExhibitCounter) (k : Nat) (s : Gx24) : (growExhibit e c k s).supervisor = s.supervisor := rfl
@[simp] theorem growExhibit_branchOut (e : Fin 16) (c : ExhibitCounter) (k : Nat) (s : Gx24) : (growExhibit e c k s).branchOut = s.branchOut := rfl
@[simp] theorem growExhibit_trunkOut (e : Fin 16) (c : ExhibitCounter) (k : Nat) (s : Gx24) : (growExhibit e c k s).trunkOut = s.trunkOut := rfl
@[simp] theorem growExhibit_tp (e : Fin 16) (c : ExhibitCounter) (k : Nat) (s : Gx24) : (growExhibit e c k s).tp = s.tp := rfl
@[simp] theorem growExhibit_gc (e : Fin 16) (c : ExhibitCounter) (k : Nat) (s : Gx24) : (growExhibit e c k s).gc = s.gc := rfl
@[simp] theorem growExhibit_bs (e : Fin 16) (c : ExhibitCounter) (k : Nat) (s : Gx24) : (growExhibit e c k s).bs = s.bs := rfl
@[simp] theorem growExhibit_pd (e : Fin 16) (c : ExhibitCounter) (k : Nat) (s : Gx24) : (growExhibit e c k s).pd = s.pd := rfl
@[simp] theorem growExhibit_exhibits (e : Fin 16) (c : ExhibitCounter) (k : Nat) (s : Gx24) : (growExhibit e c k s).exhibits = s.exhibits := rfl
@[simp] theorem growExhibit_cr (e : Fin 16) (c : ExhibitCounter) (k : Nat) (s : Gx24) : (growExhibit e c k s).cr = s.cr := rfl
@[simp] theorem growExhibit_mu (e : Fin 16) (c : ExhibitCounter) (k : Nat) (s : Gx24) : (growExhibit e c k s).mu = s.mu := rfl
@[simp] theorem growExhibit_au (e : Fin 16) (c : ExhibitCounter) (k : Nat) (s : Gx24) : (growExhibit e c k s).au = s.au := rfl
@[simp] theorem growExhibit_ac (e : Fin 16) (c : ExhibitCounter) (k : Nat) (s : Gx24) : (growExhibit e c k s).ac = s.ac := rfl
@[simp] theorem growExhibit_work (e : Fin 16) (c : ExhibitCounter) (k : Nat) (s : Gx24) : (growExhibit e c k s).work = s.work := rfl
@[simp] theorem growExhibit_choices (e : Fin 16) (c : ExhibitCounter) (k : Nat) (s : Gx24) : (growExhibit e c k s).choices = s.choices := rfl
@[simp] theorem growExhibit_choicePoint (e : Fin 16) (c : ExhibitCounter) (k : Nat) (s : Gx24) : (growExhibit e c k s).choicePoint = s.choicePoint := rfl

@[simp] theorem growAxis_estop (a : Fin 8) (c : AxisCounter) (s : Gx24) : (growAxis a c s).estop = s.estop := rfl
@[simp] theorem growAxis_resetLow (a : Fin 8) (c : AxisCounter) (s : Gx24) : (growAxis a c s).resetLow = s.resetLow := rfl
@[simp] theorem growAxis_motionPower (a : Fin 8) (c : AxisCounter) (s : Gx24) : (growAxis a c s).motionPower = s.motionPower := rfl
@[simp] theorem growAxis_supervisor (a : Fin 8) (c : AxisCounter) (s : Gx24) : (growAxis a c s).supervisor = s.supervisor := rfl
@[simp] theorem growAxis_branchOut (a : Fin 8) (c : AxisCounter) (s : Gx24) : (growAxis a c s).branchOut = s.branchOut := rfl
@[simp] theorem growAxis_trunkOut (a : Fin 8) (c : AxisCounter) (s : Gx24) : (growAxis a c s).trunkOut = s.trunkOut := rfl
@[simp] theorem growAxis_tp (a : Fin 8) (c : AxisCounter) (s : Gx24) : (growAxis a c s).tp = s.tp := rfl
@[simp] theorem growAxis_gc (a : Fin 8) (c : AxisCounter) (s : Gx24) : (growAxis a c s).gc = s.gc := rfl
@[simp] theorem growAxis_bs (a : Fin 8) (c : AxisCounter) (s : Gx24) : (growAxis a c s).bs = s.bs := rfl
@[simp] theorem growAxis_pd (a : Fin 8) (c : AxisCounter) (s : Gx24) : (growAxis a c s).pd = s.pd := rfl
@[simp] theorem growAxis_exhibits (a : Fin 8) (c : AxisCounter) (s : Gx24) : (growAxis a c s).exhibits = s.exhibits := rfl
@[simp] theorem growAxis_cr (a : Fin 8) (c : AxisCounter) (s : Gx24) : (growAxis a c s).cr = s.cr := rfl
@[simp] theorem growAxis_mu (a : Fin 8) (c : AxisCounter) (s : Gx24) : (growAxis a c s).mu = s.mu := rfl
@[simp] theorem growAxis_au (a : Fin 8) (c : AxisCounter) (s : Gx24) : (growAxis a c s).au = s.au := rfl
@[simp] theorem growAxis_ac (a : Fin 8) (c : AxisCounter) (s : Gx24) : (growAxis a c s).ac = s.ac := rfl
@[simp] theorem growAxis_work (a : Fin 8) (c : AxisCounter) (s : Gx24) : (growAxis a c s).work = s.work := rfl
@[simp] theorem growAxis_choices (a : Fin 8) (c : AxisCounter) (s : Gx24) : (growAxis a c s).choices = s.choices := rfl
@[simp] theorem growAxis_choicePoint (a : Fin 8) (c : AxisCounter) (s : Gx24) : (growAxis a c s).choicePoint = s.choicePoint := rfl

@[simp] theorem growAlert_estop (c : AlertCounter) (s : Gx24) : (growAlert c s).estop = s.estop := rfl
@[simp] theorem growAlert_resetLow (c : AlertCounter) (s : Gx24) : (growAlert c s).resetLow = s.resetLow := rfl
@[simp] theorem growAlert_motionPower (c : AlertCounter) (s : Gx24) : (growAlert c s).motionPower = s.motionPower := rfl
@[simp] theorem growAlert_supervisor (c : AlertCounter) (s : Gx24) : (growAlert c s).supervisor = s.supervisor := rfl
@[simp] theorem growAlert_branchOut (c : AlertCounter) (s : Gx24) : (growAlert c s).branchOut = s.branchOut := rfl
@[simp] theorem growAlert_trunkOut (c : AlertCounter) (s : Gx24) : (growAlert c s).trunkOut = s.trunkOut := rfl
@[simp] theorem growAlert_tp (c : AlertCounter) (s : Gx24) : (growAlert c s).tp = s.tp := rfl
@[simp] theorem growAlert_gc (c : AlertCounter) (s : Gx24) : (growAlert c s).gc = s.gc := rfl
@[simp] theorem growAlert_bs (c : AlertCounter) (s : Gx24) : (growAlert c s).bs = s.bs := rfl
@[simp] theorem growAlert_pd (c : AlertCounter) (s : Gx24) : (growAlert c s).pd = s.pd := rfl
@[simp] theorem growAlert_exhibits (c : AlertCounter) (s : Gx24) : (growAlert c s).exhibits = s.exhibits := rfl
@[simp] theorem growAlert_cr (c : AlertCounter) (s : Gx24) : (growAlert c s).cr = s.cr := rfl
@[simp] theorem growAlert_mu (c : AlertCounter) (s : Gx24) : (growAlert c s).mu = s.mu := rfl
@[simp] theorem growAlert_au (c : AlertCounter) (s : Gx24) : (growAlert c s).au = s.au := rfl
@[simp] theorem growAlert_ac (c : AlertCounter) (s : Gx24) : (growAlert c s).ac = s.ac := rfl
@[simp] theorem growAlert_work (c : AlertCounter) (s : Gx24) : (growAlert c s).work = s.work := rfl
@[simp] theorem growAlert_choices (c : AlertCounter) (s : Gx24) : (growAlert c s).choices = s.choices := rfl
@[simp] theorem growAlert_choicePoint (c : AlertCounter) (s : Gx24) : (growAlert c s).choicePoint = s.choicePoint := rfl

@[simp] theorem growTrunk_estop (c : TrunkCounter) (s : Gx24) : (growTrunk c s).estop = s.estop := rfl
@[simp] theorem growTrunk_resetLow (c : TrunkCounter) (s : Gx24) : (growTrunk c s).resetLow = s.resetLow := rfl
@[simp] theorem growTrunk_motionPower (c : TrunkCounter) (s : Gx24) : (growTrunk c s).motionPower = s.motionPower := rfl
@[simp] theorem growTrunk_supervisor (c : TrunkCounter) (s : Gx24) : (growTrunk c s).supervisor = s.supervisor := rfl
@[simp] theorem growTrunk_branchOut (c : TrunkCounter) (s : Gx24) : (growTrunk c s).branchOut = s.branchOut := rfl
@[simp] theorem growTrunk_trunkOut (c : TrunkCounter) (s : Gx24) : (growTrunk c s).trunkOut = s.trunkOut := rfl
@[simp] theorem growTrunk_tp (c : TrunkCounter) (s : Gx24) : (growTrunk c s).tp = s.tp := rfl
@[simp] theorem growTrunk_gc (c : TrunkCounter) (s : Gx24) : (growTrunk c s).gc = s.gc := rfl
@[simp] theorem growTrunk_bs (c : TrunkCounter) (s : Gx24) : (growTrunk c s).bs = s.bs := rfl
@[simp] theorem growTrunk_pd (c : TrunkCounter) (s : Gx24) : (growTrunk c s).pd = s.pd := rfl
@[simp] theorem growTrunk_exhibits (c : TrunkCounter) (s : Gx24) : (growTrunk c s).exhibits = s.exhibits := rfl
@[simp] theorem growTrunk_cr (c : TrunkCounter) (s : Gx24) : (growTrunk c s).cr = s.cr := rfl
@[simp] theorem growTrunk_mu (c : TrunkCounter) (s : Gx24) : (growTrunk c s).mu = s.mu := rfl
@[simp] theorem growTrunk_au (c : TrunkCounter) (s : Gx24) : (growTrunk c s).au = s.au := rfl
@[simp] theorem growTrunk_ac (c : TrunkCounter) (s : Gx24) : (growTrunk c s).ac = s.ac := rfl
@[simp] theorem growTrunk_work (c : TrunkCounter) (s : Gx24) : (growTrunk c s).work = s.work := rfl
@[simp] theorem growTrunk_choices (c : TrunkCounter) (s : Gx24) : (growTrunk c s).choices = s.choices := rfl
@[simp] theorem growTrunk_choicePoint (c : TrunkCounter) (s : Gx24) : (growTrunk c s).choicePoint = s.choicePoint := rfl

@[simp] theorem growUsage_estop (i : Fin 64) (k : Nat) (s : Gx24) : (growUsage i k s).estop = s.estop := rfl
@[simp] theorem growUsage_resetLow (i : Fin 64) (k : Nat) (s : Gx24) : (growUsage i k s).resetLow = s.resetLow := rfl
@[simp] theorem growUsage_motionPower (i : Fin 64) (k : Nat) (s : Gx24) : (growUsage i k s).motionPower = s.motionPower := rfl
@[simp] theorem growUsage_supervisor (i : Fin 64) (k : Nat) (s : Gx24) : (growUsage i k s).supervisor = s.supervisor := rfl
@[simp] theorem growUsage_branchOut (i : Fin 64) (k : Nat) (s : Gx24) : (growUsage i k s).branchOut = s.branchOut := rfl
@[simp] theorem growUsage_trunkOut (i : Fin 64) (k : Nat) (s : Gx24) : (growUsage i k s).trunkOut = s.trunkOut := rfl
@[simp] theorem growUsage_tp (i : Fin 64) (k : Nat) (s : Gx24) : (growUsage i k s).tp = s.tp := rfl
@[simp] theorem growUsage_gc (i : Fin 64) (k : Nat) (s : Gx24) : (growUsage i k s).gc = s.gc := rfl
@[simp] theorem growUsage_bs (i : Fin 64) (k : Nat) (s : Gx24) : (growUsage i k s).bs = s.bs := rfl
@[simp] theorem growUsage_pd (i : Fin 64) (k : Nat) (s : Gx24) : (growUsage i k s).pd = s.pd := rfl
@[simp] theorem growUsage_exhibits (i : Fin 64) (k : Nat) (s : Gx24) : (growUsage i k s).exhibits = s.exhibits := rfl
@[simp] theorem growUsage_cr (i : Fin 64) (k : Nat) (s : Gx24) : (growUsage i k s).cr = s.cr := rfl
@[simp] theorem growUsage_mu (i : Fin 64) (k : Nat) (s : Gx24) : (growUsage i k s).mu = s.mu := rfl
@[simp] theorem growUsage_au (i : Fin 64) (k : Nat) (s : Gx24) : (growUsage i k s).au = s.au := rfl
@[simp] theorem growUsage_ac (i : Fin 64) (k : Nat) (s : Gx24) : (growUsage i k s).ac = s.ac := rfl
@[simp] theorem growUsage_work (i : Fin 64) (k : Nat) (s : Gx24) : (growUsage i k s).work = s.work := rfl
@[simp] theorem growUsage_choices (i : Fin 64) (k : Nat) (s : Gx24) : (growUsage i k s).choices = s.choices := rfl
@[simp] theorem growUsage_choicePoint (i : Fin 64) (k : Nat) (s : Gx24) : (growUsage i k s).choicePoint = s.choicePoint := rfl

@[simp] theorem post_estop (w : Work) (s : Gx24) : (post w s).estop = s.estop := rfl
@[simp] theorem post_resetLow (w : Work) (s : Gx24) : (post w s).resetLow = s.resetLow := rfl
@[simp] theorem post_motionPower (w : Work) (s : Gx24) : (post w s).motionPower = s.motionPower := rfl
@[simp] theorem post_supervisor (w : Work) (s : Gx24) : (post w s).supervisor = s.supervisor := rfl
@[simp] theorem post_branchOut (w : Work) (s : Gx24) : (post w s).branchOut = s.branchOut := rfl
@[simp] theorem post_trunkOut (w : Work) (s : Gx24) : (post w s).trunkOut = s.trunkOut := rfl
@[simp] theorem post_tp (w : Work) (s : Gx24) : (post w s).tp = s.tp := rfl
@[simp] theorem post_gc (w : Work) (s : Gx24) : (post w s).gc = s.gc := rfl
@[simp] theorem post_bs (w : Work) (s : Gx24) : (post w s).bs = s.bs := rfl
@[simp] theorem post_pd (w : Work) (s : Gx24) : (post w s).pd = s.pd := rfl
@[simp] theorem post_exhibits (w : Work) (s : Gx24) : (post w s).exhibits = s.exhibits := rfl
@[simp] theorem post_cr (w : Work) (s : Gx24) : (post w s).cr = s.cr := rfl
@[simp] theorem post_mu (w : Work) (s : Gx24) : (post w s).mu = s.mu := rfl
@[simp] theorem post_au (w : Work) (s : Gx24) : (post w s).au = s.au := rfl
@[simp] theorem post_ac (w : Work) (s : Gx24) : (post w s).ac = s.ac := rfl
@[simp] theorem post_counters (w : Work) (s : Gx24) : (post w s).counters = s.counters := rfl
@[simp] theorem post_work (w : Work) (s : Gx24) : (post w s).work = s.work ++ [w] := rfl
@[simp] theorem post_choices (w : Work) (s : Gx24) : (post w s).choices = s.choices := rfl
@[simp] theorem post_choicePoint (w : Work) (s : Gx24) : (post w s).choicePoint = s.choicePoint := rfl

@[simp] theorem postHeld_estop (h : ExhibitSet) (s : Gx24) : (postHeld h s).estop = s.estop := rfl
@[simp] theorem postHeld_resetLow (h : ExhibitSet) (s : Gx24) : (postHeld h s).resetLow = s.resetLow := rfl
@[simp] theorem postHeld_motionPower (h : ExhibitSet) (s : Gx24) : (postHeld h s).motionPower = s.motionPower := rfl
@[simp] theorem postHeld_supervisor (h : ExhibitSet) (s : Gx24) : (postHeld h s).supervisor = s.supervisor := rfl
@[simp] theorem postHeld_branchOut (h : ExhibitSet) (s : Gx24) : (postHeld h s).branchOut = s.branchOut := rfl
@[simp] theorem postHeld_trunkOut (h : ExhibitSet) (s : Gx24) : (postHeld h s).trunkOut = s.trunkOut := rfl
@[simp] theorem postHeld_tp (h : ExhibitSet) (s : Gx24) : (postHeld h s).tp = s.tp := rfl
@[simp] theorem postHeld_gc (h : ExhibitSet) (s : Gx24) : (postHeld h s).gc = s.gc := rfl
@[simp] theorem postHeld_bs (h : ExhibitSet) (s : Gx24) : (postHeld h s).bs = s.bs := rfl
@[simp] theorem postHeld_pd (h : ExhibitSet) (s : Gx24) : (postHeld h s).pd = s.pd := rfl
@[simp] theorem postHeld_exhibits (h : ExhibitSet) (s : Gx24) : (postHeld h s).exhibits = s.exhibits := rfl
@[simp] theorem postHeld_cr (h : ExhibitSet) (s : Gx24) : (postHeld h s).cr = s.cr := rfl
@[simp] theorem postHeld_mu (h : ExhibitSet) (s : Gx24) : (postHeld h s).mu = s.mu := rfl
@[simp] theorem postHeld_au (h : ExhibitSet) (s : Gx24) : (postHeld h s).au = s.au := rfl
@[simp] theorem postHeld_ac (h : ExhibitSet) (s : Gx24) : (postHeld h s).ac = s.ac := rfl
@[simp] theorem postHeld_counters (h : ExhibitSet) (s : Gx24) : (postHeld h s).counters = s.counters := rfl
@[simp] theorem postHeld_choices (h : ExhibitSet) (s : Gx24) : (postHeld h s).choices = s.choices := rfl
@[simp] theorem postHeld_choicePoint (h : ExhibitSet) (s : Gx24) : (postHeld h s).choicePoint = s.choicePoint := rfl

@[simp] theorem dropEnded_estop (e : Fin 16) (s : Gx24) : (dropEnded e s).estop = s.estop := rfl
@[simp] theorem dropEnded_resetLow (e : Fin 16) (s : Gx24) : (dropEnded e s).resetLow = s.resetLow := rfl
@[simp] theorem dropEnded_motionPower (e : Fin 16) (s : Gx24) : (dropEnded e s).motionPower = s.motionPower := rfl
@[simp] theorem dropEnded_supervisor (e : Fin 16) (s : Gx24) : (dropEnded e s).supervisor = s.supervisor := rfl
@[simp] theorem dropEnded_branchOut (e : Fin 16) (s : Gx24) : (dropEnded e s).branchOut = s.branchOut := rfl
@[simp] theorem dropEnded_trunkOut (e : Fin 16) (s : Gx24) : (dropEnded e s).trunkOut = s.trunkOut := rfl
@[simp] theorem dropEnded_tp (e : Fin 16) (s : Gx24) : (dropEnded e s).tp = s.tp := rfl
@[simp] theorem dropEnded_gc (e : Fin 16) (s : Gx24) : (dropEnded e s).gc = s.gc := rfl
@[simp] theorem dropEnded_bs (e : Fin 16) (s : Gx24) : (dropEnded e s).bs = s.bs := rfl
@[simp] theorem dropEnded_pd (e : Fin 16) (s : Gx24) : (dropEnded e s).pd = s.pd := rfl
@[simp] theorem dropEnded_exhibits (e : Fin 16) (s : Gx24) : (dropEnded e s).exhibits = s.exhibits := rfl
@[simp] theorem dropEnded_cr (e : Fin 16) (s : Gx24) : (dropEnded e s).cr = s.cr := rfl
@[simp] theorem dropEnded_mu (e : Fin 16) (s : Gx24) : (dropEnded e s).mu = s.mu := rfl
@[simp] theorem dropEnded_au (e : Fin 16) (s : Gx24) : (dropEnded e s).au = s.au := rfl
@[simp] theorem dropEnded_ac (e : Fin 16) (s : Gx24) : (dropEnded e s).ac = s.ac := rfl
@[simp] theorem dropEnded_counters (e : Fin 16) (s : Gx24) : (dropEnded e s).counters = s.counters := rfl
@[simp] theorem dropEnded_work (e : Fin 16) (s : Gx24) : (dropEnded e s).work = s.work.filter (fun w => !w.isRunnerOf e) := rfl
@[simp] theorem dropEnded_choices (e : Fin 16) (s : Gx24) : (dropEnded e s).choices = s.choices := rfl
@[simp] theorem dropEnded_choicePoint (e : Fin 16) (s : Gx24) : (dropEnded e s).choicePoint = s.choicePoint := rfl

@[simp] theorem writeLamp_estop (st : Fin 24) (o : Fin 8) (p : LampPattern) (s : Gx24) : (writeLamp st o p s).estop = s.estop := rfl
@[simp] theorem writeLamp_resetLow (st : Fin 24) (o : Fin 8) (p : LampPattern) (s : Gx24) : (writeLamp st o p s).resetLow = s.resetLow := rfl
@[simp] theorem writeLamp_motionPower (st : Fin 24) (o : Fin 8) (p : LampPattern) (s : Gx24) : (writeLamp st o p s).motionPower = s.motionPower := rfl
@[simp] theorem writeLamp_supervisor (st : Fin 24) (o : Fin 8) (p : LampPattern) (s : Gx24) : (writeLamp st o p s).supervisor = s.supervisor := rfl
@[simp] theorem writeLamp_branchOut (st : Fin 24) (o : Fin 8) (p : LampPattern) (s : Gx24) : (writeLamp st o p s).branchOut = s.branchOut := rfl
@[simp] theorem writeLamp_trunkOut (st : Fin 24) (o : Fin 8) (p : LampPattern) (s : Gx24) : (writeLamp st o p s).trunkOut = s.trunkOut := rfl
@[simp] theorem writeLamp_tp (st : Fin 24) (o : Fin 8) (p : LampPattern) (s : Gx24) : (writeLamp st o p s).tp = s.tp := rfl
@[simp] theorem writeLamp_gc (st : Fin 24) (o : Fin 8) (p : LampPattern) (s : Gx24) : (writeLamp st o p s).gc = s.gc := rfl
@[simp] theorem writeLamp_pd (st : Fin 24) (o : Fin 8) (p : LampPattern) (s : Gx24) : (writeLamp st o p s).pd = s.pd := rfl
@[simp] theorem writeLamp_exhibits (st : Fin 24) (o : Fin 8) (p : LampPattern) (s : Gx24) : (writeLamp st o p s).exhibits = s.exhibits := rfl
@[simp] theorem writeLamp_cr (st : Fin 24) (o : Fin 8) (p : LampPattern) (s : Gx24) : (writeLamp st o p s).cr = s.cr := rfl
@[simp] theorem writeLamp_mu (st : Fin 24) (o : Fin 8) (p : LampPattern) (s : Gx24) : (writeLamp st o p s).mu = s.mu := rfl
@[simp] theorem writeLamp_au (st : Fin 24) (o : Fin 8) (p : LampPattern) (s : Gx24) : (writeLamp st o p s).au = s.au := rfl
@[simp] theorem writeLamp_ac (st : Fin 24) (o : Fin 8) (p : LampPattern) (s : Gx24) : (writeLamp st o p s).ac = s.ac := rfl
@[simp] theorem writeLamp_counters (st : Fin 24) (o : Fin 8) (p : LampPattern) (s : Gx24) : (writeLamp st o p s).counters = s.counters := rfl
@[simp] theorem writeLamp_work (st : Fin 24) (o : Fin 8) (p : LampPattern) (s : Gx24) : (writeLamp st o p s).work = s.work := rfl
@[simp] theorem writeLamp_choices (st : Fin 24) (o : Fin 8) (p : LampPattern) (s : Gx24) : (writeLamp st o p s).choices = s.choices := rfl
@[simp] theorem writeLamp_choicePoint (st : Fin 24) (o : Fin 8) (p : LampPattern) (s : Gx24) : (writeLamp st o p s).choicePoint = s.choicePoint := rfl

@[simp] theorem writeBeacon_estop (st : Fin 24) (p : BeaconPattern) (s : Gx24) : (writeBeacon st p s).estop = s.estop := rfl
@[simp] theorem writeBeacon_resetLow (st : Fin 24) (p : BeaconPattern) (s : Gx24) : (writeBeacon st p s).resetLow = s.resetLow := rfl
@[simp] theorem writeBeacon_motionPower (st : Fin 24) (p : BeaconPattern) (s : Gx24) : (writeBeacon st p s).motionPower = s.motionPower := rfl
@[simp] theorem writeBeacon_supervisor (st : Fin 24) (p : BeaconPattern) (s : Gx24) : (writeBeacon st p s).supervisor = s.supervisor := rfl
@[simp] theorem writeBeacon_branchOut (st : Fin 24) (p : BeaconPattern) (s : Gx24) : (writeBeacon st p s).branchOut = s.branchOut := rfl
@[simp] theorem writeBeacon_trunkOut (st : Fin 24) (p : BeaconPattern) (s : Gx24) : (writeBeacon st p s).trunkOut = s.trunkOut := rfl
@[simp] theorem writeBeacon_tp (st : Fin 24) (p : BeaconPattern) (s : Gx24) : (writeBeacon st p s).tp = s.tp := rfl
@[simp] theorem writeBeacon_gc (st : Fin 24) (p : BeaconPattern) (s : Gx24) : (writeBeacon st p s).gc = s.gc := rfl
@[simp] theorem writeBeacon_pd (st : Fin 24) (p : BeaconPattern) (s : Gx24) : (writeBeacon st p s).pd = s.pd := rfl
@[simp] theorem writeBeacon_exhibits (st : Fin 24) (p : BeaconPattern) (s : Gx24) : (writeBeacon st p s).exhibits = s.exhibits := rfl
@[simp] theorem writeBeacon_cr (st : Fin 24) (p : BeaconPattern) (s : Gx24) : (writeBeacon st p s).cr = s.cr := rfl
@[simp] theorem writeBeacon_mu (st : Fin 24) (p : BeaconPattern) (s : Gx24) : (writeBeacon st p s).mu = s.mu := rfl
@[simp] theorem writeBeacon_au (st : Fin 24) (p : BeaconPattern) (s : Gx24) : (writeBeacon st p s).au = s.au := rfl
@[simp] theorem writeBeacon_ac (st : Fin 24) (p : BeaconPattern) (s : Gx24) : (writeBeacon st p s).ac = s.ac := rfl
@[simp] theorem writeBeacon_counters (st : Fin 24) (p : BeaconPattern) (s : Gx24) : (writeBeacon st p s).counters = s.counters := rfl
@[simp] theorem writeBeacon_work (st : Fin 24) (p : BeaconPattern) (s : Gx24) : (writeBeacon st p s).work = s.work := rfl
@[simp] theorem writeBeacon_choices (st : Fin 24) (p : BeaconPattern) (s : Gx24) : (writeBeacon st p s).choices = s.choices := rfl
@[simp] theorem writeBeacon_choicePoint (st : Fin 24) (p : BeaconPattern) (s : Gx24) : (writeBeacon st p s).choicePoint = s.choicePoint := rfl

@[simp] theorem reloadIdle_estop (e : Fin 16) (s : Gx24) : (reloadIdle e s).estop = s.estop := rfl
@[simp] theorem reloadIdle_resetLow (e : Fin 16) (s : Gx24) : (reloadIdle e s).resetLow = s.resetLow := rfl
@[simp] theorem reloadIdle_motionPower (e : Fin 16) (s : Gx24) : (reloadIdle e s).motionPower = s.motionPower := rfl
@[simp] theorem reloadIdle_supervisor (e : Fin 16) (s : Gx24) : (reloadIdle e s).supervisor = s.supervisor := rfl
@[simp] theorem reloadIdle_branchOut (e : Fin 16) (s : Gx24) : (reloadIdle e s).branchOut = s.branchOut := rfl
@[simp] theorem reloadIdle_trunkOut (e : Fin 16) (s : Gx24) : (reloadIdle e s).trunkOut = s.trunkOut := rfl
@[simp] theorem reloadIdle_tp (e : Fin 16) (s : Gx24) : (reloadIdle e s).tp = s.tp := rfl
@[simp] theorem reloadIdle_gc (e : Fin 16) (s : Gx24) : (reloadIdle e s).gc = s.gc := rfl
@[simp] theorem reloadIdle_bs (e : Fin 16) (s : Gx24) : (reloadIdle e s).bs = s.bs := rfl
@[simp] theorem reloadIdle_pd (e : Fin 16) (s : Gx24) : (reloadIdle e s).pd = s.pd := rfl
@[simp] theorem reloadIdle_exhibits (e : Fin 16) (s : Gx24) : (reloadIdle e s).exhibits = s.exhibits := rfl
@[simp] theorem reloadIdle_cr (e : Fin 16) (s : Gx24) : (reloadIdle e s).cr = s.cr := rfl
@[simp] theorem reloadIdle_mu (e : Fin 16) (s : Gx24) : (reloadIdle e s).mu = s.mu := rfl
@[simp] theorem reloadIdle_au (e : Fin 16) (s : Gx24) : (reloadIdle e s).au = s.au := rfl
@[simp] theorem reloadIdle_counters (e : Fin 16) (s : Gx24) : (reloadIdle e s).counters = s.counters := rfl
@[simp] theorem reloadIdle_work (e : Fin 16) (s : Gx24) : (reloadIdle e s).work = s.work := rfl
@[simp] theorem reloadIdle_choices (e : Fin 16) (s : Gx24) : (reloadIdle e s).choices = s.choices := rfl
@[simp] theorem reloadIdle_choicePoint (e : Fin 16) (s : Gx24) : (reloadIdle e s).choicePoint = s.choicePoint := rfl

@[simp] theorem reloadQuiet_estop (s : Gx24) : (reloadQuiet s).estop = s.estop := rfl
@[simp] theorem reloadQuiet_resetLow (s : Gx24) : (reloadQuiet s).resetLow = s.resetLow := rfl
@[simp] theorem reloadQuiet_motionPower (s : Gx24) : (reloadQuiet s).motionPower = s.motionPower := rfl
@[simp] theorem reloadQuiet_supervisor (s : Gx24) : (reloadQuiet s).supervisor = s.supervisor := rfl
@[simp] theorem reloadQuiet_branchOut (s : Gx24) : (reloadQuiet s).branchOut = s.branchOut := rfl
@[simp] theorem reloadQuiet_trunkOut (s : Gx24) : (reloadQuiet s).trunkOut = s.trunkOut := rfl
@[simp] theorem reloadQuiet_tp (s : Gx24) : (reloadQuiet s).tp = s.tp := rfl
@[simp] theorem reloadQuiet_gc (s : Gx24) : (reloadQuiet s).gc = s.gc := rfl
@[simp] theorem reloadQuiet_bs (s : Gx24) : (reloadQuiet s).bs = s.bs := rfl
@[simp] theorem reloadQuiet_pd (s : Gx24) : (reloadQuiet s).pd = s.pd := rfl
@[simp] theorem reloadQuiet_exhibits (s : Gx24) : (reloadQuiet s).exhibits = s.exhibits := rfl
@[simp] theorem reloadQuiet_cr (s : Gx24) : (reloadQuiet s).cr = s.cr := rfl
@[simp] theorem reloadQuiet_mu (s : Gx24) : (reloadQuiet s).mu = s.mu := rfl
@[simp] theorem reloadQuiet_au (s : Gx24) : (reloadQuiet s).au = s.au := rfl
@[simp] theorem reloadQuiet_ac (s : Gx24) : (reloadQuiet s).ac = { s.ac with quiet := s.tp.quietReload } := rfl
@[simp] theorem reloadQuiet_counters (s : Gx24) : (reloadQuiet s).counters = s.counters := rfl
@[simp] theorem reloadQuiet_work (s : Gx24) : (reloadQuiet s).work = s.work := rfl
@[simp] theorem reloadQuiet_choices (s : Gx24) : (reloadQuiet s).choices = s.choices := rfl
@[simp] theorem reloadQuiet_choicePoint (s : Gx24) : (reloadQuiet s).choicePoint = s.choicePoint := rfl

@[simp] theorem clearStories_estop (e : Fin 16) (s : Gx24) : (clearStories e s).estop = s.estop := by unfold clearStories; rfl
@[simp] theorem clearStories_resetLow (e : Fin 16) (s : Gx24) : (clearStories e s).resetLow = s.resetLow := by unfold clearStories; rfl
@[simp] theorem clearStories_motionPower (e : Fin 16) (s : Gx24) : (clearStories e s).motionPower = s.motionPower := by unfold clearStories; rfl
@[simp] theorem clearStories_supervisor (e : Fin 16) (s : Gx24) : (clearStories e s).supervisor = s.supervisor := by unfold clearStories; rfl
@[simp] theorem clearStories_branchOut (e : Fin 16) (s : Gx24) : (clearStories e s).branchOut = s.branchOut := by unfold clearStories; rfl
@[simp] theorem clearStories_trunkOut (e : Fin 16) (s : Gx24) : (clearStories e s).trunkOut = s.trunkOut := by unfold clearStories; rfl
@[simp] theorem clearStories_tp (e : Fin 16) (s : Gx24) : (clearStories e s).tp = s.tp := by unfold clearStories; rfl
@[simp] theorem clearStories_gc (e : Fin 16) (s : Gx24) : (clearStories e s).gc = s.gc := by unfold clearStories; rfl
@[simp] theorem clearStories_bs (e : Fin 16) (s : Gx24) : (clearStories e s).bs = s.bs := by unfold clearStories; rfl
@[simp] theorem clearStories_exhibits (e : Fin 16) (s : Gx24) : (clearStories e s).exhibits = s.exhibits := by unfold clearStories; rfl
@[simp] theorem clearStories_cr (e : Fin 16) (s : Gx24) : (clearStories e s).cr = s.cr := by unfold clearStories; rfl
@[simp] theorem clearStories_mu (e : Fin 16) (s : Gx24) : (clearStories e s).mu = s.mu := by unfold clearStories; rfl
@[simp] theorem clearStories_au (e : Fin 16) (s : Gx24) : (clearStories e s).au = s.au := by unfold clearStories; rfl
@[simp] theorem clearStories_ac (e : Fin 16) (s : Gx24) : (clearStories e s).ac = s.ac := by unfold clearStories; rfl
@[simp] theorem clearStories_counters (e : Fin 16) (s : Gx24) : (clearStories e s).counters = s.counters := by unfold clearStories; rfl
@[simp] theorem clearStories_work (e : Fin 16) (s : Gx24) : (clearStories e s).work = s.work := by unfold clearStories; rfl
@[simp] theorem clearStories_choices (e : Fin 16) (s : Gx24) : (clearStories e s).choices = s.choices := by unfold clearStories; rfl
@[simp] theorem clearStories_choicePoint (e : Fin 16) (s : Gx24) : (clearStories e s).choicePoint = s.choicePoint := by unfold clearStories; rfl

@[simp] theorem putRecord_estop (i : Fin 64) (r : Option AlertRecord) (s : Gx24) : (putRecord i r s).estop = s.estop := rfl
@[simp] theorem putRecord_resetLow (i : Fin 64) (r : Option AlertRecord) (s : Gx24) : (putRecord i r s).resetLow = s.resetLow := rfl
@[simp] theorem putRecord_motionPower (i : Fin 64) (r : Option AlertRecord) (s : Gx24) : (putRecord i r s).motionPower = s.motionPower := rfl
@[simp] theorem putRecord_supervisor (i : Fin 64) (r : Option AlertRecord) (s : Gx24) : (putRecord i r s).supervisor = s.supervisor := rfl
@[simp] theorem putRecord_branchOut (i : Fin 64) (r : Option AlertRecord) (s : Gx24) : (putRecord i r s).branchOut = s.branchOut := rfl
@[simp] theorem putRecord_trunkOut (i : Fin 64) (r : Option AlertRecord) (s : Gx24) : (putRecord i r s).trunkOut = s.trunkOut := rfl
@[simp] theorem putRecord_tp (i : Fin 64) (r : Option AlertRecord) (s : Gx24) : (putRecord i r s).tp = s.tp := rfl
@[simp] theorem putRecord_gc (i : Fin 64) (r : Option AlertRecord) (s : Gx24) : (putRecord i r s).gc = s.gc := rfl
@[simp] theorem putRecord_bs (i : Fin 64) (r : Option AlertRecord) (s : Gx24) : (putRecord i r s).bs = s.bs := rfl
@[simp] theorem putRecord_pd (i : Fin 64) (r : Option AlertRecord) (s : Gx24) : (putRecord i r s).pd = s.pd := rfl
@[simp] theorem putRecord_exhibits (i : Fin 64) (r : Option AlertRecord) (s : Gx24) : (putRecord i r s).exhibits = s.exhibits := rfl
@[simp] theorem putRecord_cr (i : Fin 64) (r : Option AlertRecord) (s : Gx24) : (putRecord i r s).cr = s.cr := rfl
@[simp] theorem putRecord_mu (i : Fin 64) (r : Option AlertRecord) (s : Gx24) : (putRecord i r s).mu = s.mu := rfl
@[simp] theorem putRecord_ac (i : Fin 64) (r : Option AlertRecord) (s : Gx24) : (putRecord i r s).ac = s.ac := rfl
@[simp] theorem putRecord_counters (i : Fin 64) (r : Option AlertRecord) (s : Gx24) : (putRecord i r s).counters = s.counters := rfl
@[simp] theorem putRecord_work (i : Fin 64) (r : Option AlertRecord) (s : Gx24) : (putRecord i r s).work = s.work := rfl
@[simp] theorem putRecord_choices (i : Fin 64) (r : Option AlertRecord) (s : Gx24) : (putRecord i r s).choices = s.choices := rfl
@[simp] theorem putRecord_choicePoint (i : Fin 64) (r : Option AlertRecord) (s : Gx24) : (putRecord i r s).choicePoint = s.choicePoint := rfl

@[simp] theorem takeSlot_estop (i : Fin 64) (r : AlertRecord) (s : Gx24) : (takeSlot i r s).estop = s.estop := rfl
@[simp] theorem takeSlot_resetLow (i : Fin 64) (r : AlertRecord) (s : Gx24) : (takeSlot i r s).resetLow = s.resetLow := rfl
@[simp] theorem takeSlot_motionPower (i : Fin 64) (r : AlertRecord) (s : Gx24) : (takeSlot i r s).motionPower = s.motionPower := rfl
@[simp] theorem takeSlot_supervisor (i : Fin 64) (r : AlertRecord) (s : Gx24) : (takeSlot i r s).supervisor = s.supervisor := rfl
@[simp] theorem takeSlot_branchOut (i : Fin 64) (r : AlertRecord) (s : Gx24) : (takeSlot i r s).branchOut = s.branchOut := rfl
@[simp] theorem takeSlot_trunkOut (i : Fin 64) (r : AlertRecord) (s : Gx24) : (takeSlot i r s).trunkOut = s.trunkOut := rfl
@[simp] theorem takeSlot_tp (i : Fin 64) (r : AlertRecord) (s : Gx24) : (takeSlot i r s).tp = s.tp := rfl
@[simp] theorem takeSlot_gc (i : Fin 64) (r : AlertRecord) (s : Gx24) : (takeSlot i r s).gc = s.gc := rfl
@[simp] theorem takeSlot_bs (i : Fin 64) (r : AlertRecord) (s : Gx24) : (takeSlot i r s).bs = s.bs := rfl
@[simp] theorem takeSlot_pd (i : Fin 64) (r : AlertRecord) (s : Gx24) : (takeSlot i r s).pd = s.pd := rfl
@[simp] theorem takeSlot_exhibits (i : Fin 64) (r : AlertRecord) (s : Gx24) : (takeSlot i r s).exhibits = s.exhibits := rfl
@[simp] theorem takeSlot_cr (i : Fin 64) (r : AlertRecord) (s : Gx24) : (takeSlot i r s).cr = s.cr := rfl
@[simp] theorem takeSlot_mu (i : Fin 64) (r : AlertRecord) (s : Gx24) : (takeSlot i r s).mu = s.mu := rfl
@[simp] theorem takeSlot_ac (i : Fin 64) (r : AlertRecord) (s : Gx24) : (takeSlot i r s).ac = s.ac := rfl
@[simp] theorem takeSlot_counters (i : Fin 64) (r : AlertRecord) (s : Gx24) : (takeSlot i r s).counters = s.counters := rfl
@[simp] theorem takeSlot_work (i : Fin 64) (r : AlertRecord) (s : Gx24) : (takeSlot i r s).work = s.work := rfl
@[simp] theorem takeSlot_choices (i : Fin 64) (r : AlertRecord) (s : Gx24) : (takeSlot i r s).choices = s.choices := rfl
@[simp] theorem takeSlot_choicePoint (i : Fin 64) (r : AlertRecord) (s : Gx24) : (takeSlot i r s).choicePoint = s.choicePoint := rfl

@[simp] theorem setPower_estop (s : Gx24) : (setPower s).estop = s.estop := rfl
@[simp] theorem setPower_resetLow (s : Gx24) : (setPower s).resetLow = s.resetLow := rfl
@[simp] theorem setPower_motionPower (s : Gx24) : (setPower s).motionPower = powerOn s := rfl
@[simp] theorem setPower_supervisor (s : Gx24) : (setPower s).supervisor = s.supervisor := rfl
@[simp] theorem setPower_branchOut (s : Gx24) : (setPower s).branchOut = s.branchOut := rfl
@[simp] theorem setPower_trunkOut (s : Gx24) : (setPower s).trunkOut = s.trunkOut := rfl
@[simp] theorem setPower_tp (s : Gx24) : (setPower s).tp = s.tp := rfl
@[simp] theorem setPower_gc (s : Gx24) : (setPower s).gc = s.gc := rfl
@[simp] theorem setPower_bs (s : Gx24) : (setPower s).bs = s.bs := rfl
@[simp] theorem setPower_pd (s : Gx24) : (setPower s).pd = s.pd := rfl
@[simp] theorem setPower_exhibits (s : Gx24) : (setPower s).exhibits = s.exhibits := rfl
@[simp] theorem setPower_cr (s : Gx24) : (setPower s).cr = s.cr := rfl
@[simp] theorem setPower_mu (s : Gx24) : (setPower s).mu = s.mu := rfl
@[simp] theorem setPower_au (s : Gx24) : (setPower s).au = s.au := rfl
@[simp] theorem setPower_ac (s : Gx24) : (setPower s).ac = s.ac := rfl
@[simp] theorem setPower_counters (s : Gx24) : (setPower s).counters = s.counters := rfl
@[simp] theorem setPower_work (s : Gx24) : (setPower s).work = s.work := rfl
@[simp] theorem setPower_choices (s : Gx24) : (setPower s).choices = s.choices := rfl
@[simp] theorem setPower_choicePoint (s : Gx24) : (setPower s).choicePoint = s.choicePoint := rfl

end Sys2Proof.Machine
end

