-- ==== Sys2Proof/Laws/Tables.lean ====
section
/-! SUPPORT. The laws of tables, of the searches and walks over their rows, and of counters. -/

namespace Sys2Proof.Machine

variable {α σ : Type} {n : Nat}

@[simp] theorem tget_tput_same (t : Tbl n α) (i : Fin n) (x : α) : tget (tput t i x) i = x := by
  simp [tget, tput]

theorem tget_tput_other (t : Tbl n α) {i j : Fin n} (h : i ≠ j) (x : α) : tget (tput t i x) j = tget t j := by
  have : i.val ≠ j.val := fun e => h (Fin.ext e)
  simp [tget, tput, this]

theorem tget_tput (t : Tbl n α) (i j : Fin n) (x : α) : tget (tput t i x) j = if i = j then x else tget t j := by
  by_cases h : i = j
  · subst h; simp
  · simp [h, tget_tput_other t h]

@[simp] theorem tget_tmod_same (t : Tbl n α) (i : Fin n) (f : α → α) : tget (tmod t i f) i = f (tget t i) := by
  simp [tmod]

theorem tget_tmod_other (t : Tbl n α) {i j : Fin n} (h : i ≠ j) (f : α → α) : tget (tmod t i f) j = tget t j := by
  simp [tmod, tget_tput_other t h]

theorem tget_tmod (t : Tbl n α) (i j : Fin n) (f : α → α) :
    tget (tmod t i f) j = if i = j then f (tget t i) else tget t j := by
  simp [tmod, tget_tput]

@[simp] theorem tget_tmake (f : Fin n → α) (i : Fin n) : tget (tmake f) i = f i := by
  simp [tget, tmake]

theorem tbl_ext {t u : Tbl n α} (h : ∀ i, tget t i = tget u i) : t = u := by
  apply Vector.ext
  intro i hi
  exact h ⟨i, hi⟩

@[simp] theorem tput_tget (t : Tbl n α) (i : Fin n) : tput t i (tget t i) = t :=
  tbl_ext fun j => by rw [tget_tput]; split <;> simp_all

theorem anyRow_iff {p : Fin n → Bool} : anyRow p = true ↔ ∃ i, p i = true := by
  simp [anyRow, List.any_eq_true]

theorem anyRow_false {p : Fin n → Bool} : anyRow p = false ↔ ∀ i, p i = false := by
  simp [anyRow, List.any_eq_false]

theorem firstRow_some {p : Fin n → Bool} {i : Fin n} (h : firstRow p = some i) : p i = true :=
  List.find?_some h

theorem firstRow_none {p : Fin n → Bool} : firstRow p = none ↔ ∀ i, p i = false := by
  simp [firstRow, List.find?_eq_none]

/-- What every step of a walk over a list keeps, the walk keeps. -/
theorem forList_keeps {P : σ → Prop} {l : List α} {f : α → σ → σ} (hf : ∀ x s, P s → P (f x s)) {s : σ} (h : P s) :
    P (forList l f s) := by
  induction l generalizing s with
  | nil => exact h
  | cons x l ih => exact ih (hf x s h)

/-- What every step of a walk over the rows keeps, the walk keeps. -/
theorem forRows_keeps {P : σ → Prop} {f : Fin n → σ → σ} (hf : ∀ i s, P s → P (f i s)) {s : σ} (h : P s) :
    P (forRows f s) := forList_keeps (l := List.finRange n) hf h

@[simp] theorem forList_nil (f : α → σ → σ) (s : σ) : forList [] f s = s := rfl

@[simp] theorem forList_cons (x : α) (l : List α) (f : α → σ → σ) (s : σ) :
    forList (x :: l) f s = forList l f (f x s) := rfl

/-- A walk whose every step leaves this state alone leaves it alone. -/
theorem forList_id {l : List α} {f : α → σ → σ} {s : σ} (hf : ∀ x, f x s = s) : forList l f s = s := by
  induction l with
  | nil => rfl
  | cons x l ih => rw [forList_cons, hf x, ih]

/-- A walk over the rows whose every step leaves this state alone leaves it alone. -/
theorem forRows_id {f : Fin n → σ → σ} {s : σ} (hf : ∀ i, f i s = s) : forRows f s = s := forList_id hf

/-- A counter never passes 65535, and stands there only with its mark once something has been added. -/
theorem Counter.add_value (k : Nat) (c : Counter) : (c.add k).value.toNat = min (c.value.toNat + k) 65535 := by
  unfold Counter.add
  split
  · simp only [BitVec.toNat_ofNat]; omega
  · simp only [BitVec.reduceToNat]; omega

theorem Counter.add_mark (k : Nat) (c : Counter) :
    (c.add k).mark = (c.mark || decide (65535 ≤ c.value.toNat + k)) := by
  unfold Counter.add
  split
  · have : ¬ 65535 ≤ c.value.toNat + k := by omega
    simp [this]
  · have : 65535 ≤ c.value.toNat + k := by omega
    simp [this]

end Sys2Proof.Machine
end

