-- ==== Sys2Proof/Laws/Settle.lean ====
section
/-! SUPPORT. The form of every command: an operation on the part, then the notices it gave, taken one after another. -/

namespace Sys2Proof.Machine

variable {s t : Gx24}

/-- With nothing in flight there is nothing to take. -/
@[simp] theorem settleWith_of_empty (n : Nat) (h : s.work = []) : settleWith n s = s := by
  cases n with
  | zero => rfl
  | succ n => simp [settleWith, h]

theorem settle_of_empty (h : s.work = []) : settle s = s := settleWith_of_empty _ h

/-- A lone notice may be taken. -/
theorem nextNotices_single (w : Work) : nextNotices [w] = [w] := by cases w <;> rfl

/-- A lone notice is taken next. -/
theorem deliverOne_single {w : Work} (h : s.work = [w]) : deliverOne s = deliver w { s with work := [] } := by
  simp [deliverOne, h, nextNotices_single, chooseNotice]

/-- A lone notice is taken, and then what it gave. -/
theorem settle_single {w : Work} (h : s.work = [w]) :
    settle s = settleWith 8191 (deliver w { s with work := [] }) := by
  unfold settle settleLimit
  rw [settleWith, if_neg (by simp [h]), deliverOne_single h]

/-- A lone notice that gives no other is all there is to take. -/
theorem settle_lone {w : Work} (h : s.work = [w]) (h' : (deliver w { s with work := [] }).work = []) :
    settle s = deliver w { s with work := [] } := by
  rw [settle_single h, settleWith_of_empty _ h']

/-- Choosing changes only what the model draws its free choices from, and chooses a notice of the list. -/
theorem chooseNotice_spec (ws : List Work) (s : Gx24) :
    ∃ cs n, (chooseNotice ws s).2 = { s with choices := cs, choicePoint := n } ∧
      ∀ w, (chooseNotice ws s).1 = some w → w ∈ ws := by
  match ws with
  | [] => exact ⟨s.choices, s.choicePoint, rfl, by simp [chooseNotice]⟩
  | [w] => exact ⟨s.choices, s.choicePoint, rfl, by simp [chooseNotice]⟩
  | w :: v :: rest =>
    simp only [chooseNotice, openChoice]
    split
    · exact ⟨_, _, rfl, fun _ h => List.mem_of_getElem? h⟩
    · exact ⟨_, _, rfl, fun _ h => List.mem_of_getElem? h⟩

/-- What taking any one notice keeps, taking the next keeps. -/
theorem deliverOne_keeps {P : Gx24 → Prop}
    (frame : ∀ {s : Gx24} cs n ws, P s → P { s with choices := cs, choicePoint := n, work := ws })
    (hd : ∀ w {s}, P s → P (deliver w s)) (h : P s) : P (deliverOne s) := by
  obtain ⟨cs, k, he, -⟩ := chooseNotice_spec (nextNotices s.work) s
  unfold deliverOne
  split <;> rename_i hc <;> rw [hc] at he <;> subst he
  · exact hd _ (frame (s := s) cs k _ h)
  · exact frame (s := s) cs k s.work h

/-- What taking any one notice keeps, taking them all keeps. -/
theorem settle_keeps {P : Gx24 → Prop}
    (frame : ∀ {s : Gx24} cs n ws, P s → P { s with choices := cs, choicePoint := n, work := ws })
    (hd : ∀ w {s}, P s → P (deliver w s)) (h : P s) : P (settle s) := by
  suffices ∀ n s, P s → P (settleWith n s) from this _ _ h
  intro n
  induction n with
  | zero => exact fun _ h => h
  | succ n ih =>
    intro s h
    unfold settleWith
    split
    exacts [h, ih _ (deliverOne_keeps frame hd h)]

/-- What taking any one notice keeps, taking some of them keeps. -/
theorem settleSome_keeps {P : Gx24 → Prop}
    (frame : ∀ {s : Gx24} cs n ws, P s → P { s with choices := cs, choicePoint := n, work := ws })
    (hd : ∀ w {s}, P s → P (deliver w s)) (h : P s) : P (settleSome s) := by
  suffices ∀ n s, P s → P (settleSomeWith n s) from this _ _ h
  intro n
  induction n with
  | zero => exact fun _ h => h
  | succ n ih =>
    intro s h
    have choose : P (openChoice s).2 := by
      unfold openChoice; split
      exacts [frame _ s.choicePoint s.work h, frame s.choices _ s.work h]
    unfold settleSomeWith; dsimp only; repeat' split
    exacts [h, choose, ih _ (deliverOne_keeps frame hd choose), ih _ (deliverOne_keeps frame hd h)]

/-- A command's outcome is a next state, whatever the level of RESET_N; the queue stays. -/
theorem State.actOr_eq (held f : Gx24 → Gx24) (s : State) :
    s.actOr held f = .next { s with part := if s.part.resetLow then held s.part else settle (f s.part) } := rfl

/-- With RESET_N released a command's outcome is the part it made, with every notice taken. -/
theorem State.actOr_released {held f : Gx24 → Gx24} {s : State} (h : s.part.resetLow = false) :
    s.actOr held f = .next { s with part := settle (f s.part) } := by simp [State.actOr_eq, h]

/-- The same of a command that has no effect while RESET_N is asserted. -/
theorem State.act_eq {f : Gx24 → Gx24} {s : State} (h : s.part.resetLow = false) :
    s.act f = .next { s with part := settle (f s.part) } := State.actOr_released h

/-- While RESET_N is asserted such a command has no effect. -/
theorem State.act_held {f : Gx24 → Gx24} {s : State} (h : s.part.resetLow = true) : s.act f = .next s := by
  simp [State.act, State.actOr_eq, h]

/-- A command whose effect gives no notice. -/
theorem State.act_of_empty {f : Gx24 → Gx24} {s : State} (hl : s.part.resetLow = false) (h : (f s.part).work = []) :
    s.act f = .next { s with part := f s.part } := by
  rw [State.act_eq hl, settle_of_empty h]

/-- A frame for this part reaches its owner and is counted. -/
theorem takeFrame_addressed {handle : Gx24 → Gx24} (h : s.tp.node ≠ broadcast) :
    takeFrame handle s = handle (growTrunk .framesTaken s) := if_neg h

/-- A part whose straps read 15 counts every frame but TICK as a type error. -/
theorem takeFrame_unaddressed {handle : Gx24 → Gx24} (h : s.tp.node = broadcast) :
    takeFrame handle s = growTrunk .typeErrors s := if_pos h

end Sys2Proof.Machine
end

