-- ==== Sys2Proof/Laws/Keeps.lean ====
section
/-! SUPPORT. What the blocks keep: a property of the part that the few updates of `Kept` keep is kept by every operation
built from them, and so by taking every notice. -/

namespace Sys2Proof.Machine

/-- The two parts agree on the control pins, on the trunk, the clock, the axes, the Alert Unit and the exhibits' modes. -/
structure SameCore (s t : Gx24) : Prop where
  estop : t.estop = s.estop
  resetLow : t.resetLow = s.resetLow
  motionPower : t.motionPower = s.motionPower
  supervisor : t.supervisor = s.supervisor
  modes : ∀ e, (exhibitOf e t).mode = (exhibitOf e s).mode
  tp : t.tp = s.tp
  gc : t.gc = s.gc
  axes : t.mu.axes = s.mu.axes
  au : t.au = s.au

/-- A still axis stays still, and a stored setpoint without drive-enable stays without it. -/
def Axis.Stays (x y : Axis) : Prop :=
  (x.still = true → y.still = true) ∧ (driveIsOff x.setpoint = true → driveIsOff y.setpoint = true)

/-- The updates that keep `P`: those that change nothing of the core, and each named change of the core. While
ESTOP_N is asserted an axis changes as `Axis.Stays` allows. -/
structure Kept (P : Gx24 → Prop) : Prop where
  frame : ∀ {s t}, SameCore s t → P s → P t
  missed : ∀ {s} n, P s → P { s with gc := { s.gc with missed := n } }
  up : ∀ {s} f, P s → P (sendUp f s)
  axis : ∀ {s} a f, (s.estop = true → (axisOf a s).Stays (f (axisOf a s))) → P s → P (modAxis a f s)
  raise : ∀ {s} k, P s → P (raise k s)
  endCondition : ∀ {s} k, P s → P (endCondition k s)
  acknowledge : ∀ {s} l, P s → P (acknowledge l s).2
  render : ∀ {s}, P s → P (render s)

/-- Whatever axis changes, `P` is kept while ESTOP_N stands as it does. -/
def Free (P : Gx24 → Prop) (s : Gx24) : Prop :=
  ∀ {t}, t.estop = s.estop → ∀ a f, P t → P (modAxis a f t)

/-- The axis may be changed freely: every axis may, or this one is not still. -/
def Loose (P : Gx24 → Prop) (a : Fin 8) (s : Gx24) : Prop := Free P s ∨ (axisOf a s).still = false

namespace Kept

variable {P : Gx24 → Prop} {s : Gx24} (k : Kept P)
include k

/-! ### Updates outside the core -/

theorem modStation (st : Fin 24) (f : Station → Station) (h : P s) : P (modStation st f s) :=
  k.frame (s := s) ⟨rfl, rfl, rfl, rfl, fun _ => rfl, rfl, rfl, rfl, rfl⟩ h
/-- An exhibit changed in anything but its mode. -/
theorem modExhibit (e : Fin 16) (f : Exhibit → Exhibit) (h : P s) (hf : ∀ x, (f x).mode = x.mode := by intro _; rfl) :
    P (modExhibit e f s) :=
  k.frame (s := s) ⟨rfl, rfl, rfl, rfl, fun e' => by
    simp only [exhibitOf, modExhibit_exhibits, tget_tmod]; split <;> simp_all, rfl, rfl, rfl, rfl⟩ h
theorem modRunner (e : Fin 16) (f : Runner → Runner) (h : P s) : P (modRunner e f s) :=
  k.frame (s := s) ⟨rfl, rfl, rfl, rfl, fun _ => rfl, rfl, rfl, rfl, rfl⟩ h
theorem growStation (st : Fin 24) (c : StationCounter) (n : Nat) (h : P s) : P (growStation st c n s) :=
  k.frame (s := s) ⟨rfl, rfl, rfl, rfl, fun _ => rfl, rfl, rfl, rfl, rfl⟩ h
theorem growExhibit (e : Fin 16) (c : ExhibitCounter) (n : Nat) (h : P s) : P (growExhibit e c n s) :=
  k.frame (s := s) ⟨rfl, rfl, rfl, rfl, fun _ => rfl, rfl, rfl, rfl, rfl⟩ h
theorem growAxis (a : Fin 8) (c : AxisCounter) (h : P s) : P (growAxis a c s) := k.frame (s := s) ⟨rfl, rfl, rfl, rfl, fun _ => rfl, rfl, rfl, rfl, rfl⟩ h
theorem growAlert (c : AlertCounter) (h : P s) : P (growAlert c s) := k.frame (s := s) ⟨rfl, rfl, rfl, rfl, fun _ => rfl, rfl, rfl, rfl, rfl⟩ h
theorem growTrunk (c : TrunkCounter) (h : P s) : P (growTrunk c s) := k.frame (s := s) ⟨rfl, rfl, rfl, rfl, fun _ => rfl, rfl, rfl, rfl, rfl⟩ h
theorem growUsage (i : Fin 64) (n : Nat) (h : P s) : P (growUsage i n s) := k.frame (s := s) ⟨rfl, rfl, rfl, rfl, fun _ => rfl, rfl, rfl, rfl, rfl⟩ h
theorem post (w : Work) (h : P s) : P (post w s) := k.frame (s := s) ⟨rfl, rfl, rfl, rfl, fun _ => rfl, rfl, rfl, rfl, rfl⟩ h
theorem dropEnded (e : Fin 16) (h : P s) : P (dropEnded e s) := k.frame (s := s) ⟨rfl, rfl, rfl, rfl, fun _ => rfl, rfl, rfl, rfl, rfl⟩ h
theorem writeLamp (st : Fin 24) (o : Fin 8) (p : LampPattern) (h : P s) : P (writeLamp st o p s) := k.modStation _ _ h
theorem reloadIdle (e : Fin 16) (h : P s) : P (reloadIdle e s) := k.frame (s := s) ⟨rfl, rfl, rfl, rfl, fun _ => rfl, rfl, rfl, rfl, rfl⟩ h
theorem reloadQuiet (h : P s) : P (reloadQuiet s) := k.frame (s := s) ⟨rfl, rfl, rfl, rfl, fun _ => rfl, rfl, rfl, rfl, rfl⟩ h
theorem clearStories (e : Fin 16) (h : P s) : P (clearStories e s) := k.frame (s := s) ⟨by simp, by simp, by simp, by simp, by simp [exhibitOf], by simp, by simp, by simp, by simp⟩ h
theorem activity (x : ActivityUnit) (h : P s) : P { s with ac := x } := k.frame (s := s) ⟨rfl, rfl, rfl, rfl, fun _ => rfl, rfl, rfl, rfl, rfl⟩ h
theorem dispatcher (x : Dispatcher) (h : P s) : P { s with pd := x } := k.frame (s := s) ⟨rfl, rfl, rfl, rfl, fun _ => rfl, rfl, rfl, rfl, rfl⟩ h
theorem branch (x : Branch) (h : P s) : P { s with bs := x } := k.frame (s := s) ⟨rfl, rfl, rfl, rfl, fun _ => rfl, rfl, rfl, rfl, rfl⟩ h
theorem chains (x : Chains) (h : P s) : P { s with cr := x } := k.frame (s := s) ⟨rfl, rfl, rfl, rfl, fun _ => rfl, rfl, rfl, rfl, rfl⟩ h
theorem counters (x : Counters) (h : P s) : P { s with counters := x } := k.frame (s := s) ⟨rfl, rfl, rfl, rfl, fun _ => rfl, rfl, rfl, rfl, rfl⟩ h
theorem inFlight (cs : List Nat) (n : Nat) (ws : List Work) (h : P s) :
    P { s with choices := cs, choicePoint := n, work := ws } := k.frame (s := s) ⟨rfl, rfl, rfl, rfl, fun _ => rfl, rfl, rfl, rfl, rfl⟩ h

theorem showMode (e : Fin 16) (h : P s) : P (showMode e s) := by
  unfold Machine.showMode; split
  · exact k.writeLamp _ _ _ h
  · exact h

theorem maskEvent (e : Fin 16) (m : IdleMask → Bool) (h : P s) : P (maskEvent e m s) := by
  unfold Machine.maskEvent; split
  · exact k.reloadIdle e h
  · exact h

theorem pressNotice (e : Fin 16) (v : Bool) (h : P s) : P (pressNotice e v s) := by
  have h := k.maskEvent e (·.anyPress) h
  unfold Machine.pressNotice; dsimp only; split
  · split
    · exact k.activity _ (k.reloadQuiet h)
    · exact k.reloadQuiet h
  · exact h

theorem storePause (r : Option (Fin 128)) (l : Link) (h : P s) : P (storePause r l s) := by
  unfold Machine.storePause; repeat' split
  all_goals first | exact h | exact k.dispatcher _ h

theorem startIndex (r : Fin 128) (h : P s) : P (startIndex r s).2 := by
  unfold Machine.startIndex; dsimp only; split
  · exact k.dispatcher _ h
  · exact h

/-! ### Runners (chapter 4) -/

/-- An axis keeps its state and its setpoint. -/
theorem axisKeeps (a : Fin 8) (f : Axis → Axis) (hs : ∀ x, (f x).state = x.state) (hp : ∀ x, (f x).setpoint = x.setpoint)
    (h : P s) : P (modAxis a f s) :=
  k.axis a f (fun _ => ⟨fun hx => by simpa [Axis.still, hs, hp] using hx, fun hx => by simpa [hp] using hx⟩) h

theorem haltLoopEnd (a : Fin 8) (h : P s) : P (haltLoopEnd a s) := by
  unfold Machine.haltLoopEnd; split
  all_goals first | exact h | exact k.axisKeeps _ _ (fun _ => rfl) (fun _ => rfl) h

theorem loopsToEnd (e : Fin 16) (h : P s) : P (loopsToEnd e s) :=
  forRows_keeps (fun a s h => by split; exacts [k.haltLoopEnd a h, h]) h

theorem chainEnd (e : Fin 16) (h : P s) : P (chainEnd e s) :=
  k.post _ (k.modRunner _ _ (k.growExhibit _ _ _ (k.maskEvent _ _ (k.loopsToEnd e h))))

theorem chainPause (e : Fin 16) (l : Link) (h : P s) : P (chainPause e l s) := k.chainEnd e (k.storePause _ l h)

theorem follow (e : Fin 16) (l : Link) (h : P s) : P (follow e l s) := by
  unfold Machine.follow; split
  · exact k.post _ (k.modRunner _ _ h)
  · exact k.chainEnd e h

theorem leave (e : Fin 16) (h : P s) : P (leave e s) := k.follow e _ h

theorem suspend (e : Fin 16) (r : RunnerState) (h : P s) : P (suspend e r s) := k.modRunner _ _ h

theorem endCueWaits (p : Fin 24 → Serial → Bool) (h : P s) : P (endCueWaits p s) :=
  forRows_keeps (fun e s h => by
    split
    · split
      · exact k.leave e h
      · exact h
    · exact h) h

theorem endStationWaits (st : Fin 24) (h : P s) : P (endStationWaits st s) := k.endCueWaits _ h

theorem supersedeCues (st : Fin 24) (h : P s) : P (supersedeCues st s) := k.endCueWaits _ h

theorem writeCue (st : Fin 24) (n : Byte) (h : P s) : P (writeCue st n s).2 := by
  by_cases ha : (stationOf st s).state = .absent
  · rw [Machine.writeCue, if_pos ha]; exact h
  · rw [Machine.writeCue, if_neg ha]; dsimp only; exact k.supersedeCues st (k.modStation st _ h)

theorem cueReported (st : Fin 24) (h : P s) : P (cueReported st s) := by
  unfold Machine.cueReported; dsimp only; split
  · exact h
  · exact k.endCueWaits _ h

/-! ### Axes (chapters 5 and 6) -/

omit k in
theorem axisOf_modAxis_same (a : Fin 8) (f : Axis → Axis) : axisOf a (Machine.modAxis a f s) = f (axisOf a s) := by
  simp [axisOf]

/-- A loose axis is changed freely but for its setpoint. -/
theorem looseAxis (a : Fin 8) (f : Axis → Axis) (l : Loose P a s) (h : P s)
    (hp : ∀ x, (f x).setpoint = x.setpoint := by intro _; rfl) : P (modAxis a f s) := by
  rcases l with l | l
  · exact l rfl a f h
  · exact k.axis a f (fun _ => ⟨fun hx => by simp [l] at hx, fun hx => by rw [hp]; exact hx⟩) h

omit k in
/-- A loose axis stays loose when it does not become still. -/
theorem Loose.mod {a : Fin 8} {f : Axis → Axis} (l : Loose P a s) (hf : ∀ x, x.still = false → (f x).still = false) :
    Loose P a (modAxis a f s) := by
  rcases l with l | l
  · exact .inl fun he a f h => l he a f h
  · exact .inr (by rw [axisOf_modAxis_same]; exact hf _ l)

omit k in
/-- An axis in a state other than OFF and FAULT is not still. -/
theorem notStill {x : Axis} (h1 : x.state ≠ .off) (h2 : x.state ≠ .fault) : x.still = false := by
  simp [Axis.still, h1, h2]

omit k in
theorem Loose.of {a : Fin 8} (h : (axisOf a s).still = false) : Loose P a s := .inr h

theorem startSegment (a : Fin 8) (l : Loose P a s) (h : P s) : P (startSegment a s) := by
  unfold Machine.startSegment; dsimp only; split
  · split
    · exact k.growAxis _ _ (k.looseAxis _ _ l h)
    · exact k.looseAxis _ _ l h
  · exact h

omit k in
theorem started_notStill (x : Axis) (g : Segment) : (x.started g).still = false := by
  unfold Axis.started; apply notStill <;> dsimp only <;> split <;> simp

theorem startProgram (a : Fin 8) (j : Job) (m : RunMode) (l : Loose P a s) (h : P s) : P (startProgram a j m s) := by
  unfold Machine.startProgram; dsimp only
  refine k.startSegment a ?_ (k.growAxis _ _ (k.looseAxis _ _ l h))
  refine .inr ?_
  show (axisOf a (Machine.modAxis a _ s)).still = false
  rw [axisOf_modAxis_same]; apply notStill <;> dsimp only <;> split <;> simp

theorem moveReply (a : Fin 8) (m : Bool) (j : Job) (r : MoveResult) (w : RefuseReason) (h : P s) :
    P (moveReply a m j r w s) := k.up _ h

theorem runnerGranted (e : Fin 16) (a : Fin 8) (h : P s) : P (runnerGranted e a s) := by
  unfold Machine.runnerGranted; repeat' split
  exacts [k.suspend _ _ h, k.leave e h, h]

theorem runnerSkipped (e : Fin 16) (a : Fin 8) (h : P s) : P (runnerSkipped e a s) := by
  unfold Machine.runnerSkipped; split
  exacts [k.leave e (k.growExhibit _ _ _ h), h]

theorem claimResult (a : Fin 8) (c : Claim) (r : MoveResult) (w : RefuseReason) (h : P s) :
    P (claimResult a c r w s) := by
  unfold Machine.claimResult; repeat' split
  exacts [k.runnerGranted _ _ h, k.runnerSkipped _ _ h, k.moveReply _ _ _ _ _ h, k.moveReply _ _ _ _ _ h]

theorem grantAxis (a : Fin 8) (l : Loose P a s) (h : P s) : P (grantAxis a s) := by
  unfold Machine.grantAxis; split
  · exact h
  · refine k.claimResult _ _ _ _ (k.startProgram _ _ _ ?_ (k.growAxis _ _ (k.axisKeeps _ _ (fun _ => rfl) (fun _ => rfl) h)))
    exact Loose.mod (s := s) l (fun _ hx => hx)

theorem endGuardHeld (a : Fin 8) (h : P s) : P (endGuardHeld a s) := by
  unfold Machine.endGuardHeld; dsimp only; split
  exacts [k.endCondition _ (k.axisKeeps _ _ (fun _ => rfl) (fun _ => rfl) h), k.axisKeeps _ _ (fun _ => rfl) (fun _ => rfl) h]

theorem endAxisFault (a : Fin 8) (h : P s) : P (endAxisFault a s) := by
  unfold Machine.endAxisFault; dsimp only; split
  exacts [k.endCondition _ (k.axisKeeps _ _ (fun _ => rfl) (fun _ => rfl) h), k.axisKeeps _ _ (fun _ => rfl) (fun _ => rfl) h]

theorem forgetStep (a : Fin 8) (h : P s) : P (forgetStep a s) := by
  unfold Machine.forgetStep; repeat' split
  exacts [k.branch _ h, h, h]

omit k in
theorem driveOff_still (x : Axis) : driveIsOff x.driveOff.setpoint = true := by
  unfold Axis.driveOff; cases x.setpoint <;> rfl

theorem goOff (a : Fin 8) (h : P s) : P (goOff a s) := by
  unfold Machine.goOff; dsimp only
  refine k.endAxisFault a (k.endGuardHeld a (k.forgetStep a (k.axis _ _ (fun _ => ⟨fun _ => ?_, fun _ => ?_⟩) h)))
  · unfold Axis.still; simpa using driveOff_still (axisOf a s)
  · exact driveOff_still (axisOf a s)

theorem releaseAxis (a : Fin 8) (l : Loose P a s) (h : P s) : P (releaseAxis a s) := by
  unfold Machine.releaseAxis; dsimp only
  have h1 := k.axisKeeps a (fun x => { x with owner := none }) (fun _ => rfl) (fun _ => rfl) h
  split
  · exact k.goOff a h1
  · exact k.grantAxis a (Loose.mod l (fun _ hx => hx)) h1

omit k in
theorem ended_notStill (x : Axis) : (x.ended .idle).still = false := notStill (by simp [Axis.ended]) (by simp [Axis.ended])

theorem endHaltedQuietly (a : Fin 8) (l : Loose P a s) (h : P s) : P (endHaltedQuietly a s) := by
  unfold Machine.endHaltedQuietly
  refine k.releaseAxis a (.inr ?_) (k.growAxis _ _ (k.looseAxis _ _ l h))
  show (axisOf a (Machine.modAxis a _ s)).still = false
  rw [axisOf_modAxis_same]; exact ended_notStill _

/-- A NOW halt keeps `P` when the end it may give a loose axis does. -/
theorem haltNowWith {fin : Fin 8 → Gx24 → Gx24} (a : Fin 8) (hf : (axisOf a s).still = false → P (fin a s)) (h : P s) :
    P (haltNowWith fin a s) := by
  unfold Machine.haltNowWith; dsimp only
  have live : ∀ {st}, (axisOf a s).state = st → st ≠ .off → st ≠ .fault → (axisOf a s).still = false :=
    fun hs h1 h2 => notStill (hs ▸ h1) (hs ▸ h2)
  split <;> rename_i hs <;> try exact h
  · split
    · exact hf (live hs nofun nofun)
    · exact k.looseAxis _ _ (.inr (live hs nofun nofun)) h
  · exact hf (live hs nofun nofun)
  · split
    · exact hf (live hs nofun nofun)
    · exact k.looseAxis _ _ (.inr (live hs nofun nofun)) h

theorem withdrawClaims (e : Fin 16) (h : P s) : P (withdrawClaims e s) := by
  unfold Machine.withdrawClaims
  refine forRows_keeps (fun a s h => ?_) h
  exact k.axisKeeps a _ (fun _ => rfl) (fun _ => rfl) h

theorem haltOwned (e : Fin 16) (h : P s) : P (haltOwned e s) :=
  forRows_keeps (fun a s h => by
    split
    · exact k.haltNowWith a (fun hl => k.endHaltedQuietly a (.inr hl) h) h
    · exact h) h

theorem abortChain (e : Fin 16) (h : P s) : P (abortChain e s) := by
  unfold Machine.abortChain; split
  exacts [h, k.growExhibit _ _ _ (k.haltOwned e (k.withdrawClaims e (k.modRunner _ _ h)))]

theorem abortReported (e : Fin 16) (h : P s) : P (abortReported e s) := by
  unfold Machine.abortReported; split
  exacts [h, k.post _ (k.abortChain e h)]

theorem endResult (a : Fin 8) (o : Owner) (j : Job) (r : MoveResult) (h : P s) : P (endResult a o j r s) := by
  unfold Machine.endResult; repeat' split
  exacts [k.leave _ h, k.abortReported _ h, h, k.moveReply _ _ _ _ _ h, k.moveReply _ _ _ _ _ h]

theorem tellOwner (a : Fin 8) (o : Option Owner) (j : Option Job) (r : MoveResult) (h : P s) : P (tellOwner a o j r s) := by
  unfold Machine.tellOwner; split
  exacts [k.endResult _ _ _ _ h, h]

theorem timeOutClaim (a : Fin 8) (c : Claimant) (h : P s) : P (timeOutClaim a c s) := by
  unfold Machine.timeOutClaim; dsimp only; split
  exacts [k.claimResult _ _ _ _ (k.growAxis _ _ (k.axisKeeps _ _ (fun _ => rfl) (fun _ => rfl) h)), h]

theorem replaceClaim (a : Fin 8) (c : Claimant) (h : P s) : P (replaceClaim a c s) := by
  unfold Machine.replaceClaim; dsimp only; split
  exacts [k.claimResult _ _ _ _ (k.growAxis _ _ (k.axisKeeps _ _ (fun _ => rfl) (fun _ => rfl) h)), h]

theorem refuseAll (a : Fin 8) (w : RefuseReason) (h : P s) : P (refuseAll a w s) :=
  forList_keeps (fun _ _ h => k.claimResult _ _ _ _ h) (k.axisKeeps a _ (fun _ => rfl) (fun _ => rfl) h)

theorem recordFault (a : Fin 8) (c : FaultCause) (h : P s) : P (recordFault a c s) :=
  k.raise _ (k.growAxis _ _ (k.axisKeeps a _ (fun _ => rfl) (fun _ => rfl) h))

theorem faultAxis (a : Fin 8) (c : FaultCause) (h : P s) : P (faultAxis a c s) := by
  unfold Machine.faultAxis; dsimp only; split
  · exact h
  · have h1 : P (Machine.modAxis a (fun x => x.driveOff.ended .fault) s) := by
      refine k.axis _ _ (fun _ => ⟨fun _ => ?_, fun _ => ?_⟩) h
      · unfold Axis.still; simpa [Axis.ended] using driveOff_still (axisOf a s)
      · exact driveOff_still (axisOf a s)
    have h2 := k.recordFault a c (k.refuseAll a .fault
      (k.axisKeeps a (fun x => { x with owner := none }) (fun _ => rfl) (fun _ => rfl) (k.tellOwner a (axisOf a s).owner
        (axisOf a s).job .fault h1)))
    split
    exacts [k.goOff a h2, h2]

end Kept

end Sys2Proof.Machine
end

