-- ==== Sys2Proof/Laws/KeepsAlerts.lean ====
section
/-! SUPPORT. The Alert Unit's operations keep what does not speak of the Alert Unit: a property of ESTOP_N, the trunk, the
clock and the axes alone needs no look at alerts. -/

namespace Sys2Proof.Machine

/-- The two parts differ at most in the Alert Unit, SUPERVISOR, MOTION_PWR, the beacons of the images, the notices in
flight and the Alert Unit's and Trunk Port's counters. -/
structure SameOutside (s t : Gx24) : Prop where
  estop : t.estop = s.estop
  resetLow : t.resetLow = s.resetLow
  branchOut : t.branchOut = s.branchOut
  trunkOut : t.trunkOut = s.trunkOut
  tp : t.tp = s.tp
  gc : t.gc = s.gc
  bs : t.bs = { s.bs with stations := t.bs.stations }
  stations : ∀ st, stationOf st t = { stationOf st s with beacon := (stationOf st t).beacon }
  pd : t.pd = s.pd
  exhibits : t.exhibits = s.exhibits
  cr : t.cr = s.cr
  mu : t.mu = s.mu
  ac : t.ac = s.ac
  counters : t.counters = { s.counters with alert := t.counters.alert, trunk := t.counters.trunk }
  choices : t.choices = s.choices
  choicePoint : t.choicePoint = s.choicePoint

/-- Parts with the same stations agree outside when they do in the rest. -/
theorem SameOutside.plain {s t : Gx24} (h : t = { s with
    au := t.au, supervisor := t.supervisor, motionPower := t.motionPower, work := t.work
    counters := { s.counters with alert := t.counters.alert, trunk := t.counters.trunk } }) : SameOutside s t := by
  have e : ∀ {α : Type} (f : Gx24 → α), f t = f { s with
      au := t.au, supervisor := t.supervisor, motionPower := t.motionPower, work := t.work
      counters := { s.counters with alert := t.counters.alert, trunk := t.counters.trunk } } := fun f => congrArg f h
  refine ⟨e (·.estop), e (·.resetLow), e (·.branchOut), e (·.trunkOut), e (·.tp), e (·.gc), ?_, fun st => ?_, e (·.pd), e (·.exhibits),
    e (·.cr), e (·.mu), e (·.ac), e (·.counters), e (·.choices), e (·.choicePoint)⟩
  · rw [e (·.bs)]
  · have : stationOf st t = stationOf st s := e (stationOf st)
    rw [this]

/-- The property looks at nothing the Alert Unit moves but the up queue, and lets up frames be given. -/
structure AlertBlind (P : Gx24 → Prop) : Prop where
  frame : ∀ {s t}, SameOutside s t → P s → P t
  up : ∀ {s} f, P s → P (sendUp f s)

namespace AlertBlind

variable {P : Gx24 → Prop} {s : Gx24} (k : AlertBlind P)
include k

theorem alerts (x : Alerts) (h : P s) : P { s with au := x } := k.frame (s := s) (.plain rfl) h
theorem supervisor (b : Bool) (h : P s) : P { s with supervisor := b } := k.frame (s := s) (.plain rfl) h
theorem setPower (h : P s) : P (setPower s) := k.frame (s := s) (.plain rfl) h
theorem postHeld (x : ExhibitSet) (h : P s) : P (postHeld x s) := k.frame (s := s) (.plain rfl) h
theorem writeBeacon (st : Fin 24) (p : BeaconPattern) (h : P s) : P (writeBeacon st p s) :=
  k.frame (s := s) ⟨rfl, rfl, rfl, rfl, rfl, rfl, rfl, fun x => by
    simp only [Machine.writeBeacon, stationOf, modStation_bs, tget_tmod]; split <;> simp_all, rfl, rfl, rfl, rfl, rfl, rfl,
    rfl, rfl⟩ h

theorem renderZone (z : Fin 4) (h : P s) : P (renderZone z s) := by
  unfold Machine.renderZone; dsimp only; split
  · exact h
  · refine forRows_keeps (P := P) (fun st s h => ?_) (k.alerts _ h)
    split
    exacts [k.writeBeacon _ _ h, h]

theorem render (h : P s) : P (render s) := by
  unfold Machine.render; dsimp only
  exact k.supervisor _ (forRows_keeps (P := P) (fun z _ h => k.renderZone z h) h)

theorem giveHeld (h : P s) : P (giveHeld s) := by
  unfold Machine.giveHeld; split
  · exact h
  · exact k.postHeld _ (k.alerts _ h)

theorem alertsChanged (ns : List UpFrame) (h : P s) : P (alertsChanged ns s) := by
  unfold Machine.alertsChanged Machine.sendAll
  exact forList_keeps (P := P) (fun f _ h => k.up f h) (k.render (k.setPower (k.giveHeld h)))

theorem putRecord (i : Fin 64) (r : Option AlertRecord) (h : P s) : P (putRecord i r s) :=
  k.frame (s := s) (.plain rfl) h

theorem takeSlot (i : Fin 64) (r : AlertRecord) (h : P s) : P (takeSlot i r s) :=
  k.frame (s := s) (.plain rfl) h

theorem raiseOverflow (h : P s) : P (raiseOverflow s) := by
  unfold Machine.raiseOverflow; dsimp only
  have tail : ∀ {t}, P t → P (match recordAt overflowSlot t with
      | some r => Machine.alertsChanged [noticeOf overflowSlot r r.state.notice t] t
      | none => t) := fun h => by split; exacts [k.alertsChanged _ h, h]
  refine tail ?_
  split
  exacts [k.putRecord _ _ h, k.takeSlot _ _ h]

theorem loseRaise (key : AlertKey) (h : P s) : P (loseRaise key s) := by
  unfold Machine.loseRaise; dsimp only
  refine k.raiseOverflow ?_
  have h1 : ∀ {s}, P s → P (Machine.keepLostAxis key s) := fun h => by
    unfold Machine.keepLostAxis; repeat' split
    exacts [k.alerts _ h, h, h]
  exact h1 (k.alerts _ (k.frame (s := s) (.plain rfl) h))

theorem repeatRaise (i : Fin 64) (r : AlertRecord) (h : P s) : P (repeatRaise i r s) := by
  unfold Machine.repeatRaise; dsimp only
  generalize AlertRecord.mk _ _ _ _ _ _ _ _ _ _ _ _ _ _ = r'
  split
  exacts [h, k.alertsChanged _ (k.putRecord _ _ h)]

theorem raise (key : AlertKey) (h : P s) : P (raise key s) := by
  unfold Machine.raise; dsimp only; split
  · split
    · exact k.repeatRaise _ _ h
    · exact h
  · split
    · exact k.alertsChanged _ (k.takeSlot _ _ h)
    · exact k.loseRaise key h

theorem clearOverflow (h : P s) : P (clearOverflow s) := k.frame (s := s) (.plain rfl) h

theorem endOverflow (h : P s) : P (endOverflow s).2 := by
  unfold Machine.endOverflow; dsimp only; repeat' split
  exacts [k.putRecord _ _ h, k.clearOverflow h, h, h]

theorem removeRecord (i : Fin 64) (r : AlertRecord) (h : P s) : P (removeRecord i r s) := by
  unfold Machine.removeRecord; dsimp only
  exact k.alertsChanged _ (k.endOverflow (k.putRecord i none h))

theorem endCondition (key : AlertKey) (h : P s) : P (endCondition key s) := by
  unfold Machine.endCondition; dsimp only; repeat' split
  exacts [k.alertsChanged _ (k.putRecord _ _ h), k.removeRecord _ _ h, k.removeRecord _ _ h, h, h, h]

theorem ackSlot (i : Fin 64) (t : AckTaken × Gx24) (h : P t.2) : P (ackSlot i t).2 := by
  unfold Machine.ackSlot; dsimp only; repeat' split
  exacts [h, k.putRecord _ _ h, h, k.clearOverflow h, k.putRecord _ _ h]

theorem acknowledge (l : List (Fin 64)) (h : P s) : P (acknowledge l s).2 := by
  have h1 : P (forList l Machine.ackSlot (⟨[], [], false⟩, s)).2 :=
    forList_keeps (P := fun t : AckTaken × Gx24 => P t.2) (fun i t h => k.ackSlot i t h) h
  unfold Machine.acknowledge; dsimp only; split
  · exact k.alertsChanged _ (k.endOverflow h1)
  · exact k.alertsChanged _ h1

theorem escalateSlot (i : Fin 64) (t : List UpFrame × Gx24) (h : P t.2) : P (escalateSlot i t).2 := by
  unfold Machine.escalateSlot; dsimp only; repeat' split
  exacts [h, h, k.putRecord _ _ h, k.putRecord _ _ h]

theorem escalateAll (h : P s) : P (escalateAll s) := by
  have h1 : P (forRows (n := 64) Machine.escalateSlot ([], s)).2 :=
    forRows_keeps (P := fun t : List UpFrame × Gx24 => P t.2) (fun i t h => k.escalateSlot i t h) h
  unfold Machine.escalateAll; dsimp only; split
  exacts [h1, k.alertsChanged _ h1]

end AlertBlind

/-- The two parts agree on ESTOP_N, the trunk, the clock and the axes. -/
structure SameRest (s t : Gx24) : Prop where
  estop : t.estop = s.estop
  tp : t.tp = s.tp
  gc : t.gc = s.gc
  axes : t.mu.axes = s.mu.axes

/-- The property needs only agreement on ESTOP_N, trunk, clock and axes, and lets up frames be given. -/
structure CoreBlind (P : Gx24 → Prop) : Prop where
  frame : ∀ {s t}, SameRest s t → P s → P t
  up : ∀ {s} f, P s → P (sendUp f s)

namespace CoreBlind

variable {P : Gx24 → Prop} {s : Gx24} (k : CoreBlind P)
include k

theorem alertBlind : AlertBlind P where
  frame h := k.frame ⟨h.estop, h.tp, h.gc, congrArg (·.axes) h.mu⟩
  up := k.up

theorem changeMode (e : Fin 16) (m : Mode) (h : P s) : P (changeMode e m s) := by
  have h1 : P (Machine.clearStories e (Machine.modExhibit e (fun x => { x with mode := m }) s)) :=
    k.frame (s := s) ⟨by simp, by simp, by simp, by simp⟩ h
  have h2 : ∀ {t}, P t → P (Machine.showMode e t) := fun {t} h => by
    unfold Machine.showMode; split
    exacts [k.frame (s := t) ⟨rfl, rfl, rfl, rfl⟩ h, h]
  unfold Machine.changeMode; dsimp only; split
  exacts [k.alertBlind.render (h2 h1), h2 h1]

/-- Such a property is kept wherever it also lets the missed count move and the axes be changed. -/
theorem kept (missed : ∀ {s} n, P s → P { s with gc := { s.gc with missed := n } })
    (axis : ∀ {s} a f, (s.estop = true → (axisOf a s).Stays (f (axisOf a s))) → P s → P (modAxis a f s)) : Kept P where
  frame h := k.frame ⟨h.estop, h.tp, h.gc, h.axes⟩
  missed := missed
  up f h := k.up f h
  axis := axis
  raise key h := k.alertBlind.raise key h
  endCondition key h := k.alertBlind.endCondition key h
  acknowledge l h := k.alertBlind.acknowledge l h
  render h := k.alertBlind.render h

end CoreBlind

/-! ### What the Alert Unit leaves alone -/

/-- The two parts differ at most in the Alert Unit, the outputs it drives and the up queue. -/
structure AlertsOnly (s t : Gx24) : Prop where
  estop : t.estop = s.estop
  resetLow : t.resetLow = s.resetLow
  branchOut : t.branchOut = s.branchOut
  trunkOut : t.trunkOut = s.trunkOut
  tp : t.tp = { s.tp with upQueue := t.tp.upQueue }
  gc : t.gc = s.gc
  bs : t.bs = { s.bs with stations := t.bs.stations }
  stations : ∀ st, stationOf st t = { stationOf st s with beacon := (stationOf st t).beacon }
  pd : t.pd = s.pd
  exhibits : t.exhibits = s.exhibits
  cr : t.cr = s.cr
  mu : t.mu = s.mu
  ac : t.ac = s.ac
  counters : t.counters = { s.counters with alert := t.counters.alert, trunk := t.counters.trunk }
  choices : t.choices = s.choices
  choicePoint : t.choicePoint = s.choicePoint

theorem AlertsOnly.refl (s : Gx24) : AlertsOnly s s :=
  ⟨rfl, rfl, rfl, rfl, rfl, rfl, rfl, fun _ => rfl, rfl, rfl, rfl, rfl, rfl, rfl, rfl, rfl⟩

/-- Giving an up frame, and every operation of the Alert Unit, stays within `AlertsOnly`: with this instance of
`AlertBlind`, `(alertsOnlyBlind s).raise key (.refl s)` says so of a raise, and so on. -/
theorem alertsOnlyBlind (s : Gx24) : AlertBlind (AlertsOnly s) where
  frame {t u} h k := by
    refine ⟨h.estop.trans k.estop, h.resetLow.trans k.resetLow, h.branchOut.trans k.branchOut, h.trunkOut.trans k.trunkOut, ?_, h.gc.trans k.gc, ?_,
      fun st => ?_, h.pd.trans k.pd, h.exhibits.trans k.exhibits, h.cr.trans k.cr, h.mu.trans k.mu, h.ac.trans k.ac, ?_,
      h.choices.trans k.choices, h.choicePoint.trans k.choicePoint⟩
    · rw [h.tp]; exact k.tp
    · rw [h.bs, k.bs]
    · rw [h.stations, k.stations]
    · rw [h.counters, k.counters]
  up {t} f k := by
    unfold sendUp; split
    · exact ⟨k.estop, k.resetLow, k.branchOut, k.trunkOut, by dsimp only; rw [k.tp], k.gc, k.bs, k.stations, k.pd, k.exhibits, k.cr, k.mu,
        k.ac, k.counters, k.choices, k.choicePoint⟩
    · exact ⟨k.estop, k.resetLow, k.branchOut, k.trunkOut, k.tp, k.gc, k.bs, k.stations, k.pd, k.exhibits, k.cr, k.mu,
        k.ac, by simp only [growTrunk]; rw [k.counters], k.choices, k.choicePoint⟩

theorem sendUp_estop (f : UpFrame) (s : Gx24) : (sendUp f s).estop = s.estop := by unfold sendUp; split <;> rfl

/-- No operation of the blocks moves ESTOP_N. -/
theorem keptEstop (b : Bool) : Kept (fun s => s.estop = b) :=
  CoreBlind.kept ⟨fun h e => h.estop.trans e, fun _ e => (sendUp_estop _ _).trans e⟩ (fun _ e => e) (fun _ _ _ e => e)

theorem tellOwner_estop (a : Fin 8) (o : Option Owner) (j : Option Job) (r : MoveResult) (s : Gx24) :
    (tellOwner a o j r s).estop = s.estop := (keptEstop s.estop).tellOwner a o j r rfl

end Sys2Proof.Machine
end

