-- ==== Sys2Proof/Laws/KeepsBlocks.lean ====
section
/-! SUPPORT. What the Motion Unit, the Exhibit Controller, the Chain Runner and the taking of notices keep. -/

namespace Sys2Proof.Machine

namespace Kept

variable {P : Gx24 → Prop} {s : Gx24} (k : Kept P)
include k

/-! ### Guards and faults (chapter 6) -/

theorem acks (l : List (Fin 64)) (h : P s) : P (Machine.acknowledge l s).2 := k.acknowledge l h

theorem guardNotices (a : Fin 8) (h : P s) : P (guardNotices a s) := by
  unfold Machine.guardNotices
  refine forRows_keeps (fun e s h => ?_) h
  split
  exacts [k.maskEvent _ _ h, h]

omit k in
theorem guardStopped_stays (x : Axis) : x.Stays x.guardStopped := by
  constructor <;> intro h <;> unfold Axis.guardStopped <;> split <;>
    first | exact h | (rename_i hs; simp [Axis.still, hs] at h)

theorem guardOpened (a : Fin 8) (h : P s) : P (guardOpened a s) := by
  unfold Machine.guardOpened; dsimp only
  exact k.axis _ _ (fun _ => guardStopped_stays _)
    (k.guardNotices a (k.growAxis _ _ (k.axisKeeps a _ (fun _ => rfl) (fun _ => rfl) h)))

theorem decideGuard (a : Fin 8) (h : P s) : P (decideGuard a s) := by
  unfold Machine.decideGuard; repeat' split
  exacts [h, k.axisKeeps a _ (fun _ => rfl) (fun _ => rfl) h, k.guardOpened a h,
    k.endGuardHeld a (k.axisKeeps a _ (fun _ => rfl) (fun _ => rfl) h)]

theorem decideGuardsOf (st : Fin 24) (h : P s) : P (decideGuardsOf st s) := by
  unfold Machine.decideGuardsOf
  refine forRows_keeps (fun a s h => ?_) h
  repeat' split
  exacts [k.decideGuard a h, h, h]

theorem raiseGuardHeld (a : Fin 8) (h : P s) : P (raiseGuardHeld a s) :=
  k.raise _ (k.axisKeeps a _ (fun _ => rfl) (fun _ => rfl) h)

theorem testFlags (a : Fin 8) (d : DriveReport) (h : P s) : P (testFlags a d s) := by
  unfold Machine.testFlags; dsimp only; repeat' split
  exacts [k.faultAxis _ _ h, k.faultAxis _ _ h, h]

theorem checkFollowing (a : Fin 8) (d : DriveReport) (h : P s) : P (checkFollowing a d s) := by
  unfold Machine.checkFollowing; dsimp only; repeat' split
  exacts [h, h, k.axisKeeps a _ (fun _ => rfl) (fun _ => rfl) h,
    k.faultAxis _ _ (k.growAxis _ _ (k.axisKeeps a _ (fun _ => rfl) (fun _ => rfl) h)),
    k.growAxis _ _ (k.axisKeeps a _ (fun _ => rfl) (fun _ => rfl) h)]

theorem recover (a : Fin 8) (st : Fin 24) (he : s.estop = false) (h : P s) : P (recover a st s) := by
  unfold Machine.recover; dsimp only
  exact k.endAxisFault a (k.decideGuard a (k.axis _ _ (fun he' => by simp [he] at he') h))

theorem recoverTest (a : Fin 8) (h : P s) : P (recoverTest a s) := by
  unfold Machine.recoverTest; dsimp only; split
  · split
    · rename_i hc; exact k.recover _ _ (by simpa using hc.2.2.2) h
    · exact h
  · exact h

theorem ackNotice (a : Fin 8) (key : AlertKey) (h : P s) : P (ackNotice a key s) := by
  unfold Machine.ackNotice; dsimp only
  refine k.recoverTest a ?_
  split
  exacts [k.axisKeeps a _ (fun _ => rfl) (fun _ => rfl) h, h]

theorem acknowledgeAll (l : List (Fin 64)) (h : P s) : P (acknowledgeAll l s) := by
  unfold Machine.acknowledgeAll; dsimp only
  exact forList_keeps (P := P) (fun _ _ h => k.ackNotice _ _ h) (k.acks l h)

theorem driveReported (a : Fin 8) (b : Bool) (d : DriveReport) (h : P s) : P (driveReported a b d s) := by
  unfold Machine.driveReported; dsimp only
  refine k.recoverTest a ?_
  cases b
  · exact k.testFlags a d h
  · exact k.checkFollowing a d (k.testFlags a d (k.axisKeeps a _ (fun _ => rfl) (fun _ => rfl) h))

theorem enableAxis (a : Fin 8) (h : P s) : P (enableAxis a s).2 := by
  unfold Machine.enableAxis; split
  · exact h
  · split
    · exact h
    · rename_i st hc
      have he : s.estop = false := by
        unfold enableCheck at hc
        repeat' split at hc
        all_goals first | (simp at hc; done) | simp_all
      exact k.axis _ _ (fun he' => by simp [he] at he') h

/-! ### Exhibits (chapter 3) -/

theorem startChain (e : Fin 16) (c : ChainStart) (h : P s) : P (startChain e c s) := by
  unfold Machine.startChain; dsimp only
  refine k.post _ (k.modRunner _ _ ?_)
  split
  exacts [k.modExhibit _ _ (k.dropEnded e h), k.reloadIdle e (k.modExhibit _ _ (k.dropEnded e h))]

theorem raiseCrowding (e : Fin 16) (h : P s) : P (raiseCrowding e s) := k.raise _ (k.modExhibit _ _ h)

theorem advanceFlood (e : Fin 16) (h : P s) : P (advanceFlood e s) := by
  unfold Machine.advanceFlood; dsimp only; repeat' split
  exacts [h, k.raiseCrowding e h, k.modExhibit _ _ h]

theorem startVisitor (e : Fin 16) (r : Fin 128) (i : Fin 24 × Fin 8) (w : Word) (h : P s) : P (startVisitor e r i w s) := by
  unfold Machine.startVisitor; dsimp only
  exact k.startChain e _ (k.modExhibit _ _ (k.growExhibit _ _ _ (k.startIndex r h)))

theorem serveFrom (e : Fin 16) (l : List QueueEntry) (h : P s) : P (serveFrom e l s) := by
  induction l generalizing s with
  | nil => exact k.modExhibit _ _ h
  | cons q rest ih =>
    unfold Machine.serveFrom; dsimp only; split
    · exact ih (k.advanceFlood e (k.growExhibit _ _ _ (k.modExhibit _ _ h)))
    · exact k.startVisitor e _ _ _ (k.modExhibit _ _ h)

theorem serveQueue (e : Fin 16) (h : P s) : P (serveQueue e s) := k.serveFrom e _ h

theorem queueVisitor (e : Fin 16) (r : Fin 128) (i : Fin 24 × Fin 8) (h : P s) : P (queueVisitor e r i s) := by
  unfold Machine.queueVisitor; dsimp only; repeat' split
  exacts [k.advanceFlood e (k.growExhibit _ _ _ h), k.maskEvent _ _ (k.growExhibit _ _ _ (k.modExhibit _ _ h)),
    k.advanceFlood e (k.growExhibit _ _ _ h)]

theorem visitorRequest (e : Fin 16) (r : Fin 128) (i : Fin 24 × Fin 8) (h : P s) : P (visitorRequest e r i s) := by
  unfold Machine.visitorRequest; repeat' split
  exacts [k.maskEvent _ _ (k.startVisitor _ _ _ _ h), k.maskEvent _ _ (k.startVisitor _ _ _ _ (k.abortChain e h)),
    k.queueVisitor _ _ _ h]

theorem showRequest (e : Fin 16) (a : Fin 512) (w : Word) (h : P s) : P (showRequest e a w s).2 := by
  unfold Machine.showRequest; repeat' split
  exacts [k.growExhibit _ _ _ h, k.growExhibit _ _ _ h, k.startChain _ _ (k.growExhibit _ _ _ (k.abortChain e h))]

theorem attendantRequest (e : Fin 16) (r : Fin 128) (i : Fin 24 × Fin 8) (h : P s) : P (attendantRequest e r i s) := by
  unfold Machine.attendantRequest; split
  exacts [k.growExhibit _ _ _ h, k.startChain _ _ (k.startIndex _ (k.growExhibit _ _ _ (k.abortChain e h)))]

theorem attractRequest (e : Fin 16) (h : P s) : P (attractRequest e s) := by
  unfold Machine.attractRequest; repeat' split
  exacts [k.startChain _ _ (k.growExhibit _ _ _ h), k.reloadIdle e h, h]

theorem runnerFreed (e : Fin 16) (o : Origin) (h : P s) : P (runnerFreed e o s) := by
  unfold Machine.runnerFreed; dsimp only; split
  exacts [k.modExhibit _ _ (k.modExhibit _ _ h), k.serveQueue e (k.modExhibit _ _ h)]

theorem cooldownOver (e : Fin 16) (h : P s) : P (cooldownOver e s) := by
  unfold Machine.cooldownOver; split
  exacts [k.serveQueue e (k.modExhibit _ _ h), h]

theorem clearQueue (e : Fin 16) (h : P s) : P (clearQueue e s) := k.modExhibit _ _ (k.growExhibit _ _ _ h)

theorem endCooldown (e : Fin 16) (h : P s) : P (endCooldown e s) := k.modExhibit _ _ h

theorem vacate (e : Fin 16) (h : P s) : P (vacate e s) := k.modExhibit _ _ (k.dropEnded e (k.abortChain e h))

theorem closeGallery (h : P s) : P (closeGallery s) := by
  unfold Machine.closeGallery
  refine forRows_keeps (fun e s h => ?_) (k.activity _ h)
  unfold closeExhibit; dsimp only
  have h1 := k.endCooldown e (k.clearQueue e h)
  split
  exacts [k.vacate e h1, h1]

theorem quietGallery (h : P s) : P (quietGallery s) := by
  unfold Machine.quietGallery
  refine forRows_keeps (fun e s h => ?_) (k.activity _ h)
  split
  exacts [k.vacate e h, h]

theorem reloadAllTimers (h : P s) : P (reloadAllTimers s) := by
  unfold Machine.reloadAllTimers
  exact forRows_keeps (P := P) (fun e s h => k.reloadIdle e h) (k.reloadQuiet h)

theorem openGallery (h : P s) : P (openGallery s) := k.reloadAllTimers (k.activity _ h)

theorem expireIdle (e : Fin 16) (h : P s) : P (expireIdle e s) := by
  unfold Machine.expireIdle; dsimp only
  refine k.reloadIdle e ?_
  split
  exacts [k.attractRequest e (k.clearStories e h), k.clearStories e h]

theorem expireQuiet (h : P s) : P (expireQuiet s) := by
  unfold Machine.expireQuiet; split
  exacts [k.quietGallery h, h]

theorem holdRelease (e : Fin 16) (r : Fin 128) (h : P s) : P (holdRelease e r s) := by
  unfold Machine.holdRelease; dsimp only
  have h1 : ∀ {t}, P t → P (if (runnerOf e t).state ≠ .free ∧ (runnerOf e t).row = some r then Machine.abortReported e t else t) :=
    fun h => by split; exacts [k.abortReported e h, h]
  refine h1 ?_
  split
  exacts [k.modExhibit _ _ (k.growExhibit _ _ _ h), h]

/-! ### Chains (chapter 4) -/

theorem chainFault (e : Fin 16) (c : AlertCause) (h : P s) : P (chainFault e c s) := k.raise _ (k.abortReported e h)

theorem doCue (e : Fin 16) (st : Fin 24) (n : Byte) (w : Bool) (l : Link) (h : P s) : P (doCue e st n w l s) := by
  have h1 := k.writeCue st n h
  unfold Machine.doCue
  split <;> rename_i hc <;> rw [hc] at h1
  · split
    exacts [k.suspend _ _ (k.modRunner _ _ h1), k.follow _ _ h1]
  · exact k.follow _ _ h1

theorem takeDefault (e : Fin 16) (h : P s) : P (takeDefault e s) := k.follow _ _ (k.growExhibit _ _ _ h)

theorem sendReferral (e : Fin 16) (t : Byte) (n : Nat) (h : P s) : P (sendReferral e t n s) :=
  k.suspend _ _ (k.growExhibit _ _ _ (k.up _ (k.modRunner _ _ h)))

theorem doRefer (e : Fin 16) (t : Byte) (n : Nat) (h : P s) : P (doRefer e t n s) := by
  unfold Machine.doRefer; split
  exacts [k.takeDefault e h, k.sendReferral e t n h]

theorem endWait (e : Fin 16) (h : P s) : P (endWait e s) := by
  unfold Machine.endWait; split
  exacts [k.leave e h, h]

theorem timeOutReferral (e : Fin 16) (h : P s) : P (timeOutReferral e s) := by
  unfold Machine.timeOutReferral; split
  exacts [k.takeDefault e h, h]

theorem islandDefaults (h : P s) : P (islandDefaults s) := by
  unfold Machine.islandDefaults
  refine forRows_keeps (fun e s h => ?_) h
  split
  exacts [k.takeDefault e h, h]

theorem takeVerdict (e : Fin 16) (n : Serial) (v : Verdict) (h : P s) : P (takeVerdict e n v s) := by
  unfold Machine.takeVerdict; dsimp only; repeat' split
  exacts [k.growExhibit _ _ _ h, k.follow _ _ (k.growExhibit _ _ _ h), k.growExhibit _ _ _ h]

theorem reportCue (e : Byte) (d : Word) (t : Option Byte) (r : CueResult) (h : P s) : P (reportCue e d t r s) := k.up _ h

theorem countMiss (h : P s) : P (countMiss s) := k.missed _ h

theorem runCue (c : CueEntry) (h : P s) : P (runCue c s) := by
  unfold Machine.runCue; dsimp only
  refine k.reportCue _ _ _ _ ?_
  split
  exacts [k.showRequest _ _ _ h, k.countMiss (k.showRequest _ _ _ h)]

end Kept

/-- A kept property under which exhibits may change their modes, and an axis that is not still is free to change. -/
structure KeptLive (P : Gx24 → Prop) : Prop extends Kept P where
  changeMode : ∀ {s} e m, P s → P (changeMode e m s)
  live : ∀ {s} a, P s → (axisOf a s).still = false → Free P s

/-- Being free to change depends on ESTOP_N alone. -/
theorem Free.to {P : Gx24 → Prop} {s t : Gx24} (hf : Free P s) (he : t.estop = s.estop) : Free P t :=
  fun h a f hp => hf (h.trans he) a f hp

/-- An axis at which a claim is not refused is neither OFF, in FAULT nor disabling. -/
theorem refusal_none {a : Fin 8} {c : Claimant} {s : Gx24} (h : refusal a c s = none) :
    (axisOf a s).state ≠ .off ∧ (axisOf a s).state ≠ .fault ∧ (axisOf a s).disabling = false := by
  unfold refusal at h; dsimp only at h
  repeat' split at h
  all_goals simp_all

namespace KeptLive

variable {P : Gx24 → Prop} {s : Gx24} (k : KeptLive P)
include k

/-! ### Modes (chapter 3) -/

theorem enterHeld (e : Fin 16) (h : P s) : P (enterHeld e s) := by
  unfold Machine.enterHeld; dsimp only
  have h1 := k.endCooldown e (k.clearQueue e h)
  refine k.reloadIdle e (k.changeMode e _ ?_)
  split
  exacts [k.vacate e h1, h1]

theorem leaveHeld (e : Fin 16) (h : P s) : P (leaveHeld e s) := k.reloadIdle e (k.changeMode e _ h)

theorem applyHeld (x : ExhibitSet) (h : P s) : P (applyHeld x s) := by
  unfold Machine.applyHeld
  refine forRows_keeps (fun e s h => ?_) h
  unfold applyHold; repeat' split
  exacts [k.enterHeld e h, h, h, k.leaveHeld e h, h, h]

theorem leavePublic (e : Fin 16) (m : Mode) (h : P s) : P (leavePublic e m s) :=
  k.reloadIdle e (k.changeMode e m (k.vacate e (k.endCooldown e (k.clearQueue e h))))

theorem goPublic (e : Fin 16) (h : P s) : P (goPublic e s) :=
  k.reloadIdle e (k.changeMode e _ (k.modExhibit _ _ h))

theorem setMode (e : Fin 16) (m : Mode) (h : P s) : P (setMode e m s).2.2 := by
  have closed : ∀ m, P (modeClosed e m s).2.2 := fun m => by
    unfold modeClosed; dsimp only; repeat' split
    exacts [h, k.leavePublic e m h, k.changeMode e m h]
  unfold Machine.setMode; split
  · exact h
  · unfold modePublic; repeat' split
    exacts [h, h, k.goPublic e h]
  · exact closed _
  · exact closed _

/-! ### What a moving axis does (chapters 5 and 6) -/

omit k in
theorem freeAxis (hf : Free P s) (a : Fin 8) (f : Axis → Axis) (h : P s) : P (modAxis a f s) := hf rfl a f h

theorem endProgram (a : Fin 8) (r : MoveResult) (hf : Free P s) (h : P s) : P (endProgram a r s) := by
  unfold Machine.endProgram
  have h1 := hf rfl a (fun x => x.ended .idle) h
  have h2 := k.growAxis a (if r = .done then .programsDone else .programsHalted) h1
  have h3 := k.tellOwner a (axisOf a s).owner (axisOf a s).job r h2
  refine k.releaseAxis a (.inl (hf.to ?_)) h3
  rw [tellOwner_estop]; rfl

theorem haltNow (a : Fin 8) (h : P s) : P (haltNow a s) :=
  k.haltNowWith a (fun hl => k.endProgram a _ (k.live a h hl) h) h

theorem haltAxis (a : Fin 8) (m : Manner) (h : P s) : P (haltAxis a m s) := by
  unfold Machine.haltAxis; split
  exacts [k.haltNow a h, k.haltLoopEnd a h]

theorem preempt (a : Fin 8) (c : Claim) (h : P s) : P (preempt a c s) := by
  unfold Machine.preempt; repeat' split
  exacts [k.haltNow a (k.growAxis _ _ h), h, h]

theorem claimAxis (a : Fin 8) (c : Claim) (h : P s) : P (claimAxis a c s) := by
  unfold Machine.claimAxis
  split
  · exact k.claimResult _ _ _ _ (k.growAxis _ _ h)
  · rename_i hr
    have hl := refusal_none hr
    have hf : Free P s := k.live a h (Kept.notStill hl.1 hl.2.1)
    have h1 := k.replaceClaim a c.claimant h
    have e1 : (Machine.replaceClaim a c.claimant s).estop = s.estop := (keptEstop s.estop).replaceClaim a c.claimant rfl
    have h2 := hf e1 a (fun x => { x with claims := x.claims ++
      [{ c with timeLeft := (axisOf a (Machine.replaceClaim a c.claimant s)).params.claimTimeout }] }) h1
    dsimp only; split
    · exact k.grantAxis a (.inl (hf.to e1)) h2
    · exact k.preempt a _ h2

/-! ### The step of an axis (5.3 to 5.9) -/

theorem completeSegment (a : Fin 8) (hf : Free P s) (h : P s) : P (completeSegment a s) := by
  unfold Machine.completeSegment; dsimp only
  have seg : ∀ f, P (Machine.startSegment a (Machine.modAxis a f s)) := fun f =>
    k.startSegment a (.inl (hf.to rfl)) (hf rfl a f h)
  repeat' split
  exacts [h, seg _, k.endProgram a _ hf h, seg _]

theorem arrive (a : Fin 8) (hf : Free P s) (h : P s) : P (arrive a s) := by
  unfold Machine.arrive; dsimp only; split
  exacts [k.completeSegment a (hf.to rfl) (hf rfl a _ h), hf rfl a _ h]

theorem runningStep (a : Fin 8) (hf : Free P s) (h : P s) : P (runningStep a s) := by
  unfold Machine.runningStep; dsimp only
  have h1 := hf rfl a Axis.runMotion h
  split
  exacts [k.arrive a (hf.to rfl) h1, h1]

theorem dwellStep (a : Fin 8) (hf : Free P s) (h : P s) : P (dwellStep a s) := by
  unfold Machine.dwellStep; dsimp only
  have h1 := hf rfl a (fun x => { x with dwell := x.dwell - 1 }) h
  split
  exacts [k.completeSegment a (hf.to rfl) h1, h1]

theorem haltingStep (a : Fin 8) (hf : Free P s) (h : P s) : P (haltingStep a s) := by
  unfold Machine.haltingStep; dsimp only
  have h1 := hf rfl a (fun x => x.brakeMotion x.params.accel) h
  split
  exacts [k.endProgram a _ (hf.to rfl) (hf (t := Machine.modAxis a _ s) rfl a Axis.atRest h1), h1]

theorem brakingStep (a : Fin 8) (hf : Free P s) (h : P s) : P (brakingStep a s) := by
  unfold Machine.brakingStep; dsimp only
  have h1 := hf rfl a (fun x => x.brakeMotion (4 * x.params.accel)) h
  repeat' split
  exacts [hf (t := Machine.modAxis a _ s) rfl a _ h1, k.endProgram a _ (hf.to rfl) h1, h1]

theorem resumeStep (a : Fin 8) (hf : Free P s) (h : P s) : P (resumeStep a s) := by
  unfold Machine.resumeStep; split
  exacts [k.runningStep a (hf.to rfl) (hf rfl a _ h), k.dwellStep a (hf.to rfl) (hf rfl a _ h),
    k.haltingStep a (hf.to rfl) (hf rfl a _ h)]

theorem guardStep (a : Fin 8) (hf : Free P s) (h : P s) : P (guardStep a s) := by
  unfold Machine.guardStep; split
  · exact k.brakingStep a (hf.to rfl) (hf rfl a _ h)
  · have h1 := hf rfl a (fun x => { x with settleCount := x.settleCount + 1 }) h
    dsimp only; split
    exacts [k.resumeStep a (hf.to rfl) h1, k.brakingStep a (hf.to rfl) h1]

theorem stateStep (a : Fin 8) (h : P s) : P (stateStep a s) := by
  unfold Machine.stateStep
  have hf : (axisOf a s).state ≠ .off → (axisOf a s).state ≠ .fault → Free P s :=
    fun h1 h2 => k.live a h (Kept.notStill h1 h2)
  split <;> rename_i hs
  exacts [h, h, h, k.runningStep a (hf (by simp [hs]) (by simp [hs])) h, k.dwellStep a (hf (by simp [hs]) (by simp [hs])) h,
    k.haltingStep a (hf (by simp [hs]) (by simp [hs])) h, k.guardStep a (hf (by simp [hs]) (by simp [hs])) h]

omit k in
theorem built_stays (x : Axis) : x.Stays { x with setpoint := some ⟨x.position, driveEnable x.state true⟩ } := by
  refine ⟨fun h => ?_, fun _ => ?_⟩
  · simp only [Axis.still, driveIsOff, driveEnable, Bool.and_eq_true] at h ⊢
    simp [h.1]
  · simp [driveIsOff, driveEnable]

theorem buildSetpoint (a : Fin 8) (h : P s) : P (buildSetpoint a s) := by
  unfold Machine.buildSetpoint
  exact k.axis a _ (fun he => by rw [he]; exact built_stays _) h

theorem stepAxis (a : Fin 8) (h : P s) : P (stepAxis a s) := by
  unfold Machine.stepAxis; dsimp only
  have h1 := k.axisKeeps a Axis.referred (fun _ => rfl) (fun _ => rfl) h
  repeat' split
  exacts [k.growAxis _ _ h1, k.stateStep a h1, k.buildSetpoint a (k.stateStep a h1)]

theorem disableAxis (a : Fin 8) (h : P s) : P (disableAxis a s).2 := by
  unfold Machine.disableAxis; split
  · exact h
  · have h1 := k.refuseAll a .disabling (k.axisKeeps a (fun x => { x with disabling := true }) (fun _ => rfl) (fun _ => rfl) h)
    dsimp only; split
    exacts [k.goOff a h1, k.haltNow a h1]

/-! ### Entries of chains (chapter 4) -/

theorem doMove (e : Fin 16) (a : Fin 8) (p : Fin 64) (m : RunMode) (h : P s) : P (doMove e a p m s) := by
  unfold Machine.doMove; dsimp only
  have h1 := k.claimAxis a ⟨.exhibit e, (runnerOf e s).origin, .program p, m, 0⟩
    (k.modRunner e (fun r => r.claiming a) h)
  split
  exacts [k.suspend _ _ h1, h1]

theorem doHaltAxis (e : Fin 16) (a : Fin 8) (m : Manner) (l : Link) (h : P s) : P (doHaltAxis e a m l s) := by
  unfold Machine.doHaltAxis
  refine k.follow e l ?_
  split
  exacts [k.haltAxis a m h, h]

theorem perform (e : Fin 16) (x : Action) (h : P s) : P (perform e x s) := by
  unfold Machine.perform; split
  exacts [k.chainFault _ _ h, k.follow _ _ (k.writeLamp _ _ _ h), k.doCue _ _ _ _ _ h, k.doMove _ _ _ _ h,
    k.doHaltAxis _ _ _ _ h, k.suspend _ _ (k.modRunner _ _ h), k.chainPause _ _ h, k.follow _ _ (k.raise _ h),
    k.doRefer _ _ _ h, k.follow _ _ (k.growUsage _ _ h)]

theorem runStep (e : Fin 16) (h : P s) : P (runStep e s) := by
  unfold Machine.runStep; dsimp only; repeat' split
  exacts [h, k.chainFault _ _ h, k.chainFault _ _ h, k.perform _ _ (k.modRunner _ _ h)]

/-! ### Notices (assumption 2) -/

theorem deliver (w : Work) (h : P s) : P (deliver w s) := by
  unfold Machine.deliver; split
  · exact k.runStep _ h
  · exact k.runnerFreed _ _ h
  · exact k.applyHeld _ h
  · exact k.cooldownOver _ h
  · exact k.endWait _ h
  · exact k.timeOutReferral _ h
  · exact k.timeOutClaim _ _ h
  · split
    exacts [k.raiseGuardHeld _ h, h]
  · exact k.expireQuiet h
  · exact k.expireIdle _ h
  · exact k.runCue _ h
  · unfold galleryCommand; repeat' split
    exacts [k.openGallery h, h, h, h, k.closeGallery h, k.closeGallery h]

/-- Taking every notice keeps what the blocks keep. -/
theorem settle (h : P s) : P (settle s) :=
  settle_keeps (fun cs n ws h => k.inFlight cs n ws h) (fun w _ h => k.deliver w h) h

/-- Taking some notices keeps what the blocks keep. -/
theorem settleSome (h : P s) : P (settleSome s) :=
  settleSome_keeps (fun cs n ws h => k.inFlight cs n ws h) (fun w _ h => k.deliver w h) h

end KeptLive

end Sys2Proof.Machine
end

