-- ==== Sys2Proof/Laws/KeepsCommands.lean ====
section
/-! SUPPORT. What every command keeps: a property kept by the updates of `KeptAll` is kept by `exec`. -/

namespace Sys2Proof.Machine

/-- The updates that keep `P`, those that only commands make among them. -/
structure KeptAll (P : Gx24 → Prop) : Prop extends KeptLive P where
  clock : ∀ {s} (g : Clock), g.schedule = s.gc.schedule → P s → P { s with gc := g }
  cues : ∀ {s} (l : List CueEntry), l.Subperm s.gc.schedule → P s → P { s with gc := { s.gc with schedule := l } }
  cueTaken : ∀ {s} c, P s → P (scheduleCue c s)
  trunk : ∀ {s} (x : Trunk), x.upQueue = s.tp.upQueue → P s → P { s with tp := x }
  sent : ∀ {s}, P s → P (sendHead s)
  classes : ∀ {s} c, P s → P { s with au := { s.au with classes := c } }
  neighbours : ∀ {s} n, P s → P (Machine.render { s with au := { s.au with neighbours := n } })
  escalateAll : ∀ {s}, P s → P (escalateAll s)
  escalation : ∀ {s} i, P s → P (eventEscalation i s)
  power : ∀ {s}, P s → P (setPower s)
  asserted : ∀ {s}, P s → P (assertEstop s)
  released : ∀ {s}, s.estop = true → P s → P (setPower (Machine.endCondition keyEstop { s with estop := false }))
  cold : ∀ {s} n, P s → P (coldReset n s)
  held : ∀ {s} b, P s → P (estopHeld b s)
  warm : ∀ {s}, P s → P (warmBlocks s)

theorem insertCue_perm (now : Word) (c : CueEntry) (l : List CueEntry) : (insertCue now c l).Perm (c :: l) := by
  induction l with
  | nil => exact .refl _
  | cons d rest ih =>
    unfold insertCue; split
    · exact .refl _
    · exact (ih.cons d).trans (.swap c d rest)

theorem orderCues_perm (now : Word) (l : List CueEntry) : (orderCues now l).Perm l := by
  suffices ∀ acc : List CueEntry, (l.foldl (fun l c => insertCue now c l) acc).Perm (acc ++ l) by
    simpa [orderCues] using this []
  induction l with
  | nil => simp
  | cons c rest ih =>
    intro acc
    refine (ih _).trans ?_
    exact ((insertCue_perm now c acc).append_right rest).trans (by simpa using (List.perm_middle).symm)

namespace KeptAll

variable {P : Gx24 → Prop} {s : Gx24} (k : KeptAll P)
include k

theorem branchPins (b : List Byte) (h : P s) : P { s with branchOut := b } := k.frame (s := s) ⟨rfl, rfl, rfl, rfl, fun _ => rfl, rfl, rfl, rfl, rfl⟩ h

/-! ### The branch (chapter 1) -/

theorem endQuery (r : QueryResult) (a : Option Word) (h : P s) : P (endQuery r a s) := by
  unfold Machine.endQuery; split
  exacts [k.up _ (k.branch _ h), h]

theorem endQueryOf (st : Fin 24) (h : P s) : P (endQueryOf st s) := by
  unfold Machine.endQueryOf; repeat' split
  exacts [k.endQuery _ _ h, h, h]

theorem endLost (st : Fin 24) (h : P s) : P (endLost st s) := by
  unfold Machine.endLost; dsimp only; split
  exacts [k.endCondition _ (k.modStation _ _ h), k.modStation _ _ h]

theorem raiseLost (st : Fin 24) (h : P s) : P (raiseLost st s) := k.raise _ (k.modStation _ _ h)

theorem faultDriveAxis (st : Fin 24) (h : P s) : P (faultDriveAxis st s) := by
  unfold Machine.faultDriveAxis; split
  exacts [k.faultAxis _ _ h, h]

theorem loseStation (st : Fin 24) (h : P s) : P (loseStation st s) := by
  unfold Machine.loseStation; dsimp only
  exact k.endQueryOf st (k.endStationWaits st (k.faultDriveAxis st (k.decideGuardsOf st (k.raiseLost st (k.modStation _ _ h)))))

theorem countStationMiss (st : Fin 24) (crc : Bool) (h : P s) : P (countStationMiss st crc s) := by
  unfold Machine.countStationMiss; dsimp only
  have tail : ∀ {t}, P t → P (if (stationOf st t).missCount = missLimit ∧
      ((stationOf st t).state = .joining ∨ (stationOf st t).state = .present) then Machine.loseStation st t else t) :=
    fun h => by split; exacts [k.loseStation st h, h]
  refine tail (k.modStation _ _ ?_)
  cases crc
  exacts [k.growStation _ _ _ h, k.growStation _ _ _ (k.growStation _ _ _ h)]

theorem storeLevels (st : Fin 24) (l : Byte) (h : P s) : P (storeLevels st l s) :=
  k.decideGuardsOf st (k.modStation _ _ h)

theorem storeCueReport (st : Fin 24) (n : Serial) (b : Bool) (h : P s) : P (storeCueReport st n b s) :=
  k.cueReported st (k.modStation _ _ h)

theorem queryUnanswered (h : P s) : P (queryUnanswered s) := by
  unfold Machine.queryUnanswered; repeat' split
  exacts [k.endQuery _ _ h, h, h]

theorem takeAnswer (st : Fin 24) (b : Bool) (a : Option Word) (h : P s) : P (takeAnswer st b a s) := by
  unfold Machine.takeAnswer; repeat' split
  exacts [k.endQuery _ _ h, h, k.queryUnanswered h, h]

theorem storeDrive (st : Fin 24) (a : Option (Fin 8)) (d : Option DriveReport) (h : P s) : P (storeDrive st a d s) := by
  unfold Machine.storeDrive; dsimp only; repeat' split
  exacts [h, k.driveReported _ _ _ (k.modStation _ _ h), k.modStation _ _ h]

/-! ### The press path (chapter 2) -/

theorem unmappedEvent (st : Fin 24) (i : Fin 8) (g : Edge) (h : P s) : P (unmappedEvent st i g s) := by
  unfold Machine.unmappedEvent; dsimp only; split
  exacts [k.up _ (k.growStation _ _ _ h), k.growStation _ _ _ h]

theorem turnKey (e : Fin 16) (h : P s) : P (turnKey e s) := by
  unfold Machine.turnKey; dsimp only
  exact k.acknowledgeAll _ (k.growAlert _ h)

theorem pressVisitor (e : Fin 16) (r : Fin 128) (i : Fin 24 × Fin 8) (h : P s) : P (pressVisitor e r i s) := by
  unfold Machine.pressVisitor; split
  exacts [k.growExhibit _ _ _ h, k.visitorRequest _ _ _ h]

theorem pressOpen (e : Fin 16) (r : Fin 128) (c : RowClass) (i : Fin 24 × Fin 8) (h : P s) : P (pressOpen e r c i s) := by
  unfold Machine.pressOpen; split
  · unfold pressAttendant; dsimp only; split
    exacts [k.attendantRequest _ _ _ (k.turnKey e h), k.turnKey e h]
  · split
    exacts [k.growExhibit _ _ _ h, k.pressVisitor _ _ _ h]
  · split
    · exact k.growExhibit _ _ _ h
    · unfold pressHelp; dsimp only; split
      exacts [k.pressVisitor _ _ _ (k.raise _ h), k.raise _ h]

theorem dispatchPublic (e : Fin 16) (r : Fin 128) (t : TriggerRow) (st : Fin 24) (i : Fin 8) (g : Edge) (h : P s) :
    P (dispatchPublic e r t st i g s) := by
  unfold Machine.dispatchPublic; dsimp only; split
  exacts [k.holdRelease _ _ (k.pressNotice _ _ h), k.pressOpen _ _ _ _ (k.pressNotice _ _ h)]

theorem dispatch (e : Fin 16) (r : Fin 128) (t : TriggerRow) (st : Fin 24) (i : Fin 8) (g : Edge) (h : P s) :
    P (dispatch e r t st i g s) := by
  unfold Machine.dispatch; split
  · exact k.growExhibit _ _ _ h
  · unfold pressService; repeat' split
    exacts [h, k.turnKey e h, k.up _ h]
  · exact k.dispatchPublic _ _ _ _ _ _ h
  · exact k.dispatchPublic _ _ _ _ _ _ h

theorem inputEvent (st : Fin 24) (i : Fin 8) (g : Edge) (h : P s) : P (inputEvent st i g s) := by
  unfold Machine.inputEvent; dsimp only; repeat' split
  exacts [k.unmappedEvent _ _ _ h, k.unmappedEvent _ _ _ h, k.dispatch _ _ _ _ _ _ h, h]

/-! ### Slots and sweeps (chapter 1) -/

theorem takeEvent (st : Fin 24) (ev : ReplyEvent) (h : P s) : P (takeEvent st ev s) := by
  unfold Machine.takeEvent; dsimp only; split
  exacts [k.growStation _ _ _ h, k.settle (k.inputEvent _ _ _ (k.modStation _ _ (k.growStation _ _ _ h)))]

theorem join (st : Fin 24) (r : Reply) (h : P s) : P (join st r s) := by
  have serials : ∀ {s} n m, P s → P (joinSerials st n m s) := fun n m h => by
    unfold joinSerials; dsimp only; split
    · exact k.modStation _ _ h
    · exact forRows_keeps (P := P) (fun _ _ h => k.modRunner _ _ h) (k.modStation _ _ (k.modStation _ _ h))
  exact k.endLost st (k.modStation _ _ (serials _ _ (k.growStation _ _ _ h)))

theorem takeReply (w : Awaiting) (r : Reply) (h : P s) : P (takeReply w r s) := by
  unfold Machine.takeReply; dsimp only
  have tail : ∀ {s}, P s → P (Machine.settle (Machine.storeDrive w.station w.stepAxis r.drive
      (Machine.takeAnswer w.station w.query r.answer (Machine.storeCueReport w.station r.lastStarted r.playing
        (Machine.storeLevels w.station r.levels s))))) := fun h =>
    k.settle (k.storeDrive _ _ _ (k.takeAnswer _ _ _ (k.storeCueReport _ _ _ (k.storeLevels _ _ h))))
  have h1 : P (Machine.modStation w.station (fun x => { x with missCount := 0 }) s) := k.modStation _ _ h
  generalize decide ((stationOf w.station s).state = .present) = b
  cases b <;> simp only [Bool.false_eq_true, if_true, if_false]
  · exact tail (k.join _ _ h1)
  · exact forList_keeps (P := P) (fun _ _ h => k.takeEvent _ _ h) (tail h1)

theorem takeMiss (w : Awaiting) (crc : Bool) (h : P s) : P (takeMiss w crc s) := by
  unfold Machine.takeMiss; dsimp only
  have tail : ∀ {s}, P s → P (if w.query then Machine.queryUnanswered (Machine.countStationMiss w.station crc s)
      else Machine.countStationMiss w.station crc s) := fun h => by
    split
    exacts [k.queryUnanswered (k.countStationMiss _ _ h), k.countStationMiss _ _ h]
  refine tail ?_
  split
  exacts [k.axisKeeps _ _ (fun _ => rfl) (fun _ => rfl) h, h]

theorem endSlot (reply : Option (List Byte)) (h : P s) : P (endSlot reply s) := by
  unfold Machine.endSlot; split
  · exact h
  · have h1 := k.branch { s.bs with awaiting := none } h
    unfold classify; repeat' split
    exacts [h1, k.takeMiss _ _ h1, k.takeReply _ _ h1, k.takeMiss _ _ h1]

theorem startSweep (h : P s) : P (startSweep s) := k.branch _ h

theorem pollStation (st : Fin 24) (h : P s) : P (pollStation st s) := by
  unfold Machine.pollStation; dsimp only
  have ask : P (askQuery st s).2 := by
    unfold askQuery; repeat' split
    exacts [k.branch _ h, h, h]
  have step : ∀ {s}, P s → P (stepPoint st s) := fun h => by
    unfold stepPoint; dsimp only; split
    exacts [k.stepAxis _ (k.branch _ (k.modStation _ _ h)), k.modStation _ _ h]
  refine k.branchPins _ ?_
  split
  exacts [step (k.branch _ ask), k.branch _ ask]

theorem beginSlot (i : Fin 32) (h : P s) : P (beginSlot i s) := by
  unfold Machine.beginSlot; dsimp only
  have h1 : P { s with branchOut := [], bs := { s.bs with nextSlot := ⟨i.val + 1, by omega⟩ } } :=
    k.frame (s := s) ⟨rfl, rfl, rfl, rfl, fun _ => rfl, rfl, rfl, rfl, rfl⟩ h
  repeat' split
  exacts [h1, h1, k.pollStation _ h1]

theorem nextSlotStart (h : P s) : P (nextSlotStart s) := by
  unfold Machine.nextSlotStart; dsimp only
  have h1 := k.settle (k.endSlot none h)
  split
  exacts [k.beginSlot _ h1, k.beginSlot 0 (k.startSweep h1)]

theorem takeQuery (st : Byte) (p : Word) (h : P s) : P (takeQuery st p s) := by
  unfold Machine.takeQuery; repeat' split
  exacts [k.up _ h, k.up _ h, k.up _ h, k.up _ h, k.branch _ h]

/-! ### The clock (chapter 9) -/

theorem tickEvent (n : Word) (h : P s) : P (tickEvent n s) := by
  have exhibit : ∀ (e : Fin 16) s, P s → P (countExhibit e s) := fun e s h => by
    unfold countExhibit; dsimp only; repeat' split
    exacts [k.post _ (k.modExhibit _ _ (k.modExhibit _ _ h)), k.modExhibit _ _ (k.modExhibit _ _ h), k.modExhibit _ _ h]
  have runner : ∀ (e : Fin 16) s, P s → P (countRunner e s) := fun e s h => by
    unfold countRunner; dsimp only; repeat' split
    all_goals first | exact h | exact k.post _ (k.modRunner _ _ h) | exact k.modRunner _ _ h
  have axis : ∀ (a : Fin 8) s, P s → P (countGuard a (countClaims a s)) := fun a s h => by
    have h1 : P (countClaims a s) := by
      unfold countClaims; dsimp only
      refine forList_keeps (P := P) (fun c s h => ?_) (k.axisKeeps a _ (fun _ => rfl) (fun _ => rfl) h)
      split
      exacts [k.post _ h, h]
    unfold countGuard; dsimp only; repeat' split
    exacts [h1, k.post _ (k.axisKeeps a _ (fun _ => rfl) (fun _ => rfl) h1), k.axisKeeps a _ (fun _ => rfl) (fun _ => rfl) h1]
  have quiet : ∀ {s}, P s → P (countQuiet s) := fun h => by
    unfold countQuiet; dsimp only; repeat' split
    exacts [k.post _ (k.activity _ h), k.activity _ h, h]
  have idle : ∀ (e : Fin 16) s, P s → P (countIdle e s) := fun e s h => by
    unfold countIdle; dsimp only; repeat' split
    exacts [k.post _ (k.activity _ h), k.activity _ h, h]
  unfold Machine.tickEvent; dsimp only
  refine forRows_keeps idle (quiet (k.escalateAll (forRows_keeps axis (forRows_keeps runner (forRows_keeps exhibit ?_)))))
  exact k.clock _ rfl h

theorem takeCues (p : CueEntry → Bool) (h : P s) : P (takeCues p s).2 :=
  k.cues _ List.filter_sublist.subperm h

theorem fireAt (due : Word) (h : P s) : P (fireAt due s) := by
  unfold Machine.fireAt; dsimp only
  exact forList_keeps (P := P) (fun _ _ h => k.post _ h) (k.takeCues _ h)

theorem fireInOrder (dues : List Word) (h : P s) : P (fireInOrder dues s) := by
  unfold Machine.fireInOrder; split
  exacts [h, forList_keeps (P := P) (fun d _ h => k.fireAt d (k.settleSome h)) (k.fireAt _ h)]

theorem fireJump (old new : Word) (h : P s) : P (fireJump old new s) := by
  unfold Machine.fireJump; dsimp only; repeat' split
  · exact k.fireInOrder _ (k.cues _ (orderCues_perm _ _).subperm h)
  · exact k.fireInOrder _ h
  · refine k.fireInOrder _ ?_
    unfold dropSkipped; dsimp only
    exact forList_keeps (P := P) (fun _ _ h => k.countMiss (k.growExhibit _ _ _ (k.reportCue _ _ _ _ h))) (k.takeCues _ (k.settleSome h))

theorem sendStatus (h : P s) : P (sendStatus s) := by
  unfold Machine.sendStatus; dsimp only
  exact k.missed _ (k.up _ h)

theorem takeTick (n : Word) (c : GalleryCommand) (h : P s) : P (takeTick n c s) := by
  have lock : P (lockClock s) := by
    unfold lockClock; dsimp only
    have h1 := k.clock { s.gc with state := .locked, silence := 0 } rfl h
    split
    exacts [k.endCondition _ h1, h1]
  have given : P (giveCommand c (Machine.tickEvent n (lockClock s))) := by
    have h1 := k.tickEvent n lock
    unfold giveCommand; repeat' split
    exacts [h1, k.post _ h1, h1, h1, k.post _ h1]
  unfold Machine.takeTick; dsimp only
  refine k.sendStatus (k.settle ?_)
  split
  exacts [given, k.fireJump _ _ given]

theorem localTick (h : P s) : P (localTick s) := by
  unfold Machine.localTick
  exact k.fireInOrder _ (k.tickEvent _ h)

theorem enterIsland (h : P s) : P (enterIsland s) := by
  unfold Machine.enterIsland; dsimp only
  exact k.localTick (k.settle (k.islandDefaults (k.raise _ (k.clock _ rfl h))))

theorem localExpiry (h : P s) : P (localExpiry s) := by
  unfold Machine.localExpiry; repeat' split
  exacts [h, k.localTick h, k.enterIsland h, k.clock _ rfl h]

theorem takeCue (d : Word) (e : Byte) (a : Word) (t : Byte) (h : P s) : P (takeCue d e a t s) := by
  unfold Machine.takeCue; repeat' split
  exacts [k.up _ h, k.runCue _ h, k.up _ h, k.cueTaken _ h, k.up _ h]

theorem cancelCue (e : Byte) (d : Word) (h : P s) : P (cancelCue e d s) := by
  unfold Machine.cancelCue; repeat' split
  exacts [k.up _ h, k.up _ h, k.up _ (k.takeCues _ h)]

/-! ### Management (chapter 10) -/

theorem takeFrame {f : Gx24 → Gx24} (hf : ∀ {s}, P s → P (f s)) (h : P s) : P (takeFrame f s) := by
  unfold Machine.takeFrame; split
  exacts [k.growTrunk _ h, hf (k.growTrunk _ h)]

theorem frameError (h : P s) : P (frameError s) := k.growTrunk _ h

theorem replyWrite (t : Byte) (i : Nat) (w : Word) {r : ReplyCode × Gx24} (h : P r.2) : P (replyWrite t i w r) := k.up _ h

theorem writeStationRow (w : Word) (c : List Byte) (h : P s) : P (writeStationRow w c s).2 := by
  have withdrawn : ∀ st {s}, P s → P (stationWithdrawn st s) := fun st _ h => by
    unfold stationWithdrawn discardCue
    exact k.endQueryOf st (k.endStationWaits st (k.modStation _ _ (k.decideGuardsOf st (k.endLost st (k.branch _ h)))))
  have move : ∀ st old new {s}, P s → P (moveStation st old new s) := fun st old new _ h => by
    unfold moveStation; repeat' split
    exacts [k.decideGuardsOf st (k.modStation _ _ h), withdrawn st (k.modStation _ _ h), withdrawn st (k.modStation _ _ h), h]
  have beacon : ∀ st old new {s}, P s → P (beaconRowWritten st old new s) := fun st old new _ h => by
    unfold beaconRowWritten; split
    exacts [k.modStation _ _ h, h]
  unfold Machine.writeStationRow; dsimp only; repeat' split
  exacts [h, beacon _ _ _ (move _ _ _ (k.branch _ h)), h]

theorem writeSchedule (w : Word) (c : List Byte) (h : P s) : P (writeSchedule w c s).2 := by
  have slots : ∀ st b {s}, P s → P (slotsChanged st b s) := fun st b _ h => by
    unfold slotsChanged; dsimp only; repeat' split
    exacts [h, h, k.endQueryOf _ (k.decideGuardsOf _ h), k.decideGuardsOf _ h]
  have pick : ∀ {c : Prop} [Decidable c] {t}, P t → P (if c then (ReplyCode.live, s) else (.ok, t)).2 :=
    fun h' => by split; exacts [h, h']
  unfold Machine.writeSchedule; dsimp only
  split
  · split
    · exact h
    · exact pick (slots _ _ (slots _ _ (k.branch _ h)))
  · exact h

theorem writeInputMap (w : Word) (c : List Byte) (h : P s) : P (writeInputMap w c s).2 := by
  unfold Machine.writeInputMap; repeat' split
  exacts [h, h, k.dispatcher _ h, h]

theorem writeTriggerRow (w : Word) (c : List Byte) (h : P s) : P (writeTriggerRow w c s).2 := by
  unfold Machine.writeTriggerRow; repeat' split
  exacts [h, k.dispatcher _ h, h]

theorem writeAction (w : Word) (c : List Byte) (h : P s) : P (writeAction w c s).2 := by
  unfold Machine.writeAction; repeat' split
  exacts [h, h, k.chains _ h, h]

theorem writeExhibitConfig (w : Word) (c : List Byte) (h : P s) : P (writeExhibitConfig w c s).2 := by
  unfold Machine.writeExhibitConfig; dsimp only; repeat' split
  exacts [h, h, k.modExhibit _ _ h, k.showMode _ (k.modExhibit _ _ h), h]

theorem writeAxisParams (w : Word) (c : List Byte) (h : P s) : P (writeAxisParams w c s).2 := by
  unfold Machine.writeAxisParams; repeat' split
  exacts [h, h, k.axisKeeps _ _ (fun _ => rfl) (fun _ => rfl) h, h]

theorem writeProgram (w : Word) (c : List Byte) (h : P s) : P (writeProgram w c s).2 := by
  unfold Machine.writeProgram; repeat' split
  exacts [h, k.frame (s := s) ⟨rfl, rfl, rfl, rfl, fun _ => rfl, rfl, rfl, rfl, rfl⟩ h, h]

theorem writeSegment (w : Word) (c : List Byte) (h : P s) : P (writeSegment w c s).2 := by
  unfold Machine.writeSegment; repeat' split
  exacts [h, k.frame (s := s) ⟨rfl, rfl, rfl, rfl, fun _ => rfl, rfl, rfl, rfl, rfl⟩ h, h]

theorem writeAlertClass (w : Word) (c : List Byte) (h : P s) : P (writeAlertClass w c s).2 := by
  unfold Machine.writeAlertClass; repeat' split
  exacts [h, h, k.classes _ h]

theorem writeNeighbours (w : Word) (c : List Byte) (h : P s) : P (writeNeighbours w c s).2 := by
  unfold Machine.writeNeighbours; repeat' split
  exacts [h, k.neighbours _ h, h]

theorem writeSettings (w : Word) (c : List Byte) (h : P s) : P (writeSettings w c s).2 := by
  unfold Machine.writeSettings; dsimp only; repeat' split
  exacts [h, h, k.reloadQuiet (k.trunk _ rfl h), k.trunk _ rfl h]

theorem ownerWrite (i : Nat) (w : Word) (c : List Byte) {r : ReplyCode × Gx24} (hr : ownerWrite i w c s = some r)
    (h : P s) : P r.2 := by
  unfold Machine.ownerWrite at hr
  split at hr <;> first | (cases hr; done) | (injection hr with hr; subst hr)
  exacts [k.writeStationRow _ _ h, k.writeSchedule _ _ h, k.writeInputMap _ _ h, k.writeTriggerRow _ _ h,
    k.writeAction _ _ h, k.writeExhibitConfig _ _ h, k.writeAxisParams _ _ h, k.writeProgram _ _ h,
    k.writeSegment _ _ h, k.writeAlertClass _ _ h, k.writeNeighbours _ _ h, k.writeSettings _ _ h]

theorem readTable (t : Byte) (b : List Byte) (h : P s) : P (readTable t b s) := by
  unfold Machine.readTable; dsimp only; split
  exacts [k.up _ h, k.up _ h]

theorem writeTable (t : Byte) (b : List Byte) (h : P s) : P (writeTable t b s) := by
  unfold Machine.writeTable; dsimp only; split
  · split
    · exact k.up _ h
    · split
      · rename_i hr; exact k.up _ (k.ownerWrite _ _ _ hr h)
      · exact k.up _ h
  · exact k.up _ h
  · exact k.up _ h

theorem manageMode (t : Byte) (b : List Byte) (h : P s) : P (manageMode t b s) := by
  unfold Machine.manageMode; dsimp only; repeat' split
  exacts [k.up _ (k.setMode _ _ h), k.up _ h, k.up _ h]

theorem manageAxis (t : Byte) (b : List Byte) (h : P s) : P (manageAxis t b s) := by
  unfold Machine.manageAxis; dsimp only; repeat' split
  exacts [k.up _ (k.enableAxis _ h), k.up _ (k.disableAxis _ h), k.up _ h, k.up _ h]

theorem manageSnapshot (t : Byte) (b : List Byte) (h : P s) : P (manageSnapshot t b s) := by
  unfold Machine.manageSnapshot; split
  exacts [k.up _ (k.frame (s := s) ⟨rfl, rfl, rfl, rfl, fun _ => rfl, rfl, rfl, rfl, rfl⟩ h), k.up _ h]

theorem manageClearCold (t : Byte) (b : List Byte) (h : P s) : P (manageClearCold t b s) := by
  unfold Machine.manageClearCold; split
  exacts [k.up _ (k.trunk _ rfl h), k.up _ h]

theorem raiseAgain (h : P s) : P (raiseAgain s) := by
  have last : ∀ {t}, P t → P (if t.gc.state = .island then Machine.raise keyTrunkLost t else t) :=
    fun h => by split; exacts [k.raise _ h, h]
  unfold Machine.raiseAgain; dsimp only
  refine last (forRows_keeps (P := P) (fun st s h => ?_) ?_)
  · split
    exacts [k.raiseLost st h, h]
  · split
    exacts [k.power (k.raise _ h), h]

theorem manageReset (t : Byte) (b : List Byte) (h : P s) : P (manageReset t b s) := by
  unfold Machine.manageReset; split
  exacts [k.raiseAgain (k.up _ (k.warm h)), k.up _ h]

/-! ### Every command -/

/-- What a command does to the part keeps `P`, whatever the level of RESET_N, and so does taking the notices it gave. -/
theorem actOr {held f : Gx24 → Gx24} {s t : State} (hl : ∀ {p}, P p → P (held p)) (hf : ∀ {p}, P p → P (f p))
    (h : P s.part) (ht : s.actOr held f = .next t) : P t.part := by
  rw [State.actOr_eq] at ht
  injection ht with ht
  subst ht
  dsimp only; split
  exacts [hl h, k.settle (hf h)]

/-- The same of a command that has no effect while RESET_N is asserted. -/
theorem act {f : Gx24 → Gx24} {s t : State} (hf : ∀ {p}, P p → P (f p)) (h : P s.part) (ht : s.act f = .next t) :
    P t.part := k.actOr (fun h => h) hf h ht

theorem frameAct {f : Gx24 → Gx24} {s t : State} (hf : ∀ {p}, P p → P (f p)) (h : P s.part)
    (ht : s.act (Machine.takeFrame f) = .next t) : P t.part := k.act (fun h => k.takeFrame hf h) h ht

theorem handleTick (n : Word) (c : Byte) (h : P s) : P (handleTick n c s) := by
  unfold Machine.handleTick; split
  exacts [k.takeTick _ _ h, k.frameError h]

theorem handleMove (a p m : Byte) (h : P s) : P (handleMove a p m s) := by
  unfold Machine.handleMove; split
  exacts [k.claimAxis _ _ h, k.frameError h]

theorem handleHalt (a m : Byte) (h : P s) : P (handleHalt a m s) := by
  unfold Machine.handleHalt; split
  exacts [k.haltAxis _ _ h, k.frameError h]

theorem handleJog (a : Byte) (x y : Word) (h : P s) : P (handleJog a x y s) := by
  unfold Machine.handleJog; split
  exacts [k.claimAxis _ _ h, k.frameError h]

theorem handleAck (i g : Byte) (h : P s) : P (handleAck i g s) := by
  unfold Machine.handleAck; repeat' split
  exacts [k.frameError h, k.growAlert _ (k.acknowledgeAll _ h), k.growAlert _ h]

theorem handleVerdict (e n v : Byte) (h : P s) : P (handleVerdict e n v s) := by
  unfold Machine.handleVerdict; split
  exacts [k.takeVerdict _ _ _ h, k.frameError h]

theorem handleOutput (st x l v : Byte) (h : P s) : P (handleOutput st x l v s) := by
  unfold Machine.handleOutput; repeat' split
  exacts [k.writeLamp _ _ _ h, k.frameError h, k.writeCue _ _ h, k.frameError h]

theorem discardFrame (l : List Byte) (h : P s) : P (discardFrame l s) := by
  unfold Machine.discardFrame; split
  exacts [k.growTrunk _ h, h]

theorem eventSweepStart (h : P s) : P (eventSweepStart s) := by
  unfold Machine.eventSweepStart; split
  exacts [k.startSweep (k.settle (k.endSlot none h)), h]

theorem eventDwellEnd (a : Fin 8) (h : P s) : P (eventDwellEnd a s) := by
  unfold Machine.eventDwellEnd; dsimp only; split
  exacts [k.stepAxis a h, h]

theorem eventGuardSettle (a : Fin 8) (h : P s) : P (eventGuardSettle a s) := by
  unfold Machine.eventGuardSettle; dsimp only; split
  exacts [k.stepAxis a h, h]

theorem eventStationLost (st : Fin 24) (h : P s) : P (eventStationLost st s) := by
  have miss : P (missAwaited st s) := by
    unfold missAwaited; repeat' split
    exacts [k.endSlot none h, h, h]
  unfold Machine.eventStationLost; dsimp only; repeat' split
  exacts [k.loseStation st h, miss, h, h]

theorem eventQueryTimeout (h : P s) : P (eventQueryTimeout s) := by
  unfold Machine.eventQueryTimeout; repeat' split
  exacts [k.endQuery _ _ h, h, h]

theorem eventChainFaultLoop (e : Fin 16) (h : P s) : P (eventChainFaultLoop e s) := by
  unfold Machine.eventChainFaultLoop; split
  exacts [k.chainFault _ _ h, h]

theorem eventCrowding (e : Fin 16) (h : P s) : P (eventCrowding e s) := by
  unfold Machine.eventCrowding; dsimp only; split
  exacts [k.raiseCrowding e h, h]

theorem eventGuardHeld (a : Fin 8) (h : P s) : P (eventGuardHeld a s) := by
  unfold Machine.eventGuardHeld; dsimp only; split
  exacts [k.raiseGuardHeld a (k.axisKeeps a _ (fun _ => rfl) (fun _ => rfl) h), h]

theorem eventClaimTimeout (a : Fin 8) (c : Claimant) (h : P s) : P (eventClaimTimeout a c s) := by
  unfold Machine.eventClaimTimeout; repeat' split
  exacts [k.timeOutClaim a c (k.axisKeeps a _ (fun _ => rfl) (fun _ => rfl) h), h, h]

theorem eventCooldownEnd (e : Fin 16) (h : P s) : P (eventCooldownEnd e s) := by
  unfold Machine.eventCooldownEnd; split
  exacts [k.cooldownOver e (k.modExhibit _ _ h), h]

theorem eventWaitTicksEnd (e : Fin 16) (h : P s) : P (eventWaitTicksEnd e s) := by
  unfold Machine.eventWaitTicksEnd; split
  exacts [k.endWait e (k.modRunner _ _ h), h]

theorem eventReferralTimeout (e : Fin 16) (h : P s) : P (eventReferralTimeout e s) := by
  unfold Machine.eventReferralTimeout; split
  exacts [k.timeOutReferral e (k.modRunner _ _ h), h]

theorem eventQuietExpiry (h : P s) : P (eventQuietExpiry s) := by
  unfold Machine.eventQuietExpiry; split
  exacts [k.expireQuiet (k.activity _ h), h]

theorem eventIdleExpiry (e : Fin 16) (h : P s) : P (eventIdleExpiry e s) := by
  unfold Machine.eventIdleExpiry; split
  exacts [k.expireIdle e h, h]

theorem eventIslandEntry (h : P s) : P (eventIslandEntry s) := by
  unfold Machine.eventIslandEntry; split
  exacts [k.enterIsland h, h]

theorem eventCueFire (e : Fin 16) (d : Word) (h : P s) : P (eventCueFire e d s) := by
  unfold Machine.eventCueFire; repeat' split
  exacts [k.runCue _ (k.takeCues _ h), h, h]

theorem releaseEstop (h : P s) : P (releaseEstop s) := by
  unfold Machine.releaseEstop; split
  · exact h
  · rename_i he
    exact forRows_keeps (P := P) (fun a _ h => k.recoverTest a h) (k.released (by simpa using he) h)

/-- Every command keeps what `KeptAll` keeps. -/
theorem exec {i : Instr} {s t : State} (h : P s.part) (ht : exec i s = .next t) : P t.part := by
  cases i
  case coldReset => exact k.actOr (fun h => k.settle (k.cold _ h)) (k.cold _) h ht
  case estopAsserted => exact k.actOr (k.held true) k.asserted h ht
  case estopReleased => exact k.actOr (k.held false) k.releaseEstop h ht
  case sweepStart => exact k.act k.eventSweepStart h ht
  case slotStart => exact k.act k.nextSlotStart h ht
  case dwellEnd => exact k.act (k.eventDwellEnd _) h ht
  case guardSettle => exact k.act (k.eventGuardSettle _) h ht
  case slotEnd => exact k.act (k.endSlot _) h ht
  case stationLost => exact k.act (k.eventStationLost _) h ht
  case queryTimeout => exact k.act k.eventQueryTimeout h ht
  case chainFaultLoop => exact k.act (k.eventChainFaultLoop _) h ht
  case crowding => exact k.act (k.eventCrowding _) h ht
  case guardHeld => exact k.act (k.eventGuardHeld _) h ht
  case claimTimeout => exact k.act (k.eventClaimTimeout _ _) h ht
  case escalation => exact k.act (k.escalation _) h ht
  case cooldownEnd => exact k.act (k.eventCooldownEnd _) h ht
  case waitTicksEnd => exact k.act (k.eventWaitTicksEnd _) h ht
  case referralTimeout => exact k.act (k.eventReferralTimeout _) h ht
  case quietTimerExpiry => exact k.act k.eventQuietExpiry h ht
  case idleExpiry => exact k.act (k.eventIdleExpiry _) h ht
  case localTimerExpiry => exact k.act k.localExpiry h ht
  case islandEntry => exact k.act k.eventIslandEntry h ht
  case tick => exact k.act (fun h => k.handleTick _ _ (k.growTrunk _ h)) h ht
  case cueFire => exact k.act (k.eventCueFire _ _) h ht
  case downFrameDiscarded => exact k.act (k.discardFrame _) h ht
  case cueFrame => exact k.frameAct (k.takeCue _ _ _ _) h ht
  case cueCancel => exact k.frameAct (k.cancelCue _ _) h ht
  case moveFrame => exact k.frameAct (k.handleMove _ _ _) h ht
  case halt => exact k.frameAct (k.handleHalt _ _) h ht
  case jog => exact k.frameAct (k.handleJog _ _ _) h ht
  case ackAlert => exact k.frameAct (k.handleAck _ _) h ht
  case verdict => exact k.frameAct (k.handleVerdict _ _ _) h ht
  case query => exact k.frameAct (k.takeQuery _ _) h ht
  case outputLamp => exact k.frameAct (k.handleOutput _ _ _ _) h ht
  case outputCue => exact k.frameAct (k.handleOutput _ _ _ _) h ht
  case tableRead => exact k.frameAct (k.readTable _ _) h ht
  case tableWrite => exact k.frameAct (k.writeTable _ _) h ht
  case stationRowWrite => exact k.frameAct (fun h => k.replyWrite _ _ _ (k.writeStationRow _ _ h)) h ht
  case sweepScheduleWrite => exact k.frameAct (fun h => k.replyWrite _ _ _ (k.writeSchedule _ _ h)) h ht
  case inputMapWrite => exact k.frameAct (fun h => k.replyWrite _ _ _ (k.writeInputMap _ _ h)) h ht
  case triggerRowWrite => exact k.frameAct (fun h => k.replyWrite _ _ _ (k.writeTriggerRow _ _ h)) h ht
  case actionEntryWrite => exact k.frameAct (fun h => k.replyWrite _ _ _ (k.writeAction _ _ h)) h ht
  case exhibitConfigWrite => exact k.frameAct (fun h => k.replyWrite _ _ _ (k.writeExhibitConfig _ _ h)) h ht
  case axisParameterWrite => exact k.frameAct (fun h => k.replyWrite _ _ _ (k.writeAxisParams _ _ h)) h ht
  case programWrite => exact k.frameAct (fun h => k.replyWrite _ _ _ (k.writeProgram _ _ h)) h ht
  case segmentWrite => exact k.frameAct (fun h => k.replyWrite _ _ _ (k.writeSegment _ _ h)) h ht
  case alertClassWrite => exact k.frameAct (fun h => k.replyWrite _ _ _ (k.writeAlertClass _ _ h)) h ht
  case zoneNeighbourWrite => exact k.frameAct (fun h => k.replyWrite _ _ _ (k.writeNeighbours _ _ h)) h ht
  case settingsWrite => exact k.frameAct (fun h => k.replyWrite _ _ _ (k.writeSettings _ _ h)) h ht
  case exhibitMode => exact k.frameAct (k.manageMode _ _) h ht
  case axisEnable => exact k.frameAct (k.manageAxis _ _) h ht
  case axisDisable => exact k.frameAct (k.manageAxis _ _) h ht
  case snapshot => exact k.frameAct (k.manageSnapshot _ _) h ht
  case resetWarm => exact k.frameAct (k.manageReset _ _) h ht
  case clearCold => exact k.frameAct (k.manageClearCold _ _) h ht
  case upFrameSent => exact k.act k.sent h ht
  case mgmtUnknownOperation => exact k.frameAct (fun h => k.up _ h) h ht

end KeptAll

end Sys2Proof.Machine
end

