-- ==== Sys2Proof/Laws/Ops.lean ====
section
/-! SUPPORT. What the shared operations can do, once for each. -/

namespace Sys2Proof.Machine

/-! ### The up queue (R182) -/

/-- An up frame is put at the tail of the queue, or dropped and counted while 64 wait. -/
theorem sendUp_room {s : Gx24} (f : UpFrame) (h : s.tp.upQueue.length < 64) :
    sendUp f s = { s with tp := { s.tp with upQueue := s.tp.upQueue ++ [f] } } := if_pos h

theorem sendUp_full {s : Gx24} (f : UpFrame) (h : ¬ s.tp.upQueue.length < 64) :
    sendUp f s = growTrunk .upFramesDropped s := if_neg h

/-- An up frame given changes the up queue and the dropped count alone. -/
theorem sendUp_frame (f : UpFrame) (s : Gx24) :
    ∃ q c, sendUp f s = { s with tp := { s.tp with upQueue := q }, counters := { s.counters with trunk := c } } := by
  unfold sendUp; split
  exacts [⟨_, s.counters.trunk, rfl⟩, ⟨s.tp.upQueue, _, rfl⟩]

@[simp] theorem sendUp_resetLow (f : UpFrame) (s : Gx24) : (sendUp f s).resetLow = s.resetLow := by
  obtain ⟨q, c, h⟩ := sendUp_frame f s; rw [h]
@[simp] theorem sendUp_motionPower (f : UpFrame) (s : Gx24) : (sendUp f s).motionPower = s.motionPower := by
  obtain ⟨q, c, h⟩ := sendUp_frame f s; rw [h]
@[simp] theorem sendUp_supervisor (f : UpFrame) (s : Gx24) : (sendUp f s).supervisor = s.supervisor := by
  obtain ⟨q, c, h⟩ := sendUp_frame f s; rw [h]
@[simp] theorem sendUp_node (f : UpFrame) (s : Gx24) : (sendUp f s).tp.node = s.tp.node := by
  obtain ⟨q, c, h⟩ := sendUp_frame f s; rw [h]
@[simp] theorem sendUp_gc (f : UpFrame) (s : Gx24) : (sendUp f s).gc = s.gc := by
  obtain ⟨q, c, h⟩ := sendUp_frame f s; rw [h]
@[simp] theorem sendUp_bs (f : UpFrame) (s : Gx24) : (sendUp f s).bs = s.bs := by
  obtain ⟨q, c, h⟩ := sendUp_frame f s; rw [h]
@[simp] theorem sendUp_pd (f : UpFrame) (s : Gx24) : (sendUp f s).pd = s.pd := by
  obtain ⟨q, c, h⟩ := sendUp_frame f s; rw [h]
@[simp] theorem sendUp_exhibits (f : UpFrame) (s : Gx24) : (sendUp f s).exhibits = s.exhibits := by
  obtain ⟨q, c, h⟩ := sendUp_frame f s; rw [h]
@[simp] theorem sendUp_cr (f : UpFrame) (s : Gx24) : (sendUp f s).cr = s.cr := by
  obtain ⟨q, c, h⟩ := sendUp_frame f s; rw [h]
@[simp] theorem sendUp_mu (f : UpFrame) (s : Gx24) : (sendUp f s).mu = s.mu := by
  obtain ⟨q, c, h⟩ := sendUp_frame f s; rw [h]
@[simp] theorem sendUp_au (f : UpFrame) (s : Gx24) : (sendUp f s).au = s.au := by
  obtain ⟨q, c, h⟩ := sendUp_frame f s; rw [h]
@[simp] theorem sendUp_ac (f : UpFrame) (s : Gx24) : (sendUp f s).ac = s.ac := by
  obtain ⟨q, c, h⟩ := sendUp_frame f s; rw [h]
@[simp] theorem sendUp_work (f : UpFrame) (s : Gx24) : (sendUp f s).work = s.work := by
  obtain ⟨q, c, h⟩ := sendUp_frame f s; rw [h]

/-- Giving up frames leaves what they cannot reach. -/
theorem sendAll_keeps {P : Gx24 → Prop} (hf : ∀ f {s}, P s → P (sendUp f s)) (l : List UpFrame) {s : Gx24} (h : P s) :
    P (sendAll l s) := by
  unfold sendAll; exact forList_keeps (fun f _ h => hf f h) h

@[simp] theorem sendAll_work (l : List UpFrame) (s : Gx24) : (sendAll l s).work = s.work :=
  sendAll_keeps (P := fun t => t.work = s.work) (fun f t h => by rw [sendUp_work, h]) l rfl
@[simp] theorem sendAll_au (l : List UpFrame) (s : Gx24) : (sendAll l s).au = s.au :=
  sendAll_keeps (P := fun t => t.au = s.au) (fun f t h => by rw [sendUp_au, h]) l rfl
@[simp] theorem sendAll_supervisor (l : List UpFrame) (s : Gx24) : (sendAll l s).supervisor = s.supervisor :=
  sendAll_keeps (P := fun t => t.supervisor = s.supervisor) (fun f t h => by rw [sendUp_supervisor, h]) l rfl
@[simp] theorem sendAll_motionPower (l : List UpFrame) (s : Gx24) : (sendAll l s).motionPower = s.motionPower :=
  sendAll_keeps (P := fun t => t.motionPower = s.motionPower) (fun f t h => by rw [sendUp_motionPower, h]) l rfl
@[simp] theorem sendAll_mu (l : List UpFrame) (s : Gx24) : (sendAll l s).mu = s.mu :=
  sendAll_keeps (P := fun t => t.mu = s.mu) (fun f t h => by rw [sendUp_mu, h]) l rfl
@[simp] theorem sendAll_exhibits (l : List UpFrame) (s : Gx24) : (sendAll l s).exhibits = s.exhibits :=
  sendAll_keeps (P := fun t => t.exhibits = s.exhibits) (fun f t h => by rw [sendUp_exhibits, h]) l rfl
@[simp] theorem sendAll_cr (l : List UpFrame) (s : Gx24) : (sendAll l s).cr = s.cr :=
  sendAll_keeps (P := fun t => t.cr = s.cr) (fun f t h => by rw [sendUp_cr, h]) l rfl
@[simp] theorem sendAll_gc (l : List UpFrame) (s : Gx24) : (sendAll l s).gc = s.gc :=
  sendAll_keeps (P := fun t => t.gc = s.gc) (fun f t h => by rw [sendUp_gc, h]) l rfl

/-! ### Rendering (R141, R142) -/

/-- Rendering changes the zone patterns last computed, beacon images and SUPERVISOR alone. -/
theorem render_frame (s : Gx24) : ∃ p st b,
    render s = { s with au := { s.au with patterns := p }, bs := { s.bs with stations := st }, supervisor := b } := by
  let P : Gx24 → Prop := fun t => ∃ p st, t = { s with au := { s.au with patterns := p }, bs := { s.bs with stations := st } }
  have zone : ∀ (z : Fin 4) t, P t → P (renderZone z t) := by
    rintro z t h
    unfold renderZone; dsimp only; split
    · exact h
    · obtain ⟨p, st, rfl⟩ := h
      refine forRows_keeps (P := P) (fun x u h => ?_) ⟨tput p z (zonePattern z _), st, rfl⟩
      split
      · obtain ⟨p', st', rfl⟩ := h
        exact ⟨p', _, rfl⟩
      · exact h
  obtain ⟨p, st, h⟩ : P (forRows (n := 4) renderZone s) := forRows_keeps zone ⟨s.au.patterns, s.bs.stations, rfl⟩
  exact ⟨p, st, _, by unfold render; dsimp only; rw [h]⟩

@[simp] theorem render_estop (s : Gx24) : (render s).estop = s.estop := by obtain ⟨p, t, b, h⟩ := render_frame s; rw [h]
@[simp] theorem render_resetLow (s : Gx24) : (render s).resetLow = s.resetLow := by obtain ⟨p, t, b, h⟩ := render_frame s; rw [h]
@[simp] theorem render_motionPower (s : Gx24) : (render s).motionPower = s.motionPower := by
  obtain ⟨p, t, b, h⟩ := render_frame s; rw [h]
@[simp] theorem render_tp (s : Gx24) : (render s).tp = s.tp := by obtain ⟨p, t, b, h⟩ := render_frame s; rw [h]
@[simp] theorem render_gc (s : Gx24) : (render s).gc = s.gc := by obtain ⟨p, t, b, h⟩ := render_frame s; rw [h]
@[simp] theorem render_exhibits (s : Gx24) : (render s).exhibits = s.exhibits := by
  obtain ⟨p, t, b, h⟩ := render_frame s; rw [h]
@[simp] theorem render_cr (s : Gx24) : (render s).cr = s.cr := by obtain ⟨p, t, b, h⟩ := render_frame s; rw [h]
@[simp] theorem render_mu (s : Gx24) : (render s).mu = s.mu := by obtain ⟨p, t, b, h⟩ := render_frame s; rw [h]
@[simp] theorem render_slots (s : Gx24) : (render s).au.slots = s.au.slots := by
  obtain ⟨p, t, b, h⟩ := render_frame s; rw [h]
@[simp] theorem render_heldGiven (s : Gx24) : (render s).au.heldGiven = s.au.heldGiven := by
  obtain ⟨p, t, b, h⟩ := render_frame s; rw [h]
@[simp] theorem render_ac (s : Gx24) : (render s).ac = s.ac := by obtain ⟨p, t, b, h⟩ := render_frame s; rw [h]
@[simp] theorem render_counters (s : Gx24) : (render s).counters = s.counters := by
  obtain ⟨p, t, b, h⟩ := render_frame s; rw [h]
@[simp] theorem render_work (s : Gx24) : (render s).work = s.work := by obtain ⟨p, t, b, h⟩ := render_frame s; rw [h]

/-- Whether some record stands that calls the supervisor is a matter of the records and the exhibits' modes. -/
theorem supervisorCall_congr {s t : Gx24} (h1 : t.au.slots = s.au.slots) (h2 : t.exhibits = s.exhibits) :
    supervisorCall t = supervisorCall s := by
  unfold supervisorCall recordAt exhibitDark exhibitOf; rw [h1, h2]

/-- Rendering sets SUPERVISOR as R142 says. -/
theorem render_sets_supervisor (s : Gx24) : (render s).supervisor = supervisorCall s := by
  have h1 := render_slots s
  have h2 := render_exhibits s
  simp only [render] at h1 h2 ⊢
  exact supervisorCall_congr h1 h2

/-- Whether MOTION_PWR is on is a matter of ESTOP_N, RESET_N and the records. -/
theorem powerOn_congr {s t : Gx24} (h1 : t.estop = s.estop) (hl : t.resetLow = s.resetLow)
    (h2 : t.au.slots = s.au.slots) : powerOn t = powerOn s := by
  unfold powerOn estopRecordStands recordAt; rw [h1, hl, h2]

/-! ### Changes of the records (R131) -/

/-- The held set that stands when the last one given is it: nothing is given. -/
theorem giveHeld_given {s : Gx24} (h : currentHeld s = s.au.heldGiven) : giveHeld s = s := if_pos h

/-- After a change of the records that leaves the held set as given no notice is in flight. -/
theorem alertsChanged_quiet {s : Gx24} (ns : List UpFrame) (h : currentHeld s = s.au.heldGiven) :
    (alertsChanged ns s).work = s.work := by
  unfold alertsChanged
  rw [giveHeld_given h, sendAll_work, render_work]; rfl

@[simp] theorem giveHeld_estop (s : Gx24) : (giveHeld s).estop = s.estop := by unfold giveHeld; split <;> simp
@[simp] theorem giveHeld_resetLow (s : Gx24) : (giveHeld s).resetLow = s.resetLow := by unfold giveHeld; split <;> simp
@[simp] theorem giveHeld_slots (s : Gx24) : (giveHeld s).au.slots = s.au.slots := by unfold giveHeld; split <;> simp
@[simp] theorem giveHeld_exhibits (s : Gx24) : (giveHeld s).exhibits = s.exhibits := by unfold giveHeld; split <;> simp
@[simp] theorem giveHeld_mu (s : Gx24) : (giveHeld s).mu = s.mu := by unfold giveHeld; split <;> simp
@[simp] theorem giveHeld_cr (s : Gx24) : (giveHeld s).cr = s.cr := by unfold giveHeld; split <;> simp
@[simp] theorem giveHeld_gc (s : Gx24) : (giveHeld s).gc = s.gc := by unfold giveHeld; split <;> simp

/-- A change of the records sets MOTION_PWR as R126 says. -/
theorem alertsChanged_power (ns : List UpFrame) (s : Gx24) : (alertsChanged ns s).motionPower = powerOn s := by
  unfold alertsChanged
  rw [sendAll_motionPower, render_motionPower]
  simp only [setPower]
  exact powerOn_congr (giveHeld_estop s) (giveHeld_resetLow s) (giveHeld_slots s)

/-- A change of the records sets SUPERVISOR as R142 says. -/
theorem alertsChanged_supervisor (ns : List UpFrame) (s : Gx24) :
    (alertsChanged ns s).supervisor = supervisorCall s := by
  unfold alertsChanged
  rw [sendAll_supervisor, render_sets_supervisor]
  exact supervisorCall_congr (by simp) (by simp)

/-- The records stand after a change as it left them. -/
theorem alertsChanged_slots (ns : List UpFrame) (s : Gx24) : (alertsChanged ns s).au.slots = s.au.slots := by
  unfold alertsChanged
  rw [sendAll_au, render_slots]; simp

@[simp] theorem alertsChanged_exhibits (ns : List UpFrame) (s : Gx24) : (alertsChanged ns s).exhibits = s.exhibits := by
  unfold alertsChanged; rw [sendAll_exhibits, render_exhibits]; simp
@[simp] theorem alertsChanged_mu (ns : List UpFrame) (s : Gx24) : (alertsChanged ns s).mu = s.mu := by
  unfold alertsChanged; rw [sendAll_mu, render_mu]; simp
@[simp] theorem alertsChanged_cr (ns : List UpFrame) (s : Gx24) : (alertsChanged ns s).cr = s.cr := by
  unfold alertsChanged; rw [sendAll_cr, render_cr]; simp
@[simp] theorem alertsChanged_gc (ns : List UpFrame) (s : Gx24) : (alertsChanged ns s).gc = s.gc := by
  unfold alertsChanged; rw [sendAll_gc, render_gc]; simp

theorem recordAt_putRecord (i j : Fin 64) (r : Option AlertRecord) (s : Gx24) :
    recordAt j (putRecord i r s) = if i = j then r else recordAt j s := by
  simp only [recordAt, putRecord, tget_tmod]; split <;> rfl

theorem recordAt_takeSlot (i j : Fin 64) (r : AlertRecord) (s : Gx24) :
    recordAt j (takeSlot i r s) = if i = j then some r else recordAt j s := by
  simp only [recordAt, takeSlot, tget_tmod]; split <;> rfl

/-! ### Timers and the warm reset (R159, R188) -/

/-- Reloading every timer changes the Activity Unit alone. -/
theorem reloadAllTimers_frame (s : Gx24) : ∃ x, reloadAllTimers s = { s with ac := x } := by
  let P : Gx24 → Prop := fun t => ∃ x, t = { s with ac := x }
  have h0 : P (reloadQuiet s) := ⟨_, rfl⟩
  have h1 : P (forRows (n := 16) reloadIdle (reloadQuiet s)) := forRows_keeps (P := P) (fun e t h => by
    obtain ⟨x, h⟩ := h
    exact ⟨{ x with idle := tput x.idle e (exhibitOf e s).record.idleReload }, by subst h; rfl⟩) h0
  exact h1

/-- The Activity Unit's warm reset changes the Activity Unit alone. -/
theorem warmActivity_frame (s : Gx24) : ∃ x, warmActivity s = { s with ac := x } := by
  obtain ⟨x, h⟩ := reloadAllTimers_frame { s with ac := { s.ac with gallery := .closed } }
  exact ⟨x, h⟩

/-- The warm reset of the blocks is that of each, but for the Activity Unit's timers. -/
theorem warmBlocks_frame (s : Gx24) : ∃ x, warmBlocks s = setPower (warmClock { warmAlerts (warmMotion (warmChains
    (warmExhibits (warmDispatcher (warmBranch { s with work := [] }))))) with ac := x }) := by
  obtain ⟨x, h⟩ := warmActivity_frame (warmAlerts (warmMotion (warmChains (warmExhibits (warmDispatcher (warmBranch
    { s with work := [] }))))))
  exact ⟨x, by unfold warmBlocks; dsimp only; rw [h]⟩

end Sys2Proof.Machine
end

