-- ==== Sys2Proof/WellFormed.lean ====
section
/-! DEFINITION. Which commands spell what their row says: the checks that the operand types do not make. `exec`
gives every command a meaning, well formed or not. -/

namespace Sys2Proof

/-- The table ids that have a write row of their own in the opcode table (R185: access read, write). -/
def writableTables : List Nat := [1, 2, 3, 4, 6, 7, 8, 9, 10, 11, 12, 15]

/-- The delimiter byte of both links (R190). -/
def delimiter : Byte := 0x7E#8

/-- A string of line bytes between two delimiters holds none (R190). That a command carries one such string is the model's choice
for SLOT_END (DESIGN CHOICE, assumption 36). -/
def undelimited (bytes : List Byte) : Bool := !bytes.contains delimiter

/-- A MGMT body together with its tag and operation fits the 250 payload bytes of R180. -/
def bodyFits (body : List Byte) : Bool := body.length ≤ 248

/-- A TABLE-WRITE's contents, with tag, operation, table id and row, fit the 250 payload bytes of R180. -/
def contentsFit (contents : List Byte) : Bool := contents.length ≤ 245

/-- The flag byte of an AXIS-ENABLE body has bit 0 as `want`; a body of another length names no flag (R184). -/
def enableFlagIs (want : Bool) : List Byte → Bool
  | [_, flag] => flag.getLsbD 0 == want
  | _ => true

/-- The table id that a TABLE-WRITE body names has no write row of its own. -/
def namesNoWritableTable : List Byte → Bool
  | id :: _ :: _ :: _ => !writableTables.contains id.toNat
  | _ => true

/-- The command spells what its row of the opcode table says. -/
def wellFormed : Instr → Bool
  | .slotEnd (some bytes) => undelimited bytes
  | .downFrameDiscarded bytes => undelimited bytes
  | .outputLamp _ selector _ _ => selector == 0#8
  | .outputCue _ selector _ _ => selector == 1#8
  | .tableRead _ body => bodyFits body
  | .tableWrite _ body => bodyFits body && namesNoWritableTable body
  | .stationRowWrite _ _ c => contentsFit c
  | .sweepScheduleWrite _ _ c => contentsFit c
  | .inputMapWrite _ _ c => contentsFit c
  | .triggerRowWrite _ _ c => contentsFit c
  | .actionEntryWrite _ _ c => contentsFit c
  | .exhibitConfigWrite _ _ c => contentsFit c
  | .axisParameterWrite _ _ c => contentsFit c
  | .programWrite _ _ c => contentsFit c
  | .segmentWrite _ _ c => contentsFit c
  | .alertClassWrite _ _ c => contentsFit c
  | .zoneNeighbourWrite _ _ c => contentsFit c
  | .settingsWrite _ _ c => contentsFit c
  | .exhibitMode _ body => bodyFits body
  | .axisEnable _ body => bodyFits body && enableFlagIs true body
  | .axisDisable _ body => bodyFits body && enableFlagIs false body
  | .snapshot _ body => bodyFits body
  | .resetWarm _ body => bodyFits body
  | .clearCold _ body => bodyFits body
  | .mgmtUnknownOperation _ op body => bodyFits body && (op.toNat == 0 || decide (7 < op.toNat))
  | .slotEnd none => true
  | .coldReset _ => true
  | .estopAsserted => true
  | .estopReleased => true
  | .sweepStart => true
  | .slotStart => true
  | .dwellEnd _ => true
  | .guardSettle _ => true
  | .stationLost _ => true
  | .queryTimeout => true
  | .chainFaultLoop _ => true
  | .crowding _ => true
  | .guardHeld _ => true
  | .claimTimeout _ _ => true
  | .escalation _ => true
  | .cooldownEnd _ => true
  | .waitTicksEnd _ => true
  | .referralTimeout _ => true
  | .quietTimerExpiry => true
  | .idleExpiry _ => true
  | .localTimerExpiry => true
  | .islandEntry => true
  | .tick _ _ => true
  | .cueFire _ _ => true
  | .cueFrame _ _ _ _ => true
  | .cueCancel _ _ => true
  | .moveFrame _ _ _ => true
  | .halt _ _ => true
  | .jog _ _ _ => true
  | .ackAlert _ _ => true
  | .verdict _ _ _ => true
  | .query _ _ => true
  | .upFrameSent => true

end Sys2Proof
end

