-- ==== Sys2Proof/Tests/Slice0.lean ====
section
/-! SUPPORT. Tests: ill-formed commands that WellFormed refuses, bytes written out from chapter 11, single steps of the
manual's worked examples, and for every statement that has hypotheses a state that meets them. -/

set_option maxRecDepth 100000

namespace Sys2Proof.Tests

open Sys2Proof.Machine

/-! ### Commands that are not well formed -/

theorem test_undelimited_reply : wellFormed (.slotEnd (some [0x05#8, 0x7E#8])) = false := by decide
theorem test_undelimited_frame : wellFormed (.downFrameDiscarded [0x7E#8]) = false := by decide
theorem test_lamp_selector : wellFormed (.outputLamp 0#8 1#8 0#8 0#8) = false := by decide
theorem test_cue_selector : wellFormed (.outputCue 0#8 0#8 0#8 0#8) = false := by decide
theorem test_body_too_long : wellFormed (.snapshot 0#8 (List.replicate 249 0#8)) = false := by decide
theorem test_contents_too_long : wellFormed (.segmentWrite 0#8 0#16 (List.replicate 246 0#8)) = false := by decide
theorem test_enable_flag : wellFormed (.axisEnable 0#8 [2#8, 0#8]) = false := by decide
theorem test_disable_flag : wellFormed (.axisDisable 0#8 [2#8, 1#8]) = false := by decide
theorem test_writable_table : wellFormed (.tableWrite 0#8 [15#8, 0#8, 0#8]) = false := by decide
theorem test_known_operation : wellFormed (.mgmtUnknownOperation 0#8 7#8 []) = false := by decide
theorem test_well_formed : wellFormed (.tableWrite 0#8 [5#8, 0#8, 0#8]) = true := by decide

/-! ### Bytes of chapter 11, with their CRC written out -/

/-- The check value of R190. -/
theorem test_crc : crc16 [0x31#8, 0x32#8, 0x33#8, 0x34#8, 0x35#8, 0x36#8, 0x37#8, 0x38#8, 0x39#8] = 0x29B1#16 := by decide
theorem test_escape : [0x7E#8, 0x41#8, 0x7D#8].flatMap escapeByte = [0x7D#8, 0x5E#8, 0x41#8, 0x7D#8, 0x5D#8] := by decide
theorem test_tick_frame : receive 3#4 [0x0F#8, 0x01#8, 0x03#8, 0x13#8, 0x95#8, 0x01#8, 0x17#8, 0x92#8] =
    .tick 5013#16 1#8 := by decide
theorem test_cue_frame :
    receive 3#4 [0x03#8, 0x02#8, 0x06#8, 0x03#8, 0x52#8, 0x02#8, 0x00#8, 0x46#8, 0x05#8, 0x9E#8, 0x43#8] =
    .cueFrame 850#16 2#8 70#16 5#8 := by decide
theorem test_cue_cancel_frame : receive 3#4 [0x03#8, 0x03#8, 0x03#8, 0x02#8, 0x03#8, 0x52#8, 0xF4#8, 0x7A#8] =
    .cueCancel 2#8 850#16 := by decide
theorem test_move_frame : receive 3#4 [0x03#8, 0x04#8, 0x03#8, 0x05#8, 0x0C#8, 0x01#8, 0x6C#8, 0x96#8] =
    .moveFrame 5#8 12#8 1#8 := by decide
theorem test_halt_frame : receive 3#4 [0x03#8, 0x05#8, 0x02#8, 0x02#8, 0x00#8, 0x4B#8, 0x99#8] = .halt 2#8 0#8 := by decide
theorem test_jog_frame : receive 3#4 [0x03#8, 0x06#8, 0x05#8, 0x02#8, 0xFF#8, 0xF6#8, 0x00#8, 0x04#8, 0x05#8, 0x39#8] =
    .jog 2#8 (-10#16) 4#16 := by decide
theorem test_ack_frame : receive 3#4 [0x03#8, 0x07#8, 0x02#8, 0x07#8, 0x01#8, 0x49#8, 0x25#8] = .ackAlert 7#8 1#8 := by decide
theorem test_verdict_frame : receive 3#4 [0x03#8, 0x08#8, 0x03#8, 0x02#8, 0x04#8, 0x01#8, 0xEB#8, 0x84#8] =
    .verdict 2#8 4#8 1#8 := by decide
theorem test_query_frame : receive 3#4 [0x03#8, 0x09#8, 0x03#8, 0x07#8, 0x00#8, 0x03#8, 0x46#8, 0xA3#8] =
    .query 7#8 3#16 := by decide
/-- The cue number 0x7E comes escaped. -/
theorem test_output_frame :
    receive 3#4 [0x03#8, 0x0A#8, 0x04#8, 0x0C#8, 0x01#8, 0x00#8, 0x7D#8, 0x5E#8, 0xC1#8, 0x13#8] =
    .outputCue 12#8 1#8 0#8 0x7E#8 := by decide
theorem test_mode_frame : receive 3#4 [0x03#8, 0x0B#8, 0x04#8, 0x09#8, 0x03#8, 0x02#8, 0x02#8, 0x8F#8, 0xEF#8] =
    .exhibitMode 9#8 [2#8, 2#8] := by decide
theorem test_settings_frame :
    receive 3#4 [0x03#8, 0x0B#8, 0x08#8, 0x09#8, 0x02#8, 0x0F#8, 0x00#8, 0x00#8, 0x00#8, 0x0B#8, 0xB8#8, 0x78#8, 0x4E#8] =
    .settingsWrite 9#8 0#16 [0#8, 0x0B#8, 0xB8#8] := by decide
theorem test_disable_frame : receive 3#4 [0x03#8, 0x0B#8, 0x04#8, 0x09#8, 0x04#8, 0x02#8, 0x00#8, 0x2A#8, 0x3D#8] =
    .axisDisable 9#8 [2#8, 0#8] := by decide
/-- A frame cut short fails its CRC. -/
theorem test_short_frame : receive 3#4 [0x03#8, 0x05#8, 0x02#8, 0x02#8, 0x00#8, 0x4B#8] =
    .downFrameDiscarded [0x03#8, 0x05#8, 0x02#8, 0x02#8, 0x00#8, 0x4B#8] := by decide

/-! ### States to step from -/

/-- The part after a cold reset at node 3. -/
def base : Gx24 := .cold 3#4

/-- The part a command makes of `p`. -/
def after (c : Instr) (p : Gx24) : Gx24 :=
  match exec c ⟨p, []⟩ with
  | .next s => s.part
  | _ => p

/-- The part with its branch changed. -/
def inBranch (f : Branch → Branch) (p : Gx24) : Gx24 := { p with bs := f p.bs }

/-- A station of this kind and state in slot 5, its reply awaited. -/
def polled (kind : StationKind) (f : Station → Station) : Gx24 :=
  inBranch (fun b => { b with
    rows := tmod b.rows 5 (fun r => { r with enabled := true, kind := kind })
    stations := tmod b.stations 5 f, schedule := tput b.schedule 5 (some 5)
    awaiting := some ⟨5, none, false, false⟩ }) base

/-! ### A panel joins and delivers its presses (1.5) -/

/-- Step 2: next-serial 9 and events 6, 7, 8 make the station PRESENT at expected serial 9, three events stale. -/
def joinReply : List Byte := [0x05#8, 0x0B#8, 0x03#8, 0x60#8, 0x70#8, 0x80#8, 0x00#8, 0x09#8, 0x00#8, 0x00#8, 0x00#8, 0x00#8,
  0x00#8, 0x5B#8, 0xA0#8]
theorem test_join :
    let t := after (.slotEnd (some joinReply)) (polled .panel (fun x => { x with state := .joining }))
    (stationOf 5 t).state = .present ∧ (stationOf 5 t).expected = 9#4 ∧
      tget (tget t.counters.stations 5) StationCounter.stale.index = ⟨3#16, false⟩ := by decide
/-- The poll to a PANEL that expects serial 9, byte for byte (11.5). -/
theorem test_poll :
    (after .slotStart (inBranch (fun b => { b with nextSlot := 5, awaiting := none })
      (polled .panel (fun x => { x with state := .present, expected := 9#4 })))).branchOut =
    [0x7E#8, 0x05#8, 0x07#8, 0x00#8, 0x00#8, 0x00#8, 0x00#8, 0x00#8, 0x09#8, 0x00#8, 0x12#8, 0x3E#8] := by decide
theorem test_third_miss :
    (stationOf 5 (after (.slotEnd none) (polled .panel (fun x => { x with state := .present, missCount := 2 })))).state =
    .lost := by decide

/-! ### A short move, its halt, and a guard stop (chapter 5) -/

/-- Axis 2 of the example: A 16, T 160, C 64, at `p` with speed `v`. -/
def moving (state : AxisState) (p v : Int) : Gx24 :=
  base.withAxis 2 (fun x => { x with
    state := state, position := p, velocity := v, target := 160, cruise := 64, job := some (.program 0)
    params := { x.params with accel := 16, guardSettle := 2 } })
theorem test_step_4_decelerates : (axisOf 2 (stepAxis 2 (moving .running 96 48))).position = 128 := by decide
theorem test_step_6_lands :
    let x := axisOf 2 (stepAxis 2 (moving .running 144 16))
    x.position = 160 ∧ x.state = .idle := by decide
theorem test_halt_step_6_rests :
    let x := axisOf 2 (stepAxis 2 (moving .halting 144 16))
    x.position = 144 ∧ x.velocity = 0 ∧ x.state = .idle := by decide
theorem test_guard_brakes :
    let x := axisOf 2 (stepAxis 2 ((moving .guardStop 96 48).withAxis 2 (fun x => { x with guardOpen := true })))
    x.position = 96 ∧ x.velocity = 0 ∧ x.state = .guardStop := by decide
theorem test_guard_settles :
    let x := axisOf 2 (after (.guardSettle 2) ((moving .guardStop 96 0).withAxis 2 (fun x => { x with settleCount := 1 })))
    x.position = 112 ∧ x.velocity = 16 ∧ x.state = .running := by decide

/-! ### Counters, cues, the clock, alerts (chapters 7 to 10) -/

/-- 65534 and an amount of 4 stop at 65535 with the mark (8.5). -/
theorem test_counter_saturates : (⟨65534#16, false⟩ : Counter).add 4 = ⟨65535#16, true⟩ := by decide
theorem test_counter_exactly : (⟨65534#16, false⟩ : Counter).add 1 = ⟨65535#16, true⟩ := by decide

/-- The clock LOCKED at tick 800 (9.5). -/
def at800 : Gx24 := { base with gc := { base.gc with state := .locked, tick := 800#16 } }
theorem test_cue_late : (after (.cueFrame 790#16 2#8 60#16 4#8) at800).tp.upQueue =
    [.cueReport 2#8 790#16 (some 4#8) .late 800#16] := by decide
theorem test_cue_accepted :
    let t := after (.cueFrame 850#16 2#8 70#16 5#8) at800
    t.gc.schedule = [⟨850#16, 2, 70, 5#8⟩] ∧ t.tp.upQueue = [.cueReport 2#8 850#16 (some 5#8) .accepted 800#16] := by decide
theorem test_island_entry :
    let t := after .localTimerExpiry { base with gc := ⟨.locked, 5000#16, 19, [], 0⟩ }
    t.gc.state = .island ∧ t.gc.tick = 5001#16 ∧
      (recordAt 0 t).map (·.key) = some ⟨clsSystem, .trunkLost, none, none, none⟩ := by decide
/-- The lowest slot, generation 1, after 15 wraps to 0. -/
theorem test_generation_wraps :
    (tget (raise ⟨8, .none, some 3, none, none⟩
      { base with au := { base.au with slots := tput base.au.slots 0 ⟨15#4, none⟩ } }).au.slots 0).generation = 0#4 := by
  decide
theorem test_estop : (after .estopAsserted (moving .running 96 48)).motionPower = false ∧
    (axisOf 2 (after .estopAsserted (moving .running 96 48))).state = .fault := by decide
theorem test_cold_settings_read : (after (.tableRead 7#8 [15#8, 0#8, 0#8]) base).tp.upQueue =
    [.mgmtReply 7#8 1#8 .ok 15#8 0#16 [3#8, 0#8, 0#8, 3#8, 1#8]] := by decide
theorem test_up_frame_bytes :
    (after .upFrameSent { base with tp := { base.tp with upQueue := [.inputReport 5 0 .press 0x7E#16] } }).trunkOut =
    [0x7E#8, 0x03#8, 0x88#8, 0x05#8, 0x05#8, 0x00#8, 0x00#8, 0x00#8, 0x7D#8, 0x5E#8, 0x3E#8, 0x10#8] := by decide

/-! ### States that meet the hypotheses of the statements

One theorem a statement, each clause at a boundary value of its range. -/

theorem unattached_of {p : Gx24} {st : Fin 24}
    (h : ∀ a, (axisOf a p).params.drive = none ∧ (axisOf a p).params.guard = none)
    (hr : ∀ e, (runnerOf e p).awaitedCue = none) (hq : p.bs.query = none) : p.Unattached st := by
  refine ⟨fun a => ⟨by simp [(h a).1], by simp [(h a).2]⟩, fun e serial => by simp [hr e], by simp [hq]⟩

theorem nothing_counts_of {p : Gx24}
    (he : ∀ e, (exhibitOf e p).queue = [] ∧ (exhibitOf e p).activity ≠ .cooldown ∧ idleCounts e p = false ∧
      (runnerOf e p).state ≠ .waitTicks ∧ (runnerOf e p).state ≠ .waitVerdict)
    (ha : ∀ a, (axisOf a p).claims = [] ∧ (axisOf a p).guardOpen = false)
    (hg : ¬(p.ac.gallery = .opened ∧ 0 < p.tp.quietReload ∧ 0 < p.ac.quiet)) (hr : ∀ i, recordAt i p = none) :
    p.NothingCounts := ⟨he, ha, hg, fun i r h => by simp [hr i] at h⟩

theorem witness_StepRunsTheFrontCommand : base.Quiet := by decide

/-- 64 frames wait, and one is sent. -/
def fullQueue : Gx24 := { base with tp := { base.tp with upQueue := List.replicate 64 (.inputReport 0 0 .press 0#16) } }
theorem witness_UpQueueStaysBounded :
    ∃ t, UpQueueBounded fullQueue ∧ step ⟨fullQueue, [.upFrameSent]⟩ = .next t := ⟨_, by unfold UpQueueBounded; decide, rfl⟩

theorem witness_MotionPowerFollowsEstop :
    ∃ t, MotionPowerLaw base ∧ step ⟨base, [.estopAsserted]⟩ = .next t := ⟨_, by unfold MotionPowerLaw; decide, rfl⟩

/-- ESTOP_N is asserted, every axis OFF. -/
def stopped : Gx24 := { base with estop := true, motionPower := false }
theorem witness_EstopKeepsEveryAxisStill :
    ∃ t, EstopLaw stopped ∧ stopped.estop = true ∧ step ⟨stopped, [.axisEnable 0#8 [0#8, 1#8]]⟩ = .next t :=
  ⟨_, by unfold EstopLaw; decide, rfl, rfl⟩

theorem witness_BeaconsAndSupervisorStayRendered :
    ∃ t, RenderLaw base ∧ step ⟨base, [.estopAsserted]⟩ = .next t := ⟨_, by unfold RenderLaw Gx24.BeaconsShow; decide, rfl⟩

/-- 32 entries of one exhibit wait. -/
def fullSchedule : Gx24 :=
  { at800 with gc := { at800.gc with schedule := (List.range 32).map (fun n => ⟨BitVec.ofNat 16 (900 + n), 2, 0, 0#8⟩) } }
theorem witness_ScheduleStaysUniqueAndBounded :
    ∃ t, ScheduleLaw fullSchedule ∧ step ⟨fullSchedule, [.cueFrame 850#16 2#8 0#16 0#8]⟩ = .next t :=
  ⟨_, by unfold ScheduleLaw; decide, rfl⟩

/-- Exhibit 15 is PUBLIC with a story of row 127 and a press of it waiting, and axis 7 pursues a target at its soft limit. -/
def lively : Gx24 :=
  let p : Gx24 := base.withExhibit 15 (fun x => { x with
    mode := .pub, queue := [⟨127, 23, 0, 0#16, 0⟩], record := { x.record with depth := 1 } })
  { p with pd := { p.pd with
      rows := tput p.pd.rows 127 ⟨some 15, .visitor, .press, .stepped, some 511⟩
      continuation := tput p.pd.continuation 127 (some 1022) } }.withAxis 7 (fun x => { x with
    state := .running, target := x.params.softMax * 16 })
theorem witness_StoriesStayOfPublicSteppedRows :
    ∃ t, StoryLaw lively ∧ step ⟨lively, [.exhibitMode 0#8 [15#8, 1#8]]⟩ = .next t :=
  ⟨_, fun r h => by
    by_cases hr : r = 127
    · subst hr; exact ⟨by decide, 15, by decide, by decide⟩
    · revert r; decide, rfl⟩
theorem witness_PressQueuesStayWithinTheirDepth :
    ∃ t, QueueLaw lively ∧ step ⟨lively, [.exhibitMode 0#8 [15#8, 1#8]]⟩ = .next t := ⟨_, by unfold QueueLaw; decide, rfl⟩
theorem witness_HeldExhibitsAreTheNamedOnes :
    ∃ t, HeldLaw lively ∧ step ⟨lively, [.estopAsserted]⟩ = .next t := 
  ⟨_, ⟨by decide, by decide, show ∀ e, _ ∨ _ → (_ ↔ _) from by decide⟩, rfl⟩
theorem witness_TargetsStayWithinTheSoftLimits :
    ∃ t, TargetLaw lively ∧ step ⟨lively, [.halt 7#8 0#8]⟩ = .next t := ⟨_, by unfold TargetLaw; decide, rfl⟩

theorem witness_FramesReachTheirCommand :
    (14#4 : Serial) ≠ broadcast ∧ [2#8, 0#8].length ≤ 250 ∧ commandOf 5#8 [2#8, 0#8] = some (.halt 2#8 0#8) ∧
    (11#8 :: List.replicate 249 0#8).length ≤ 250 ∧
    commandOf 11#8 (0#8 :: 5#8 :: List.replicate 248 1#8) = some (.snapshot 0#8 (List.replicate 248 1#8)) ∧
    commandOf 1#8 [0#8, 0#8, 2#8] = some (.tick 0#16 2#8) := by decide

theorem witness_LoadedRowsReadBack :
    (Action.wait 255 .endOfChain).loadable ∧ (Action.alert 8 .endOfChain).loadable ∧
    (Action.refer 0#8 50 .go .endOfChain .endOfChain).loadable ∧ (Action.count 63 15 (.to 1022)).loadable ∧
    ({ ExhibitRecord.cold with axes := [0, 7], idleReload := 9999, depth := 4, patience := 255 } : ExhibitRecord).loadable ∧
    ({ AxisParams.cold with accel := 1023, softMin := -32768, softMax := 32767, followLimit := 4095 } : AxisParams).loadable ∧
    Axis.cold.params.loadable ∧ within 1 16 (⟨255, 16⟩ : Program).count ∧ (⟨-32768, 511, 255⟩ : Segment).loadable ∧
    (⟨3, true, true, 9999, 3, .all⟩ : AlertClass).loadable 0 ∧ (⟨1, false, false, 0, 1, .none⟩ : AlertClass).loadable 3 ∧
    ({ base with tp := { base.tp with quietReload := 65535 } } : Gx24).tp.quietReload ≤ 65535 := by decide

/-! ### The branch -/

/-- The first, the last and the slot after the last of the sweep. -/
def atSlot (n : Fin 33) (p : Gx24) : Gx24 := inBranch (fun b => { b with nextSlot := n, awaiting := none }) p
/-- Axis 7 is IDLE and drives station 5. -/
def driven (p : Gx24) : Gx24 :=
  p.withAxis 7 (fun x => { x with state := .idle, params := { x.params with drive := some 5 } })
theorem witness_SlotStartPollsTheStation :
    ((base.Quiet ∧ base.bs.awaiting = none ∧ base.bs.nextSlot = 0) ∧
      (let p := atSlot 31 base; p.Quiet ∧ p.bs.awaiting = none ∧ ¬(p.bs.nextSlot = 0 ∨ p.bs.nextSlot = 32))) ∧
    (let p := atSlot 32 base; p.Quiet ∧ p.bs.awaiting = none ∧ p.bs.nextSlot = 32) ∧
    (let p := atSlot 31 base; p.bs.nextSlot = (31 : Fin 32).castSucc ∧ tget p.bs.schedule 31 = none) ∧
    (let p := atSlot 5 (polled .panel (fun x => x))
     p.Quiet ∧ p.bs.awaiting = none ∧ p.bs.nextSlot = (5 : Fin 32).castSucc ∧ tget p.bs.schedule 5 = some 5 ∧
       (stationOf 5 p).state = .absent) ∧
    (let p := atSlot 5 (polled .panel (fun x => { x with state := .lost }))
     (stationOf 5 p).state ≠ .absent ∧ (rowOf 5 p).kind ≠ .drive) ∧
    (let p := atSlot 5 (polled .drive (fun x => { x with state := .present, stepped := true }))
     (stationOf 5 p).state ≠ .absent ∧ (stationOf 5 p).stepped = true) ∧
    (let p := driven (atSlot 5 (polled .drive (fun x => { x with state := .present })))
     p.Quiet ∧ p.bs.awaiting = none ∧ p.bs.nextSlot = (5 : Fin 32).castSucc ∧ tget p.bs.schedule 5 = some 5 ∧
       (stationOf 5 p).state ≠ .absent ∧ (rowOf 5 p).kind = .drive ∧ (stationOf 5 p).stepped = false ∧
       axisOnDrive 5 p = some 7) ∧
    (let p := atSlot 5 (polled .drive (fun x => { x with state := .joining }))
     (stationOf 5 p).state ≠ .absent ∧ (rowOf 5 p).kind = .drive ∧ (stationOf 5 p).stepped = false ∧
       axisOnDrive 5 p = none) ∧
    (let p := inBranch (fun b => { b with nextSlot := 32 }) (polled .panel (fun x => { x with state := .present }))
     p.Quiet ∧ p.bs.awaiting.isSome ∧ p.bs.nextSlot = 32 ∧ ∃ t, exec (.slotEnd none) ⟨p, []⟩ = .next ⟨t, []⟩ ∧ t.Quiet) :=
  ⟨by decide, by decide, by decide, by decide, by decide, by decide, by decide, by decide, by decide, by decide, by decide,
    _, rfl, by decide⟩

theorem witness_PollCarriesTheWholeImage :
    ({ Station.cold with cue := some ⟨40#8, 15#4⟩ } : Station).cue = some ⟨40#8, 15#4⟩ ∧ Station.cold.cue = none := by decide

theorem witness_SlotEndCountsAMiss :
    (base.Quiet ∧ base.bs.awaiting = none) ∧
    (let p := inBranch (fun b => { b with awaiting := some ⟨5, none, false, true⟩ }) base
     p.bs.awaiting = some ⟨5, none, false, true⟩ ∧ (⟨5, none, false, true⟩ : Awaiting).discard = true) ∧
    (let p := polled .panel (fun x => { x with state := .present, missCount := 1 })
     p.Quiet ∧ p.bs.awaiting = some ⟨5, none, false, false⟩ ∧ (stationOf 5 p).missCount < 2 ∧
       goodReply 5 (rowOf 5 p).kind [] = none) ∧
    (let p := polled .panel (fun x => { x with state := .lost, missCount := 3 }); (stationOf 5 p).state = .lost) ∧
    (let w : Awaiting := ⟨5, some 7, false, false⟩
     let p := inBranch (fun b => { b with awaiting := some w }) (driven (polled .drive (fun x => { x with state := .present })))
     p.Quiet ∧ p.bs.awaiting = some w ∧ w.discard = false ∧ w.query = false ∧ w.stepAxis = some 7 ∧
       (stationOf w.station p).missCount < 2) ∧
    (let w : Awaiting := ⟨5, none, true, false⟩
     let p := inBranch (fun b => { b with awaiting := some w, query := some ⟨5, 255#16, 0⟩ })
       (polled .panel (fun x => { x with state := .present, missCount := 1 }))
     p.Quiet ∧ p.bs.awaiting = some w ∧ w.query = true ∧ (stationOf 5 p).missCount < 2 ∧ p.bs.query = some ⟨5, 255#16, 0⟩) ∧
    (let p := polled .panel (fun x => { x with state := .joining, missCount := 2 })
     p.Quiet ∧ p.bs.awaiting = some ⟨5, none, false, false⟩ ∧ (stationOf 5 p).missCount = 2 ∧
       (stationOf 5 p).state = .joining ∧ p.Unattached 5) ∧
    (let p := polled .panel (fun x => { x with state := .present, missCount := 2 })
     (stationOf 5 p).missCount = 2 ∧ (stationOf 5 p).state = .present ∧ p.Unattached 5) :=
  ⟨by decide, by decide, by decide, by decide, by decide, by decide,
    ⟨by decide, by decide, by decide, by decide, unattached_of (by decide) (by decide) (by decide)⟩,
    ⟨by decide, by decide, unattached_of (by decide) (by decide) (by decide)⟩⟩

/-- A reply with one event of this serial, or none. -/
def eventPayload (n : Byte) (serial : Byte) : List Byte := [n, serial <<< 4, 0#8, 0#8, 0#8, 0#8, 0#8, 0#8, 0#8, 0#8, 0#8]
theorem witness_GoodReplyIsStoredAndItsEventTaken :
    (let p := polled .panel (fun x => { x with state := .present })
     p.Quiet ∧ p.bs.awaiting = some ⟨5, none, false, false⟩ ∧ (stationOf 5 p).state = .present ∧
       (stationOf 5 p).expected = 0#4 ∧ p.Unattached 5 ∧ tget p.pd.inputMap (mapIndex 5 0) = none) ∧
    (let p : Gx24 := { polled .panel (fun x => { x with state := .present }) with
       pd := { base.pd with inputMap := tput base.pd.inputMap (mapIndex 5 0) (some 127) } }
     tget p.pd.inputMap (mapIndex 5 0) = some 127 ∧ p.Unattached 5) ∧
    (eventPayload 1#8 7#8).length ≤ 255 ∧
    (replyOf .panel (eventPayload 0#8 0#8)).map (·.events) = some [] ∧
    (replyOf .panel (eventPayload 1#8 7#8)).map (·.events) = some [⟨0, .press, 7#4⟩] ∧ (7#4 - 0#4 : Serial).toNat < 8 ∧
    (replyOf .panel (eventPayload 1#8 8#8)).map (·.events) = some [⟨0, .press, 8#4⟩] ∧ 8 ≤ (8#4 - 0#4 : Serial).toNat :=
  ⟨⟨by decide, by decide, by decide, by decide, unattached_of (by decide) (by decide) (by decide), by decide⟩,
    ⟨by decide, unattached_of (by decide) (by decide) (by decide)⟩, by decide⟩

theorem witness_FirstGoodReplyJoinsTheStation :
    let p := polled .panel (fun x => { x with state := .joining, cue := some ⟨40#8, 7#4⟩ })
    p.Quiet ∧ p.bs.awaiting = some ⟨5, none, false, false⟩ ∧ (stationOf 5 p).state = .joining ∧
      (stationOf 5 p).lostKey = none ∧ p.Unattached 5 ∧ (replyOf (rowOf 5 p).kind (eventPayload 1#8 7#8)).isSome :=
  ⟨by decide, by decide, by decide, by decide, unattached_of (by decide) (by decide) (by decide), by decide⟩

/-- A reply with a query answer and no event. -/
def answerPayload : List Byte := [0#8, 0#8, 0#8, 0#8, 0#8, 0#8, 0#8, 0#8, 1#8, 0xBE#8, 0xEF#8]

/-- A query pending to station 23. -/
def asked (polls : Nat) (f : Station → Station) : Gx24 :=
  inBranch (fun b => { b with
    query := some ⟨23, 255#16, polls⟩, stations := tmod b.stations 23 f, schedule := tput b.schedule 31 (some 23) }) base
/-- A query taken while its station is LOST goes on while polls are left (R16, R17). -/
theorem test_query_to_a_lost_station_goes_on :
    queryExhausted ⟨23, 255#16, 1⟩ (asked 1 (fun x => { x with state := .lost })) = false ∧
    queryExhausted ⟨23, 255#16, 0⟩ (asked 0 (fun x => { x with state := .lost })) = true := by decide

theorem witness_QueryIsTakenAnsweredOrTimedOut :
    (base.Quiet ∧ base.Addressed ∧ 24 ≤ (24#8 : Byte).toNat ∧ 255 < (256#16 : Word).toNat ∧ base.bs.query = none ∧
      (stationOf 23 base).state = .absent) ∧
    ((23#8 : Byte) = byteOf (23 : Fin 24).val ∧ (255#16 : Word).toNat ≤ 255 ∧ (asked 4 id).bs.query.isSome) ∧
    (let p := inBranch (fun b => { b with query := none }) (asked 4 (fun x => { x with state := .lost }))
     p.Addressed ∧ p.bs.query = none ∧ (stationOf 23 p).state ≠ .absent ∧ hasSlot 23 p = true) ∧
    (let p := inBranch (fun b => { b with stations := tmod b.stations 23 (fun x => { x with state := .joining }) }) base
     p.bs.query = none ∧ hasSlot 23 p = false) ∧
    (let p := asked 0 (fun x => { x with state := .present }); p.Quiet ∧ p.bs.query = some ⟨23, 255#16, 0⟩) ∧
    (let p := asked 1 (fun x => { x with state := .absent }); (stationOf 23 p).state = .absent) ∧
    (let p := asked 1 (fun x => { x with state := .lost })
     ¬((1 : Nat) = 0 ∨ (stationOf 23 p).state = .absent ∨ hasSlot 23 p = false)) ∧
    (let w : Awaiting := ⟨23, none, true, false⟩
     let p := inBranch (fun b => { b with awaiting := some w }) (asked 0 (fun x => { x with state := .present }))
     p.Quiet ∧ p.bs.awaiting = some w ∧ (stationOf 23 p).state = .present ∧ p.bs.query = some ⟨23, 255#16, 0⟩ ∧
       ({ p with bs := { p.bs with query := none } } : Gx24).Unattached 23 ∧
       (replyOf .panel answerPayload).map (fun r => (r.events, r.answer)) = some ([], some 0xBEEF#16) ∧
       (replyOf .panel (eventPayload 0#8 0#8)).map (fun r => (r.events, r.answer)) = some ([], none)) ∧
    (let p := inBranch (fun b => { b with query := some ⟨23, 255#16, 4⟩ }) (polled .panel (fun x => { x with state := .present }))
     p.bs.awaiting = some ⟨5, none, false, false⟩ ∧ ∀ c, p.bs.query = some c → c.station ≠ 5) :=
  ⟨by decide, by decide, by decide, by decide, by decide, by decide, by decide,
    ⟨by decide, by decide, by decide, by decide, unattached_of (by decide) (by decide) (by decide), by decide, by decide⟩,
    by decide, fun c h => by cases h; decide⟩

/-- An answer is taken whichever poll of the station brings it while its query is pending (R11). -/
theorem test_answer_of_an_unasked_poll :
    let p := inBranch (fun b => { b with query := some ⟨5, 3#16, 4⟩ }) (polled .panel (fun x => { x with state := .present }))
    (after (.slotEnd (some (replyLine 5 answerPayload))) p).tp.upQueue = [.queryReply 5#8 3#16 .value (some 0xBEEF#16)] := by
  decide

theorem witness_OutputWritesTheStationImage :
    (base.Quiet ∧ base.Addressed ∧ (23#8 : Byte) = byteOf (23 : Fin 24).val ∧ (7#8 : Byte) = byteOf (7 : Fin 8).val ∧
      (3#8 : Byte) = LampPattern.fast.code) ∧
    (24 ≤ (24#8 : Byte).toNat ∧ 8 ≤ (8#8 : Byte).toNat ∧ 4 ≤ (4#8 : Byte).toNat) ∧ (stationOf 23 base).state = .absent ∧
    (let p := polled .panel (fun x => { x with state := .present, runningCue := 15#4 })
     (stationOf 5 p).state ≠ .absent ∧ p.Unattached 5) :=
  ⟨by decide, by decide, by decide, by decide, unattached_of (by decide) (by decide) (by decide)⟩

/-! ### Alerts -/

/-- A record of this key and state. -/
def record (key : AlertKey) (state : AlertState) : AlertRecord where
  key := key
  state := state
  tier := 1
  countdown := 1
  repeats := 254
  saturated := false
  raiseTick := 0#16
  severity := 1
  hold := false
  ackRequired := true
  interval := 10
  maxTier := 2
  zones := noZones
  target := noExhibits

/-- A user alert of exhibit 3. -/
def userKey : AlertKey := ⟨8, .none, some 3, none, none⟩

/-- The lowest `n` slots taken by records of other keys. -/
def taken (n : Nat) : Gx24 :=
  { base with au := { base.au with slots := tmake fun i =>
      if i.val < n then ⟨1#4, some (record ⟨9, .none, none, none, none⟩ .opened)⟩ else ⟨15#4, none⟩ } }

/-- One record in slot 62. -/
def holding (r : AlertRecord) : Gx24 := putRecord 62 (some r) base

theorem witness_RaiseMakesOrRepeatsARecord :
    (slotOfKey userKey base = none ∧ (0 : Fin 64).val < 63 ∧ recordAt 0 base = none) ∧
    (let p := taken 62
     slotOfKey userKey p = none ∧ (62 : Fin 64).val < 63 ∧ recordAt 62 p = none ∧
       (∀ j : Fin 64, j < 62 → recordAt j p ≠ none) ∧ p.tp.upQueue.length < 64) ∧
    (let r := record userKey .waiting; slotOfKey userKey (holding r) = some 62 ∧ recordAt 62 (holding r) = some r) ∧
    (let r := { record userKey .opened with repeats := 255, saturated := true }
     slotOfKey userKey (holding r) = some 62 ∧ recordAt 62 (holding r) = some r ∧
       { r with repeats := min (r.repeats + 1) 255, saturated := r.saturated || decide (255 ≤ r.repeats + 1) } = r) ∧
    (let p := inBranch (fun b => { b with rows := tmod b.rows 5 (fun r => { r with kind := .beacon }) }) base
     (rowOf 5 p).kind = .beacon ∧ p.BeaconsShow) := by
  unfold Gx24.BeaconsShow; decide

theorem witness_LostRaiseOpensTheOverflowRecord :
    let p := taken 63
    slotOfKey userKey p = none ∧ (∀ i : Fin 64, i.val < 63 → recordAt i p ≠ none) ∧ recordAt overflowSlot p = none := by
  decide

theorem witness_AckAlertActsOnTheRecord :
    (base.Quiet ∧ base.Addressed ∧ base.HoldsGiven ∧ 64 ≤ (64#8 : Byte).toNat ∧ (63#8 : Byte) = byteOf (63 : Fin 64).val ∧
      recordAt 63 base = none ∧ (tget base.au.slots 63).generation ≠ (1#8 : Byte).extractLsb' 0 4) ∧
    (let r := record userKey .opened; let p := holding r
     p.Quiet ∧ p.Addressed ∧ p.HoldsGiven ∧ recordAt 62 p = some r ∧
       (tget p.au.slots 62).generation = (0xF0#8 : Byte).extractLsb' 0 4 ∧ r.key.cls ≠ clsAxisFault ∧
       recordAt overflowSlot p = none ∧ r.state = .opened) ∧
    (let r := record userKey .waiting; let p := holding r; p.HoldsGiven ∧ recordAt 62 p = some r ∧ r.state = .waiting) ∧
    (let r := record userKey .owned; let p := holding r
     p.HoldsGiven ∧ recordAt 62 p = some r ∧ r.state = .owned ∧ RenderLaw p ∧ MotionPowerLaw p) ∧
    (let key : AlertKey := ⟨clsAxisFault, .limit, none, none, some 7⟩
     let r := record key .opened
     let p := (holding r).withAxis 7 (fun x => { x with state := .fault, faultKey := some key })
     p.HoldsGiven ∧ recordAt 62 p = some r ∧ r.key.cls = clsAxisFault ∧ r.key.axis = some 7 ∧
       (axisOf 7 p).faultKey = some r.key ∧ recordAt overflowSlot p = none) := by
  unfold RenderLaw Gx24.BeaconsShow MotionPowerLaw; decide

theorem witness_EscalationRaisesTheTier :
    (base.Quiet ∧ base.HoldsGiven ∧ recordAt 63 base = none) ∧
    (let r := { record userKey .waiting with countdown := 1 }
     let p := ({ holding r with gc := at800.gc } : Gx24).withExhibit 3 (fun x => { x with mode := .service })
     p.HoldsGiven ∧ p.gc.state ≠ .unsynced ∧ recordAt 62 p = some r ∧ r.state ≠ .owned ∧ 0 < r.interval ∧ r.tier < r.maxTier ∧ r.countdown ≤ 1) ∧
    (let r := { record userKey .waiting with countdown := 2 }; recordAt 62 (holding r) = some r ∧ ¬r.countdown ≤ 1) ∧
    (∀ e, (record userKey .waiting).key.exhibit = some e →
      (exhibitOf e ((holding (record userKey .waiting)).withExhibit 3 (fun x => { x with mode := .service }))).mode ≠ .dark) := by
  decide

/-- One acknowledgement owns the OPEN overflow record and frees a slot, which ends the overflow condition: slot 63 is noticed
once, REMOVED or OWNED as it stands after (R148). -/
theorem test_one_notice_for_each_record :
    let p := putRecord 63 (some (record overflowKey .opened)) (holding (record userKey .waiting))
    (acknowledge [62, 63] p).2.tp.upQueue.length = 2 := by decide

/-! ### Presses and exhibits -/

/-- Input 0 of station 23 leads to row 127 of exhibit 15, whose row and exhibit are as given. -/
def wired (r : TriggerRow) (f : Exhibit → Exhibit) : Gx24 :=
  let p : Gx24 := { base with pd := { base.pd with
    inputMap := tput base.pd.inputMap (mapIndex 23 0) (some 127), rows := tput base.pd.rows 127 r } }
  p.withExhibit 15 f

/-- A visitor's row of exhibit 15. -/
def visitorRow : TriggerRow := ⟨some 15, .visitor, .hold, .stepped, some 511⟩

/-- The gallery in a state. -/
def gallery (g : Gallery) (p : Gx24) : Gx24 := { p with ac := { p.ac with gallery := g } }

theorem witness_DarkExhibitIgnoresEvents :
    let p := wired visitorRow id
    tget p.pd.inputMap (mapIndex 23 0) = some 127 ∧ (triggerOf 127 p).exhibit = some 15 ∧
      edgeCounts (triggerOf 127 p).edge .release = true ∧ (exhibitOf 15 p).mode = .dark := by decide

theorem witness_InputEventsFollowTheMode :
    (let p := wired { visitorRow with edge := .press } id
     tget p.pd.inputMap (mapIndex 23 0) = some 127 ∧ (triggerOf 127 p).exhibit = some 15 ∧
       edgeCounts (triggerOf 127 p).edge .release = false) ∧
    (let p := wired visitorRow (fun x => { x with mode := .service })
     edgeCounts (triggerOf 127 p).edge .release = true ∧ (exhibitOf 15 p).mode = .service ∧
       (triggerOf 127 p).cls ≠ .attendant) ∧
    (let p := gallery .quiet (wired visitorRow (fun x => { x with mode := .held }))
     edgeCounts (triggerOf 127 p).edge .press = true ∧ ¬((triggerOf 127 p).edge = .hold ∧ Edge.press = .release) ∧
       (triggerOf 127 p).cls = .visitor ∧ (exhibitOf 15 p).mode = .held ∧ p.ac.gallery ≠ .closed) ∧
    (let p := wired { visitorRow with cls := .help, edge := .release } (fun x => { x with mode := .pub })
     edgeCounts (triggerOf 127 p).edge .release = true ∧ ¬((triggerOf 127 p).edge = .hold ∧ Edge.release = .release) ∧
       (triggerOf 127 p).cls = .help ∧ (exhibitOf 15 p).mode = .pub ∧ p.ac.gallery = .closed) ∧
    (let p := gallery .opened (wired { visitorRow with cls := .help } (fun x => { x with mode := .held }))
     (triggerOf 127 p).cls = .help ∧ (exhibitOf 15 p).mode = .held ∧ p.ac.gallery ≠ .closed ∧
       (triggerOf 127 p).start.isSome) ∧
    (let p := gallery .opened (wired { visitorRow with cls := .help, start := none } (fun x => { x with mode := .pub }))
     (triggerOf 127 p).cls = .help ∧ (exhibitOf 15 p).mode = .pub ∧ p.ac.gallery ≠ .closed ∧
       (triggerOf 127 p).start = none) := by decide

/-- A press of a row waits. -/
def waits (r : Fin 128) (n : Nat) : QueueEntry := ⟨r, 23, 0, 0#16, n⟩

/-- The exhibit is PUBLIC in an open gallery. -/
def visited (f : Exhibit → Exhibit) : Gx24 := gallery .opened (wired visitorRow (fun x => f { x with mode := .pub }))
theorem witness_VisitorPressStartsOrQueues :
    (let p := visited id
     p.Quiet ∧ tget p.pd.inputMap (mapIndex 23 0) = some 127 ∧ (triggerOf 127 p).exhibit = some 15 ∧
       edgeCounts (triggerOf 127 p).edge .press = true ∧ ¬((triggerOf 127 p).edge = .hold ∧ Edge.press = .release) ∧
       (triggerOf 127 p).cls = .visitor ∧ (exhibitOf 15 p).mode = .pub ∧
       p.ac.gallery ≠ .closed ∧ (exhibitOf 15 p).grant = none ∧ (exhibitOf 15 p).activity ≠ .cooldown) ∧
    (let p := (visited (fun x => { x with grant := some ⟨.attract, none⟩, activity := .engaged })).withRunner 15
       (fun r => { r with state := .waitTicks })
     (exhibitOf 15 p).grant = some ⟨.attract, none⟩ ∧ (runnerOf 15 p).state ≠ .free ∧ p.MovesNothing 15) ∧
    (let p := gallery .opened (wired { visitorRow with cls := .help, edge := .release } (fun x => { x with mode := .pub }))
     edgeCounts (triggerOf 127 p).edge .release = true ∧ (triggerOf 127 p).cls = .help ∧ (triggerOf 127 p).start.isSome) ∧
    (let x := exhibitOf 15 (visited (fun x => { x with activity := .cooldown, queue := [waits 127 0] }))
     x.grant = none ∧ x.activity = .cooldown ∧ ∃ c ∈ x.queue, c.row = 127) ∧
    (let x := exhibitOf 15 (visited (fun x => { x with
       grant := some ⟨.visitor, none⟩, queue := [waits 0 0, waits 1 0, waits 2 0], record := { x.record with depth := 4 } }))
     x.grant = some ⟨.visitor, none⟩ ∧ (∀ c ∈ x.queue, c.row ≠ 127) ∧ x.queue.length < x.record.depth) ∧
    (let x := exhibitOf 15 (visited (fun x => { x with grant := some ⟨.showCue, none⟩ }))
     x.grant = some ⟨.showCue, none⟩ ∧ (∀ c ∈ x.queue, c.row ≠ 127) ∧ x.record.depth ≤ x.queue.length) := by
  unfold Gx24.MovesNothing; decide

/-- Exhibit 15 cools down under a LOCKED clock with this much left, these presses waiting, and these limits. -/
def cooling (left : Nat) (queue : List QueueEntry) (patience flood : Nat) : Gx24 :=
  { visited (fun x => { x with
      activity := .cooldown, cooldown := left, queue := queue
      record := { x.record with patience := patience, flood := flood } }) with gc := at800.gc }
theorem witness_CooldownEndServesTheQueue :
    (base.Quiet ∧ base.gc.state = .unsynced) ∧
    (let x := exhibitOf 15 (cooling 2 [] 0 0); ¬(x.activity = .cooldown ∧ x.cooldown ≤ 1)) ∧
    (let p := cooling 1 [] 0 0
     p.Quiet ∧ p.gc.state ≠ .unsynced ∧ (exhibitOf 15 p).activity = .cooldown ∧ (exhibitOf 15 p).cooldown ≤ 1 ∧
       (exhibitOf 15 p).queue = []) ∧
    (let x := exhibitOf 15 (cooling 1 [waits 1 5, waits 2 255] 5 3)
     (∀ c ∈ x.queue, tooOld x.record.patience c = true) ∧ x.flood + x.queue.length < x.record.flood) ∧
    (let x := exhibitOf 15 (cooling 1 [waits 1 5, waits 127 4, waits 2 5] 5 0)
     x.queue = [waits 1 5] ++ waits 127 4 :: [waits 2 5] ∧ (∀ d ∈ [waits 1 5], tooOld x.record.patience d = true) ∧
       tooOld x.record.patience (waits 127 4) = false ∧ x.record.flood = 0) := by decide

/-- The tick event that ends a cooldown first ages the press that waits, past a patience of 5 (R56, R57). -/
theorem test_cooldown_end_ages :
    let x := exhibitOf 15 (after (.cooldownEnd 15) (cooling 1 [waits 127 5] 5 0))
    x.queue = [] ∧ x.activity = .idle := by decide

theorem witness_ThresholdsRaiseTheirAlerts :
    (let p := visited (fun x => { x with flood := 0, record := { x.record with flood := 1 } })
     p.Quiet ∧ 0 < (exhibitOf 15 p).record.flood ∧ (exhibitOf 15 p).record.flood ≤ (exhibitOf 15 p).flood + 1) ∧
    (base.Quiet ∧ ¬(0 < (exhibitOf 15 base).record.flood ∧ (exhibitOf 15 base).record.flood ≤ (exhibitOf 15 base).flood + 1)) ∧
    (let p := base.withRunner 15 (fun r => { r with state := .stepping, steps := 32 })
     (runnerOf 15 p).state = .stepping ∧ 32 ≤ (runnerOf 15 p).steps ∧ p.MovesNothing 15) ∧
    (let p := base.withRunner 15 (fun r => { r with state := .stepping, steps := 31 })
     ¬((runnerOf 15 p).state = .stepping ∧ 32 ≤ (runnerOf 15 p).steps)) ∧
    (let p := at800.withAxis 7 (fun x => { x with
       state := .idle, guardOpen := true, guardOpenTime := 254, params := { x.params with guardTimeout := 255 } })
     let x := axisOf 7 p
     p.gc.state ≠ .unsynced ∧ x.state ≠ .off ∧ x.guardOpen = true ∧ x.guardHeldKey = none ∧ 0 < x.params.guardTimeout ∧
       x.params.guardTimeout ≤ x.guardOpenTime + 1) ∧
    ¬(axisOf 7 base).state ≠ .off := by
  unfold Gx24.MovesNothing; decide

/-! ### Chains -/

/-- The runner of exhibit 15 at entry 511, which is `act`. -/
def running (act : Action) (f : Runner → Runner) : Gx24 :=
  let p : Gx24 := { base with cr := { base.cr with actions := tput base.cr.actions 511 act } }
  p.withRunner 15 (fun r => f { r with state := .stepping, index := 511, steps := 31 })

theorem witness_RunnerExecutesOneEntryWhole :
    (let p := running (.wait 255 .endOfChain) id
     p.Quiet ∧ (runnerOf 15 p).state = .stepping ∧ (runnerOf 15 p).steps < 32 ∧ p.MovesNothing 15 ∧
       p.gc.state ≠ .island ∧ actionAt (runnerOf 15 p).index p = .wait 255 .endOfChain) ∧
    (let a := Action.lamp 23 7 .fast (.to 1022); actionAt (runnerOf 15 (running a id)).index (running a id) = a) ∧
    (let a := Action.count 63 15 .endOfChain; actionAt (runnerOf 15 (running a id)).index (running a id) = a) ∧
    (let a := Action.alert 15 .endOfChain; actionAt (runnerOf 15 (running a id)).index (running a id) = a) ∧
    (let a := Action.refer 9#8 50 .stop .endOfChain (.to 0); actionAt (runnerOf 15 (running a id)).index (running a id) = a) ∧
    (let a := Action.pause (.to 0)
     actionAt (runnerOf 15 (running a id)).index (running a id) = a ∧ (runnerOf 15 (running a id)).row = none) ∧
    (let a := Action.pause (.to 1022)
     let p := { running a (fun r => { r with row := some 127 }) with pd := (wired visitorRow id).pd }.withExhibit 15
       (fun x => { x with mode := .pub })
     actionAt (runnerOf 15 p).index p = a ∧ (runnerOf 15 p).row = some 127 ∧ (triggerOf 127 p).exhibit = some 15 ∧
       (triggerOf 127 p).style = .stepped ∧ (exhibitOf 15 p).mode = .pub) ∧
    (let p := { running (.pause .endOfChain) (fun r => { r with row := some 127 }) with
       pd := (wired { visitorRow with style := .fresh } id).pd }
     (runnerOf 15 p).row = some 127 ∧ (triggerOf 127 p).style = .fresh) ∧
    (let a := Action.cue 5 40#8 true .endOfChain; actionAt (runnerOf 15 (running a id)).index (running a id) = a) ∧
    ((stationOf 5 base).state = .absent ∧ (stationOf 5 (polled .panel (fun x => { x with state := .lost }))).state ≠ .absent ∧
      (polled .panel (fun x => { x with state := .lost })).Unattached 5) ∧
    (let a := Action.haltAxis 7 .loopEnd .endOfChain; actionAt (runnerOf 15 (running a id)).index (running a id) = a) ∧
    (let a := Action.move 7 63 .loop false (.to 1022)
     let p := (running a id).withExhibit 15 (fun x => { x with record := { x.record with axes := [0, 7] } })
     actionAt (runnerOf 15 p).index p = a ∧ lists 15 7 p = true ∧ (axisOf 7 p).state = .off ∧
       (let q := p.withAxis 7 (fun x => { x with state := .idle })
        q.MovesNothing 15 ∧ lists 15 7 q = true ∧ (axisOf 7 q).state = .idle ∧ (axisOf 7 q).disabling = false ∧
          (axisOf 7 q).owner = none ∧ (axisOf 7 q).claims = [])) ∧
    actionAt 1022 base = .free :=
  ⟨by unfold Gx24.MovesNothing; decide, by decide, by decide, by decide, by decide, by decide, by decide, by decide, by decide,
    ⟨by decide, by decide, unattached_of (by decide) (by decide) (by decide)⟩, by decide,
    by unfold Gx24.MovesNothing; decide, by decide⟩

theorem witness_WaitsAndReferralsEnd :
    (let p := { running (.wait 1 .endOfChain) (fun r => { r with state := .waitTicks, wait := 1 }) with gc := at800.gc }
     p.Quiet ∧ p.MovesNothing 15 ∧ p.gc.state ≠ .unsynced ∧ (runnerOf 15 p).state = .waitTicks ∧ (runnerOf 15 p).wait ≤ 1) ∧
    (let p := running (.wait 2 .endOfChain) (fun r => { r with state := .waitTicks, wait := 2 })
     p.MovesNothing 15 ∧ ¬(runnerOf 15 p).wait ≤ 1 ∧ (runnerOf 15 p).state ≠ .waitVerdict) ∧
    (let a := Action.refer 9#8 50 .stop .endOfChain (.to 0)
     let p := { running a (fun r => { r with state := .waitVerdict, wait := 1 }) with gc := at800.gc }
     p.gc.state ≠ .unsynced ∧ (runnerOf 15 p).state = .waitVerdict ∧ (runnerOf 15 p).wait ≤ 1 ∧
       actionAt (runnerOf 15 p).index p = a) ∧
    (base.Quiet ∧ base.Addressed ∧ 16 ≤ (16#8 : Byte).toNat ∧ 2 ≤ (2#8 : Byte).toNat ∧ (15#8 : Byte) = byteOf (15 : Fin 16).val ∧
      (1#8 : Byte) = Verdict.stop.code ∧ (runnerOf 15 base).lastReferral ≠ some ((15#8 : Byte).extractLsb' 0 4)) ∧
    (let p := running .free (fun r => { r with lastReferral := some 15#4 })
     (runnerOf 15 p).lastReferral = some ((0xFF#8 : Byte).extractLsb' 0 4) ∧ (runnerOf 15 p).state ≠ .waitVerdict) ∧
    (let a := Action.refer 9#8 50 .stop .endOfChain (.to 0)
     let p := running a (fun r => { r with state := .waitVerdict, lastReferral := some 15#4 })
     (runnerOf 15 p).lastReferral = some ((15#8 : Byte).extractLsb' 0 4) ∧ (runnerOf 15 p).state = .waitVerdict ∧
       p.MovesNothing 15 ∧ actionAt (runnerOf 15 p).index p = a) := by
  unfold Gx24.MovesNothing; decide

/-! ### Axes -/

theorem witness_RunningStepMovesTowardTheTarget :
    (let x := axisOf 2 (moving .running 96 48)
     let n := stepSpeed x.params.accel x.cruise x.velocity.natAbs (x.target - x.position).natAbs
     x.state = .running ∧ x.stepGood = true ∧ n < (x.target - x.position).natAbs) ∧
    (let p := (moving .running 144 16).withAxis 2 (fun x => { x with job := some (.jog ⟨10, 4, 1⟩) })
     let x := axisOf 2 p
     stepSpeed x.params.accel x.cruise x.velocity.natAbs (x.target - x.position).natAbs = (x.target - x.position).natAbs ∧
       0 < currentDwell x p) := by decide

theorem witness_HaltingStepBrakesToRest :
    (let x := axisOf 2 (moving .halting 96 48)
     let y := x.advanced (min (x.velocity.natAbs - x.params.accel) (x.target - x.position).natAbs)
     y.velocity ≠ 0 ∧ y.position ≠ x.target) ∧
    (let x := axisOf 2 (moving .halting 144 16)
     (x.advanced (min (x.velocity.natAbs - x.params.accel) (x.target - x.position).natAbs)).velocity = 0) ∧
    (let x := axisOf 2 (moving .halting 144 48)
     (x.advanced (min (x.velocity.natAbs - x.params.accel) (x.target - x.position).natAbs)).position = x.target) ∧
    (let x := axisOf 2 (moving .halting 96 48); x.state = .halting ∧ x.stepGood = true) ∧
    (axisOf 2 ((moving .guardStop 96 48).withAxis 2 (fun x => { x with stepGood := false }))).stepGood = false := by decide

/-- Axis 2 dwells on the last step of a segment of this job. -/
def dwelling (j : Job) (c : Claimant) : Gx24 :=
  (moving .dwell 160 0).withAxis 2 (fun x => { x with dwell := 1, job := some j, owner := some ⟨c, .attendant⟩ })
theorem witness_DwellEndAndGuardSettleGoOn :
    (base.Quiet ∧ ¬((axisOf 2 base).state = .dwell)) ∧
    (let p : Gx24 := { dwelling (.program 63) .headEnd with
       mu := { (dwelling (.program 63) .headEnd).mu with programs := tput base.mu.programs 63 ⟨255, 2⟩ } }
     let x := axisOf 2 p
     p.Quiet ∧ x.state = .dwell ∧ x.dwell ≤ 1 ∧ x.stepGood = true ∧ x.job = some (.program 63) ∧
       x.segIndex + 1 < jobCount (.program 63) p) ∧
    (let p := dwelling (.jog ⟨10, 4, 1⟩) .maintenance
     let x := axisOf 2 p
     x.job = some (.jog ⟨10, 4, 1⟩) ∧ jobCount (.jog ⟨10, 4, 1⟩) p ≤ x.segIndex + 1 ∧ x.mode = .once ∧
       x.owner = some ⟨.maintenance, .attendant⟩ ∧ x.claims = [] ∧ x.disabling = false) ∧
    (let p := (moving .guardStop 96 0).withAxis 2 (fun x => { x with settleCount := 1, dwell := 2, resume := .dwell })
     let x := axisOf 2 p
     p.Quiet ∧ x.state = .guardStop ∧ x.guardOpen = false ∧ x.params.guardSettle ≤ x.settleCount + 1 ∧ x.stepGood = true ∧
       x.resume = .dwell ∧ 1 < x.dwell) ∧
    (let x := axisOf 2 ((moving .guardStop 96 0).withAxis 2 (fun x => { x with settleCount := 1 }))
     x.resume = .running ∧
       stepSpeed x.params.accel x.cruise x.velocity.natAbs (x.target - x.position).natAbs < (x.target - x.position).natAbs) := by
  decide

theorem witness_MoveAndJogClaimTheAxis :
    (base.Quiet ∧ base.Addressed ∧ 8 ≤ (8#8 : Byte).toNat ∧ 64 ≤ (64#8 : Byte).toNat ∧ 2 ≤ (2#8 : Byte).toNat ∧
      (7#8 : Byte) = byteOf (7 : Fin 8).val ∧ (63#8 : Byte) = byteOf (63 : Fin 64).val ∧ (1#8 : Byte) = RunMode.loop.code ∧
      (axisOf 7 base).state = .off) ∧
    ((axisOf 7 (base.withAxis 7 (fun x => { x with state := .fault }))).state = .fault) ∧
    (let x := axisOf 7 (base.withAxis 7 (fun x => { x with state := .halting, disabling := true }))
     x.state ≠ .off ∧ x.state ≠ .fault ∧ x.disabling = true) ∧
    (let x := axisOf 7 (base.withAxis 7 (fun x => { x with state := .idle }))
     x.state = .idle ∧ x.disabling = false ∧ x.owner = none ∧ x.claims = []) ∧
    (let x := axisOf 7 (base.withAxis 7 (fun x => { x with state := .running, owner := some ⟨.exhibit 3, .showCue⟩ }))
     x.state ≠ .off ∧ x.state ≠ .fault ∧ x.disabling = false ∧ x.owner = some ⟨.exhibit 3, .showCue⟩ ∧
       ∀ c ∈ x.claims, c.claimant ≠ .headEnd) ∧
    (let p := base.withExhibit 15 (fun x => { x with mode := .held, record := { x.record with axes := [7] } })
     ∃ e, lists e 7 p = true ∧ ((exhibitOf e p).mode = .pub ∨ (exhibitOf e p).mode = .held)) ∧
    (let p := (base.withExhibit 15 (fun x => { x with mode := .service, record := { x.record with axes := [7] } })).withAxis 7
       (fun x => { x with state := .idle })
     (∀ e, lists e 7 p = true → (exhibitOf e p).mode = .dark ∨ (exhibitOf e p).mode = .service) ∧ lists 15 7 p = true ∧
       (axisOf 7 p).state = .idle ∧ (axisOf 7 p).disabling = false ∧ (axisOf 7 p).owner = none ∧
       (axisOf 7 p).claims = []) := by decide

theorem witness_HaltActsOnTheAxisState :
    (base.Quiet ∧ base.Addressed ∧ 8 ≤ (8#8 : Byte).toNat ∧ 2 ≤ (2#8 : Byte).toNat ∧ (2#8 : Byte) = byteOf (2 : Fin 8).val) ∧
    (axisOf 2 base).state = .off ∧ (axisOf 2 (moving .dwell 160 0)).state = .dwell ∧
    (let x := axisOf 2 (moving .running 96 48); x.state = .running ∧ x.velocity ≠ 0) ∧
    (let x := axisOf 2 (moving .guardStop 96 48); x.state = .guardStop ∧ x.velocity ≠ 0) ∧
    (let x := axisOf 2 (dwelling (.program 0) .headEnd)
     x.state = .dwell ∧ x.job = some (.program 0) ∧ x.owner = some ⟨.headEnd, .attendant⟩ ∧ x.claims = [] ∧
       x.disabling = false) ∧
    (let x := axisOf 2 (moving .guardStop 96 0); x.state = .guardStop ∧ x.velocity = 0) := by decide

/-- One claim of exhibit 15 or the head-end waits at axis 7. -/
def claiming (c : Claimant) (n : Nat) : Gx24 :=
  (at800.withRunner 15 (fun r => { r with state := .waitClaim, awaitedAxis := some 7 })).withAxis 7
    (fun x => { x with state := .running, claims := [⟨c, .showCue, .program 0, .once, n⟩] })
theorem witness_ClaimsWinOrTimeOut :
    (let x : Axis := { Axis.cold with claims := [⟨.exhibit 0, .visitor, .program 0, .once, 1⟩,
       ⟨.headEnd, .showCue, .program 0, .once, 1⟩, ⟨.exhibit 15, .showCue, .program 0, .once, 1⟩] }
     x.claims ≠ [] ∧ winner x = some ⟨.exhibit 15, .showCue, .program 0, .once, 1⟩) ∧
    (base.Quiet ∧ (axisOf 7 base).claims.find? (fun d => decide (d.claimant = .headEnd)) = none ∧ base.gc.state = .unsynced) ∧
    (let d : Claim := ⟨.headEnd, .showCue, .program 0, .once, 2⟩
     (axisOf 7 (claiming .headEnd 2)).claims.find? (fun d => decide (d.claimant = .headEnd)) = some d ∧ 1 < d.timeLeft ∧
       (claiming .headEnd 2).gc.state ≠ .unsynced) ∧
    (let d : Claim := ⟨.headEnd, .showCue, .program 0, .once, 1⟩
     (axisOf 7 (claiming .headEnd 1)).claims.find? (fun d => decide (d.claimant = .headEnd)) = some d ∧ d.timeLeft ≤ 1) ∧
    (let p := claiming (.exhibit 15) 1
     (axisOf 7 p).claims.find? (fun d => decide (d.claimant = .exhibit 15)) =
         some ⟨.exhibit 15, .showCue, .program 0, .once, 1⟩ ∧
       (runnerOf 15 p).state = .waitClaim ∧ (runnerOf 15 p).awaitedAxis = some 7 ∧ ∀ b, ownsAxis 15 b p = false) := by decide

/-- Axis 7 is OFF, and station 5 its drive, ready at the lowest position, has a slot. -/
def drivable (kind : StationKind) (f : Station → Station) : Gx24 :=
  (polled kind (fun x => f { x with state := .present, drive := ⟨some 0x8000#16, true, false, true, false⟩ })).withAxis 7
    (fun x => { x with params := { x.params with drive := some 5 } })
theorem witness_EnablePlacesTheAxisAtItsDrive :
    (base.Quiet ∧ base.Addressed ∧ (0xFF#8 : Byte).getLsbD 0 = true ∧ (axisOf 7 base).state = .off ∧
      (axisOf 7 base).params.drive = none) ∧
    (axisOf 2 (moving .idle 0 0)).state ≠ .off ∧
    (let p := drivable .panel id; (axisOf 7 p).params.drive = some 5 ∧ (rowOf 5 p).kind ≠ .drive) ∧
    (let p := drivable .drive (fun x => { x with drive := .none })
     (rowOf 5 p).kind = .drive ∧ (stationOf 5 p).drive.ready = false) ∧
    (let p := drivable .drive id
     p.Quiet ∧ p.Addressed ∧ (axisOf 7 p).state = .off ∧ (axisOf 7 p).params.drive = some 5 ∧ (rowOf 5 p).kind = .drive ∧
       p.estop = false ∧ (stationOf 5 p).state = .present ∧ hasSlot 5 p = true ∧ (stationOf 5 p).drive.ready = true ∧
       (stationOf 5 p).drive.fault = false ∧ (stationOf 5 p).drive.position = some 0x8000#16) := by decide

theorem witness_DisableTakesTheAxisOff :
    (base.Quiet ∧ base.Addressed ∧ (0xFE#8 : Byte).getLsbD 0 = false ∧ (axisOf 7 base).state = .off) ∧
    (∀ x y, [8#8, 1#8] = [x, y] → 8 ≤ (x : Byte).toNat) ∧ (∀ x y : Byte, [8#8] = [x, y] → 8 ≤ x.toNat) ∧
    (let p := base.withAxis 7 (fun x => { x with state := .idle, setpoint := some ⟨0, true⟩ })
     (axisOf 7 p).state = .idle ∧ (axisOf 7 p).claims = [] ∧ (axisOf 7 p).guardHeldKey = none ∧
       (axisOf 7 p).faultKey = none ∧ p.bs.awaiting = none) ∧
    (let x := axisOf 2 (moving .running 96 48); x.state = .running ∧ x.velocity ≠ 0 ∧ x.claims = []) :=
  ⟨by decide, by simp, by simp, by decide, by decide⟩

/-- Axis 2 runs for this owner, and a claim of the head-end and one of exhibit 15, which awaits it, are pending. -/
def owned (c : Claimant) : Gx24 :=
  ((moving .running 96 48).withAxis 2 (fun x => { x with
    owner := some ⟨c, .attendant⟩, disabling := true
    claims := [⟨.headEnd, .showCue, .program 0, .once, 1⟩, ⟨.exhibit 15, .showCue, .program 0, .once, 1⟩] })).withRunner 3
    (fun r => { r with state := .waitDone, awaitedAxis := some 2 })

/-- Axis 7 is in FAULT, acknowledged, its drive station PRESENT, ready and without fault. -/
def mending (f : Axis → Axis) : Gx24 :=
  (drivable .drive id).withAxis 7 (fun x => f { x with
    state := .fault, acked := true, faultKey := some ⟨clsAxisFault, .limit, none, none, some 7⟩ })

theorem witness_FaultStopsTheAxis :
    (axisOf 7 base).state = .off ∧
    (let x := axisOf 2 (moving .running 96 48)
     x.state ≠ .off ∧ x.state ≠ .fault ∧ x.owner = none ∧ x.claims = []) ∧
    (let p := owned .maintenance; let x := axisOf 2 p
     x.state ≠ .off ∧ x.state ≠ .fault ∧ x.owner = some ⟨.maintenance, .attendant⟩ ∧ x.job = some (.program 0) ∧
       ∀ d ∈ x.claims, ∀ e, d.claimant = .exhibit e → ∀ b, b ≠ 2 → ownsAxis e b p = false) ∧
    (let p := owned (.exhibit 0); let x := axisOf 2 p
     x.owner = some ⟨.exhibit 0, .attendant⟩ ∧ ¬((runnerOf 0 p).state = .waitDone ∧ (runnerOf 0 p).awaitedAxis = some 2)) ∧
    (let p := owned (.exhibit 3); let x := axisOf 2 p
     x.owner = some ⟨.exhibit 3, .attendant⟩ ∧ x.job = some (.program 0) ∧ (runnerOf 3 p).state = .waitDone ∧
       (runnerOf 3 p).awaitedAxis = some 2 ∧ (∀ b, b ≠ 2 → ownsAxis 3 b p = false) ∧
       ∀ b, ∀ d ∈ (axisOf b p).claims, d.claimant ≠ .exhibit 3) ∧
    (let p := mending id; let x := axisOf 7 p
     x.state = .fault ∧ x.acked = true ∧ p.estop = false ∧ x.params.drive = some 5 ∧ (stationOf 5 p).state = .present ∧
       (stationOf 5 p).drive.ready = true ∧ (stationOf 5 p).drive.fault = false ∧
       (stationOf 5 p).drive.position = some 0x8000#16 ∧ x.faultKey = some ⟨clsAxisFault, .limit, none, none, some 7⟩ ∧
       x.guardHeldKey = none ∧ guardIsOpen 7 p = false) ∧
    (let p := mending (fun x => { x with guardOpen := true, params := { x.params with guard := some ⟨23, 0, true⟩ } })
     guardIsOpen 7 p = true ∧ (axisOf 7 p).guardOpen = true ∧ (axisOf 7 p).acked = true) := by decide

/-- A fault of a moving axis ends the chain that awaits it, and the axis, disabling, goes OFF (R77, R108, R123). -/
theorem test_fault_aborts_the_chain :
    let t := faultAxis 2 .limit (owned (.exhibit 3))
    (runnerOf 3 t).state = .free ∧ (axisOf 2 t).state = .off ∧
      tget (tget t.counters.exhibits 3) ExhibitCounter.aborted.index = ⟨1#16, false⟩ := by decide

/-! ### The clock and the gallery -/

theorem witness_TickLocksTheClockAndGivesStatus :
    (base.Quiet ∧ 3 ≤ (3#8 : Byte).toNat ∧ (2#8 : Byte).toNat < 3) ∧
    base.NothingCounts ∧ (base.gc.schedule = [] ∧ base.gc.state ≠ .island ∧ base.ac.gallery = .closed) ∧
    (gallery .quiet base).NothingCounts ∧ (gallery .quiet base).ac.gallery ≠ .closed ∧
    (at800.gc.state ≠ .unsynced ∧ (801#16 - at800.gc.tick : Word).toNat ≤ 1 ∧
      30000 < (30801#16 - at800.gc.tick : Word).toNat) :=
  ⟨by decide, nothing_counts_of (by decide) (by decide) (by decide) (by decide), by decide,
    nothing_counts_of (by decide) (by decide) (by decide) (by decide), by decide, by decide⟩

/-- The clock in a state at a silence count, one cue due after the next tick. -/
def clock (c : ClockState) (n : Nat) : Gx24 := { base with gc := ⟨c, 0xFFFF#16, n, [⟨1#16, 15, 0, 0#8⟩], 0⟩ }
theorem witness_LocalTimerCountsSilenceOrTicks :
    (base.Quiet ∧ base.gc.state = .unsynced ∧ ¬(base.gc.state = .locked ∧ 20 ≤ base.gc.silence + 1)) ∧
    ((clock .locked 18).gc.state = .locked ∧ (clock .locked 18).gc.silence + 1 < 20) ∧
    ((clock .locked 19).gc.state = .locked ∧ 20 ≤ (clock .locked 19).gc.silence + 1) ∧
    (let p := clock .island 20; p.gc.state = .island ∧ p.NothingCounts ∧ ∀ c ∈ p.gc.schedule, c.due ≠ p.gc.tick + 1#16) :=
  ⟨by decide, by decide, by decide, by decide, nothing_counts_of (by decide) (by decide) (by decide) (by decide), by decide⟩

theorem witness_CueFrameIsScheduledOrRefused :
    (base.Quiet ∧ base.Addressed ∧ base.gc.state = .unsynced) ∧
    (at800.gc.state ≠ .unsynced ∧ 16 ≤ (16#8 : Byte).toNat ∧ 512 ≤ (512#16 : Word).toNat) ∧
    ((15#8 : Byte) = byteOf (15 : Fin 16).val ∧ (511#16 : Word) = BitVec.ofNat 16 (511 : Fin 512).val ∧
      30000 < (30801#16 - at800.gc.tick : Word).toNat ∧ (exhibitOf 15 at800).mode ≠ .pub ∧
      1 ≤ (801#16 - at800.gc.tick : Word).toNat ∧ (30800#16 - at800.gc.tick : Word).toNat ≤ 30000) ∧
    fullSchedule.gc.schedule.find? (fun c => c.names 2 931#16) = some ⟨931#16, 2, 0, 0#8⟩ ∧
    ((∀ c ∈ fullSchedule.gc.schedule, ¬(c.exhibit = 2 ∧ c.due = 932#16)) ∧ 32 ≤ fullSchedule.gc.schedule.length) ∧
    (let s := fullSchedule.gc.schedule.drop 1
     (∀ c ∈ s, ¬(c.exhibit = 2 ∧ c.due = 900#16)) ∧ s.length < 32) ∧
    (let p := at800.withExhibit 15 (fun x => { x with mode := .pub, grant := some ⟨.attendant, none⟩ })
     (exhibitOf 15 p).mode = .pub ∧ (exhibitOf 15 p).grant = some ⟨.attendant, none⟩) ∧
    (let p := at800.withExhibit 15 (fun x => { x with mode := .pub })
     p.gc.tick = 800#16 ∧ (exhibitOf 15 p).grant = none ∧ (runnerOf 15 p).state = .free) ∧
    (let p := (at800.withExhibit 15 (fun x => { x with mode := .pub, grant := some ⟨.visitor, none⟩ })).withRunner 15
       (fun r => { r with state := .waitTicks })
     (exhibitOf 15 p).grant = some ⟨.visitor, none⟩ ∧ (runnerOf 15 p).state ≠ .free ∧ p.MovesNothing 15) := by
  unfold Gx24.MovesNothing; decide

theorem witness_CueCancelRemovesItsEntry :
    (base.Quiet ∧ base.Addressed ∧ 16 ≤ (16#8 : Byte).toNat ∧
      ∀ c ∈ fullSchedule.gc.schedule, ¬(c.exhibit.val = (2#8 : Byte).toNat ∧ c.due = 932#16)) ∧
    (let before := fullSchedule.gc.schedule.take 31
     fullSchedule.gc.schedule = before ++ (⟨931#16, 2, 0, 0#8⟩ : CueEntry) :: [] ∧ (2#8 : Byte) = byteOf (2 : Fin 16).val ∧
       ∀ d ∈ before ++ [], ¬(d.exhibit = 2 ∧ d.due = 931#16)) := by decide

/-- One cue of exhibit 15 due at the tick that is now, 0xFFFF, or the one after. -/
def dueAt (due : Word) (f : Exhibit → Exhibit) : Gx24 :=
  { base with gc := ⟨.locked, 0xFFFF#16, 0, [⟨due, 15, 511, 9#8⟩], 255⟩ }.withExhibit 15 f
theorem witness_CueFireRunsOrMissesTheCue :
    (base.Quiet ∧ base.gc.schedule.find? (fun c => c.names 15 0#16) = none) ∧ 1 < (1#16 - 0xFFFF#16 : Word).toNat ∧
    (let p := dueAt 0#16 id
     p.gc.schedule.find? (fun c => c.names 15 0#16) = some ⟨0#16, 15, 511, 9#8⟩ ∧ (0#16 - p.gc.tick).toNat ≤ 1 ∧
       (exhibitOf 15 p).mode ≠ .pub) ∧
    (let p := dueAt 0#16 (fun x => { x with mode := .pub, grant := some ⟨.showCue, none⟩ })
     (exhibitOf 15 p).mode = .pub ∧ (exhibitOf 15 p).grant = some ⟨.showCue, none⟩) ∧
    (let p := dueAt 0xFFFF#16 (fun x => { x with mode := .pub })
     p.gc.state ≠ .unsynced ∧ (0xFFFF#16 - p.gc.tick).toNat ≤ 1 ∧ (exhibitOf 15 p).mode = .pub ∧ (exhibitOf 15 p).grant = none ∧
       (runnerOf 15 p).state = .free) ∧
    (let p := (dueAt 0#16 (fun x => { x with mode := .pub, grant := some ⟨.attract, none⟩ })).withRunner 15
       (fun r => { r with state := .waitCue })
     (exhibitOf 15 p).grant = some ⟨.attract, none⟩ ∧ (runnerOf 15 p).state ≠ .free ∧ p.MovesNothing 15) := by
  unfold Gx24.MovesNothing; decide

/-- An OPEN gallery with these counts left, exhibit 15 PUBLIC. -/
def hall (quiet idle : Nat) (f : Exhibit → Exhibit) : Gx24 :=
  let p : Gx24 := { at800 with
    tp := { base.tp with quietReload := 3000 }, ac := ⟨.opened, quiet, tput base.ac.idle 15 idle, .cold⟩ }
  p.withExhibit 15 (fun x => f { x with mode := .pub, record := { x.record with idleReload := 9999 } })
theorem witness_QuietAndIdleTimersExpire :
    (base.Quiet ∧ ¬base.ac.gallery = .opened) ∧ ¬(hall 2 2 id).ac.quiet ≤ 1 ∧
    (let p := hall 1 1 id; p.Quiet ∧ p.gc.state ≠ .unsynced ∧ p.ac.gallery = .opened ∧ 0 < p.tp.quietReload ∧ p.ac.quiet ≤ 1) ∧
    (∀ e g, (exhibitOf e (hall 1 1 id)).grant = some g → g.origin ≠ .attract) ∧
    ¬tget (hall 2 2 id).ac.idle 15 ≤ 1 ∧
    (let p := hall 1 1 id
     idleCounts 15 p = true ∧ tget p.ac.idle 15 ≤ 1 ∧ (exhibitOf 15 p).record.attract = none) ∧
    (let p := hall 1 1 (fun x => { x with record := { x.record with attract := some 511 } })
     idleCounts 15 p = true ∧ (exhibitOf 15 p).record.attract = some 511 ∧ (exhibitOf 15 p).activity = .idle ∧
       (exhibitOf 15 p).grant = none) := by
  have h : ∀ e, (exhibitOf e (hall 1 1 id)).grant = none := by decide
  exact ⟨by decide, by decide, by decide, fun e g hg => by simp [h e] at hg, by decide, by decide, by decide⟩

/-! ### Management -/

theorem witness_WritesOutOfRangeAreRefused :
    (base.Quiet ∧ base.Addressed ∧ 24 ≤ (24#16 : Word).toNat ∧ 32 ≤ (32#16 : Word).toNat ∧ 512 ≤ (512#16 : Word).toNat) ∧
    stationRowOf [1#8, 3#8, 0#8, 0#8, 0#8] = none ∧ (∀ b, [24#8] = [b] → 24 ≤ (b : Byte).toNat ∧ b ≠ 0xFF#8) ∧
    (∀ b, [128#8] = [b] → 128 ≤ (b : Byte).toNat ∧ b ≠ 0xFF#8) ∧ triggerRowOf [] = none ∧ actionContentsOf [] = none ∧
    exhibitRecordOf [] = none ∧ axisRowOf [] = none ∧ programOf [0#8] = none ∧ segmentOf [] = none ∧
    (∀ cls, alertClassOf cls [] = none) ∧ (∀ b, [16#8] = [b] → 16 ≤ (b : Byte).toNat) ∧ settingsOf [4#8, 0#8, 0#8] = none :=
  ⟨by decide, by decide, by simp, by simp, by decide, by decide, by decide, by decide, by decide, by decide, by decide,
    by simp, by decide⟩

/-- Station 5 and exhibit 15 in use: an axis drives by the one, the other is PUBLIC. -/
def inUse : Gx24 :=
  driven ((wired visitorRow (fun x => { x with mode := .pub })).withRunner 15 (fun r => { r with state := .stepping, index := 511 }))
theorem witness_PressPathTablesAreWritten :
    (base.Quiet ∧ base.Addressed ∧ (rowOf 5 base).enabled = false ∧ base.Unattached 5) ∧
    (let p := inBranch (fun b => { b with schedule := tput b.schedule 31 (some 5) }) inUse
     ((rowOf 5 p).kind ≠ .beacon ∧ ∃ a, usesStation a 5 p = true) ∧ tget p.bs.schedule 31 = some 5 ∧
       hasSlot 5 (inBranch (fun b => { b with schedule := tput b.schedule 31 none }) p) = false ∧ (axisOnDrive 5 p).isSome ∧
       inPublicUse (mappedExhibit (tget p.pd.inputMap (mapIndex 23 0)) p) p = true ∧
       inPublicUse (triggerOf 127 p).exhibit p = true ∧ (runnerOf 15 p).state ≠ .free ∧ (runnerOf 15 p).index.val = (511 : Fin 512).val ∧
       (exhibitOf 15 p).mode = .pub) ∧
    ((inPublicUse (mappedExhibit (tget base.pd.inputMap 191) base) base || inPublicUse (mappedExhibit (some 127) base) base) = false ∧
      (inPublicUse (triggerOf 127 base).exhibit base || inPublicUse visitorRow.exhibit base) = false) ∧
    (actionContentsOf [7#8, 7#8, 0#8, 0#8, 0#8, 0#8, 0#8, 0#8, 0#8] = some .hardwareAlert ∧
      actionContentsOf (Action.pause (.to 1022)).bytes = some (.entry (.pause (.to 1022))) ∧
      ¬∃ e, (runnerOf e base).state ≠ .free ∧ (runnerOf e base).index.val = (511 : Fin 512).val) ∧
    (let r : ExhibitRecord := { ExhibitRecord.cold with axes := [7, 7], lamp := some (23, 7) }
     let p := base
     r.loadable = true ∧ (∃ a, r.axes = [a, a]) ∧ ¬((exhibitOf 15 p).mode = .pub ∨ (exhibitOf 15 p).mode = .held ∨
       dropsHeldAxis 15 r.axes p = true) ∧
     (let r := { r with axes := [7] }
      ¬((∃ a, r.axes = [a, a]) ∨ listedByThree 15 r.axes p = true) ∧ r.lamp ≠ (exhibitOf 15 p).record.lamp)) :=
  ⟨⟨by decide, by decide, by decide, unattached_of (by decide) (by decide) (by decide)⟩, by decide, by decide, by decide, by decide⟩

theorem witness_MotionAlertAndSettingsTablesAreWritten :
    (base.Quiet ∧ base.Addressed ∧ AxisParams.cold.loadable ∧ (axisOf 7 base).state = .off ∧
      (axisOf 2 (moving .idle 0 0)).state ≠ .off) ∧
    (let r : AxisParams := { AxisParams.cold with softMin := 1, softMax := 0 }; r.loadable ∧ r.softMax < r.softMin) ∧
    (let p := driven base; let r : AxisParams := { AxisParams.cold with drive := some 5 }
     r.loadable ∧ (7 : Fin 8) ≠ 0 ∧ r.drive = some 5 ∧ (axisOf 7 p).params.drive = some 5 ∧ (axisOf 0 p).state = .off) ∧
    ¬(AxisParams.cold.softMax < AxisParams.cold.softMin ∨
      ∃ b st, b ≠ 7 ∧ AxisParams.cold.drive = some st ∧ (axisOf b base).params.drive = some st) ∧
    (within 1 16 16 ∧ programActive 0 (moving .running 96 48) = true ∧ programActive 63 base = false) ∧
    ((⟨32767, 511, 255⟩ : Segment).loadable ∧ segmentActive 0 (moving .running 96 48) = true ∧ segmentActive 255 base = false) ∧
    (⟨3, true, true, 9999, 3, .zone 3⟩ : AlertClass).loadable 1 := by decide

theorem witness_StationRowWritesMoveTheStation :
    (base.Quiet ∧ base.Addressed ∧ base.Unattached 5 ∧ (rowOf 5 base).enabled = false) ∧
    (let p := inBranch (fun b => { b with awaiting := some ⟨5, none, false, false⟩ })
       (polled .drive (fun x => { x with
         state := .lost, cue := some ⟨40#8, 1#4⟩, lostKey := some ⟨clsStationLost, .none, none, some 5, none⟩ }))
     p.Quiet ∧ p.Addressed ∧ p.Unattached 5 ∧ (rowOf 5 p).enabled = true ∧ (rowOf 5 p).kind ≠ .beacon) ∧
    (let p := polled .beacon id
     p.Unattached 5 ∧ (rowOf 5 p).enabled = true ∧ (rowOf 5 p).kind = .beacon ∧ (rowOf 5 p).zone ≠ 3) :=
  ⟨⟨by decide, by decide, unattached_of (by decide) (by decide) (by decide), by decide⟩,
    ⟨by decide, by decide, unattached_of (by decide) (by decide) (by decide), by decide, by decide⟩,
    unattached_of (by decide) (by decide) (by decide), by decide, by decide, by decide⟩

/-- A taken disable makes the station ABSENT, ends its STATION-LOST and discards the reply awaited (R2). -/
theorem test_disable_station :
    let key : AlertKey := ⟨clsStationLost, .none, none, some 5, none⟩
    let p := raise key (polled .panel (fun x => { x with state := .lost, lostKey := some key }))
    let t := after (.stationRowWrite 0#8 5#16 [0#8, 0#8, 0#8, 0xFF#8, 0#8]) p
    (stationOf 5 t).state = .absent ∧ (stationOf 5 t).lostKey = none ∧ t.bs.awaiting = some ⟨5, none, false, true⟩ := by decide

theorem witness_WritesAreClampedAndForced :
    ExhibitRecord.cold.loadable ∧ [1#8, 2#8, 3#8, 4#8, 5#8, 6#8, 7#8, 8#8].length = 8 ∧ AxisParams.cold.loadable ∧
    [0#8, 0#8, 0#8, 0#8, 0#8].length = 5 ∧ (⟨0, 511, 0⟩ : Segment).loadable ∧
    (⟨3, true, true, 9999, 3, .all⟩ : AlertClass).loadable 1 ∧ (⟨1, false, true, 0, 1, .none⟩ : AlertClass).loadable 15 := by
  decide

theorem test_clamps :
    (axisOf 0 (after (.axisParameterWrite 0#8 0#16 [0xFF#8, 0#8, 0#8, 0#8, 0#8, 0#8, 0#8, 0xFF#8, 0xFF#8, 0xFF#8, 0#8, 0#8,
      0#8, 0#8, 0#8, 0#8]) base)).params = ⟨none, 1, 0, 0, 4095, none, 1, 0, 1, .fixed⟩ := by decide
theorem test_forced_fields :
    tget (after (.alertClassWrite 0#8 0#16 [1#8, 0#8, 0#8, 0xFF#8, 0xFF#8, 1#8, 0xFF#8]) base).au.classes 0 =
      ⟨1, true, true, 9999, 1, .none⟩ := by decide

/-- A TABLE-WRITE to a read-only table is READ-ONLY whatever its length, and a TABLE-READ that is too long names its row
(R184, R185, R191). -/
theorem test_short_and_long_bodies :
    (after (.tableWrite 7#8 [13#8, 0#8]) base).tp.upQueue = [.mgmtReply 7#8 2#8 .readOnly 13#8 0#16 []] ∧
    (after (.tableRead 7#8 [15#8, 0#8, 0#8, 9#8]) base).tp.upQueue =
      [.mgmtReply 7#8 1#8 .range 15#8 0#16 [3#8, 0#8, 0#8, 3#8, 1#8]] := by decide

theorem witness_ReadsAndUnknownOperationsAreAnswered :
    (base.Quiet ∧ base.Addressed) ∧ [1#8].length ≤ 1 ∧ readRow 2 31 base = some [0xFF#8] ∧ readRow 2 32 base = none ∧
    (14#8 : Byte).toNat = 14 ∧ 16 < (17#8 : Byte).toNat := by decide

theorem witness_ExhibitModeOpensAndCloses :
    (base.Quiet ∧ base.Addressed ∧ (exhibitOf 15 base).mode = .dark ∧ publicCheck 15 base = none) ∧
    (∀ x m : Byte, [16#8, 2#8] = [x, m] → 16 ≤ x.toNat ∨ 4 ≤ m.toNat) ∧
    (∀ x m : Byte, [15#8, 4#8] = [x, m] → 16 ≤ x.toNat ∨ 4 ≤ m.toNat) ∧
    (let p := base.withExhibit 15 (fun x => { x with mode := .service })
     (exhibitOf 15 p).mode = .service ∧ publicCheck 15 p = none) ∧
    (let p := base.withExhibit 15 (fun x => { x with mode := .service, record := { x.record with attract := some 511 } })
     (exhibitOf 15 p).mode = .service ∧ (publicCheck 15 p).isSome) ∧
    (let p := base.withExhibit 15 (fun x => { x with mode := .held })
     (exhibitOf 15 p).mode = .held ∧ (runnerOf 15 p).state = .free) ∧
    (let p := (visited id).withRunner 15 (fun r => { r with state := .waitTicks })
     (exhibitOf 15 p).mode = .pub ∧ (runnerOf 15 p).state ≠ .free ∧ p.MovesNothing 15) :=
  ⟨by decide, by simp, by simp, by decide, by decide, by decide, by unfold Gx24.MovesNothing; decide⟩

theorem witness_SnapshotCopiesAndClears : base.Quiet ∧ base.Addressed ∧ ([] : List Byte).length ≠ 1 := by decide

theorem witness_WarmResetKeepsTheTables :
    let p := visited (fun x => { x with activity := .engaged })
    p.Quiet ∧ p.Addressed ∧ [0#8] ≠ ([] : List Byte) ∧ p.estop = false ∧ (∀ st, (stationOf st p).state ≠ .lost) ∧
      p.gc.state ≠ .island := by decide

/-! ### The trunk and the pins -/

theorem witness_TrunkSendsItsHeadAndCountsDiscards :
    (base.Quiet ∧ base.tp.upQueue = []) ∧
    (fullQueue.Quiet ∧ fullQueue.tp.upQueue = .inputReport 0 0 .press 0#16 :: fullQueue.tp.upQueue.drop 1) ∧
    checkedFrame 3 (unescape []) = none ∧ (List.replicate 251 (0#8 : Byte)).length = 251 ∧
    ((4#8 : Byte) ≠ byteOf base.tp.node.toNat ∧ (4#8 : Byte) ≠ 15#8) ∧
    (isDownType 0#8 = false ∧ isDownType 12#8 = false ∧ isDownType 11#8 = true ∧ (3#8 : Byte) = byteOf base.tp.node.toNat) ∧
    (isDownType 1#8 = true ∧ lengthAgrees 1#8 2 = false) := by decide

theorem witness_ColdResetGivesTheColdValues :
    base.estop = false ∧ stopped.estop = true ∧ (after (.coldReset none) stopped).resetLow = true ∧
    (∀ straps, Instr.slotStart ≠ .coldReset straps) ∧ Instr.slotStart ≠ .estopAsserted ∧ Instr.slotStart ≠ .estopReleased := by
  exact ⟨by decide, by decide, by decide, (fun _ h => by cases h), by decide, by decide⟩

/-- While RESET_N is asserted MOTION_PWR is off and a frame is not received; its release follows (R187). -/
theorem test_reset_low :
    let p := after (.coldReset none) base
    p.motionPower = false ∧ (after (.tick 5#16 0#8) p).gc = p.gc ∧ (after (.coldReset (some 3#4)) p).motionPower = true := by decide

theorem witness_EstopActsOnPowerAndAxes :
    let key : AlertKey := ⟨clsEstop, .none, none, none, none⟩
    (base.Quiet ∧ base.estop = false ∧ ∀ a, (axisOf a base).still = true) ∧
    (stopped.Quiet ∧ stopped.resetLow = false ∧ stopped.estop = true ∧ (∀ a, (axisOf a stopped).acked = false) ∧ slotOfKey key stopped = none) ∧
    (let p := putRecord 62 (some (record key .opened)) stopped
     slotOfKey key p = some 62 ∧ recordAt 62 p = some (record key .opened) ∧ (record key .opened).ackRequired = true ∧
       p.HoldsGiven) := by decide

end Sys2Proof.Tests
end

section
/-! The held sets in flight, and what a change of the records does to them (R46, R143). -/

namespace Sys2Proof.Machine

/-- The held sets among these notices, in the order in which they were given. -/
def heldsIn (ws : List Work) : List Work := ws.filter Work.isHeld

/-- Every held set stands before every other notice. -/
def HeldsFirst (ws : List Work) : Prop := ws.Pairwise (fun v w => w.isHeld = true → v.isHeld = true)

theorem heldsFirst_iff {ws : List Work} : HeldsFirst ws ↔ ∀ w ∈ ws.dropWhile Work.isHeld, w.isHeld = false := by
  induction ws with
  | nil => simp [HeldsFirst]
  | cons v ws ih =>
    simp only [HeldsFirst, List.pairwise_cons] at ih ⊢
    cases hv : v.isHeld with
    | true => simp [hv, ih]
    | false =>
      simp only [List.dropWhile_cons, hv, Bool.false_eq_true, if_false, List.mem_cons, forall_eq_or_imp, true_and, imp_false,
        Bool.not_eq_true]
      exact ⟨fun h => h.1, fun h => ⟨h, List.pairwise_of_forall_mem_list fun a _ b hb hc => by simp [h b hb] at hc⟩⟩

/-- With the held sets first, they are the notices up to the first of another kind. -/
theorem HeldsFirst.takeWhile {ws : List Work} (h : HeldsFirst ws) : ws.takeWhile Work.isHeld = heldsIn ws := by
  have hd : (ws.dropWhile Work.isHeld).filter Work.isHeld = [] := by
    simpa [List.filter_eq_nil_iff] using heldsFirst_iff.mp h
  have ht : (ws.takeWhile Work.isHeld).filter Work.isHeld = ws.takeWhile Work.isHeld :=
    List.filter_eq_self.mpr fun w hw => List.mem_takeWhile_imp hw
  have := congrArg (List.filter Work.isHeld) (List.takeWhile_append_dropWhile (p := Work.isHeld) (l := ws))
  rwa [List.filter_append, hd, ht, List.append_nil] at this

theorem HeldsFirst.sublist {ws vs : List Work} (h : HeldsFirst ws) (hs : vs.Sublist ws) : HeldsFirst vs :=
  List.Pairwise.sublist hs h

theorem HeldsFirst.post {ws : List Work} (h : HeldsFirst ws) {w : Work} (hw : w.isHeld = false) :
    HeldsFirst (ws ++ [w]) := by
  refine List.pairwise_append.mpr ⟨h, List.pairwise_singleton _ _, fun a _ b hb hc => ?_⟩
  rw [List.mem_singleton.mp hb, hw] at hc
  cases hc

/-- A held set given behind the others and before the rest. -/
theorem HeldsFirst.postHeld {s : Gx24} (h : HeldsFirst s.work) (x : ExhibitSet) : HeldsFirst (postHeld x s).work := by
  refine List.pairwise_append.mpr ⟨h.sublist (List.takeWhile_sublist _), ?_, fun a ha _ _ _ => List.mem_takeWhile_imp ha⟩
  exact List.pairwise_cons.mpr ⟨fun _ _ _ => rfl, h.sublist (List.dropWhile_sublist _)⟩

theorem heldsIn_postHeld {s : Gx24} (h : HeldsFirst s.work) (x : ExhibitSet) :
    heldsIn (postHeld x s).work = heldsIn s.work ++ [.held x] := by
  have hd : (s.work.dropWhile Work.isHeld).filter Work.isHeld = [] := by
    simpa [List.filter_eq_nil_iff] using heldsFirst_iff.mp h
  have ht : (heldsIn s.work).filter Work.isHeld = heldsIn s.work := by simp [heldsIn]
  show heldsIn (s.work.takeWhile Work.isHeld ++ .held x :: s.work.dropWhile Work.isHeld) = _
  rw [h.takeWhile, heldsIn, List.filter_append, ht, List.filter_cons_of_pos rfl, hd]

theorem heldsIn_post (ws : List Work) {w : Work} (hw : w.isHeld = false) : heldsIn (ws ++ [w]) = heldsIn ws := by
  simp [heldsIn, hw]

theorem currentHeld_congr {s t : Gx24} (ho : t.au.overflowHeld = s.au.overflowHeld) (hs : t.au.slots = s.au.slots) :
    currentHeld t = currentHeld s := by
  unfold currentHeld recordAt; rw [ho, hs]

/-- What a step of the part does to the held sets: the set last given stays the one that stands, held sets stay first, and
either nothing of them changes or the last in flight is the one last given. -/
structure HeldStep (s t : Gx24) : Prop where
  given : s.HoldsGiven → t.HoldsGiven
  ordered : HeldsFirst s.work → HeldsFirst t.work
  flight : HeldsFirst s.work → (heldsIn t.work = heldsIn s.work ∧ t.au.heldGiven = s.au.heldGiven) ∨
    (heldsIn t.work).getLast? = some (.held t.au.heldGiven)

theorem HeldStep.refl (s : Gx24) : HeldStep s s := ⟨id, id, fun _ => .inl ⟨rfl, rfl⟩⟩

theorem HeldStep.trans {s t u : Gx24} (h : HeldStep s t) (k : HeldStep t u) : HeldStep s u where
  given := k.given ∘ h.given
  ordered := k.ordered ∘ h.ordered
  flight ho := by
    rcases k.flight (h.ordered ho) with ⟨kw, kg⟩ | kl
    · rcases h.flight ho with ⟨hw, hg⟩ | hl
      · exact .inl ⟨kw.trans hw, kg.trans hg⟩
      · exact .inr (by rw [kw, kg, hl])
    · exact .inr kl

/-- Records, held set last given and notices in flight as they were. -/
theorem HeldStep.same {s t : Gx24} (ha : t.au = s.au) (hw : t.work = s.work) : HeldStep s t where
  given h := by show currentHeld t = _; rw [currentHeld_congr (congrArg _ ha) (congrArg _ ha), ha]; exact h
  ordered h := hw ▸ h
  flight _ := .inl ⟨by rw [hw], by rw [ha]⟩

/-- Whatever changes of the records, what follows it gives the held set that then stands (R131, R143). -/
theorem HeldStep.alertsChanged {s u : Gx24} (ns : List UpFrame) (hw : u.work = s.work)
    (hg : u.au.heldGiven = s.au.heldGiven) : HeldStep s (alertsChanged ns u) := by
  have work : (Machine.alertsChanged ns u).work = (giveHeld u).work := by
    unfold Machine.alertsChanged; rw [sendAll_work, render_work, setPower_work]
  have given : (Machine.alertsChanged ns u).au.heldGiven = (giveHeld u).au.heldGiven := by
    unfold Machine.alertsChanged; rw [sendAll_au, render_heldGiven, setPower_au]
  have held : currentHeld (Machine.alertsChanged ns u) = currentHeld u := by
    have ho : (Machine.alertsChanged ns u).au.overflowHeld = u.au.overflowHeld := by
      unfold Machine.alertsChanged; rw [sendAll_au]
      obtain ⟨p, st, b, h⟩ := render_frame (setPower (giveHeld u))
      rw [h]; unfold giveHeld; split <;> rfl
    exact currentHeld_congr ho (alertsChanged_slots ns u)
  by_cases hc : currentHeld u = u.au.heldGiven
  · rw [giveHeld_given hc] at work given
    exact ⟨fun _ => by show currentHeld _ = _; rw [held, given, hc], fun h => by rw [work, hw]; exact h,
      fun _ => .inl ⟨by rw [work, hw], by rw [given, hg]⟩⟩
  · have he : giveHeld u = postHeld (currentHeld u) { u with au := { u.au with heldGiven := currentHeld u } } := if_neg hc
    rw [he] at work given
    have first : HeldsFirst s.work → HeldsFirst ({ u with au := { u.au with heldGiven := currentHeld u } } : Gx24).work :=
      fun h => by show HeldsFirst u.work; rw [hw]; exact h
    refine ⟨fun _ => by show currentHeld _ = _; rw [held, given]; rfl, fun h => by rw [work]; exact (first h).postHeld _,
      fun h => .inr ?_⟩
    rw [work, given, heldsIn_postHeld (first h), List.getLast?_concat]
    rfl

/-- The exhibit is HELD exactly when the held set last given names it, unless it is DARK or SERVICE (R47). -/
def HoldAgrees (e : Fin 16) (s : Gx24) : Prop :=
  (exhibitOf e s).mode = .pub ∨ (exhibitOf e s).mode = .held →
    ((exhibitOf e s).mode = .held ↔ tget s.au.heldGiven e = true)

theorem heldLaw_iff {s : Gx24} : HeldLaw s ↔ s.HoldsGiven ∧ HeldsFirst s.work ∧
    (∀ w, (heldsIn s.work).getLast? = some w → w = .held s.au.heldGiven) ∧
    (heldsIn s.work = [] → ∀ e, HoldAgrees e s) := by
  unfold HeldLaw
  refine and_congr_right fun _ => ?_
  rw [← heldsFirst_iff]
  refine and_congr_right fun ho => ?_
  rw [ho.takeWhile]
  cases hl : (heldsIn s.work).getLast? with
  | none => simp [List.getLast?_eq_none_iff.mp hl, HoldAgrees]
  | some w =>
    have : heldsIn s.work ≠ [] := fun h => by rw [h] at hl; cases hl
    simp [this]

/-- The law is kept by a step that keeps every agreement while the set last given is the same. -/
theorem HeldLaw.step {s t : Gx24} (h : HeldLaw s) (hs : HeldStep s t)
    (hm : t.au.heldGiven = s.au.heldGiven → (∀ e, HoldAgrees e s) → ∀ e, HoldAgrees e t) : HeldLaw t := by
  obtain ⟨given, first, last, agree⟩ := heldLaw_iff.mp h
  refine heldLaw_iff.mpr ⟨hs.given given, hs.ordered first, ?_⟩
  rcases hs.flight first with ⟨hw, hg⟩ | hl
  · rw [hw, hg]
    exact ⟨last, fun hn => hm hg (agree hn)⟩
  · refine ⟨fun w hw => ?_, fun hn => ?_⟩
    · rw [hl] at hw; exact (Option.some.inj hw).symm
    · rw [hn] at hl; cases hl

end Sys2Proof.Machine
end

section
/-! Calm steps: those that keep every exhibit's mode and record, add nothing to a press queue, and do to the held sets what
`HeldStep` allows. Everything but a visitor's queued press, a change of mode, an exhibit record write and the resets is one. -/

namespace Sys2Proof.Machine

/-- The rows of the presses that wait at the exhibit, in their order. -/
def queuedRows (e : Fin 16) (s : Gx24) : List (Fin 128) := (exhibitOf e s).queue.map (·.row)

/-- Modes and records as they were, no press added to a queue, and the held sets as `HeldStep` allows. -/
structure Calm (s t : Gx24) : Prop extends HeldStep s t where
  mode : ∀ e, (exhibitOf e t).mode = (exhibitOf e s).mode
  record : ∀ e, (exhibitOf e t).record = (exhibitOf e s).record
  queue : ∀ e, (queuedRows e t).Sublist (queuedRows e s)

theorem exhibitOf_modExhibit (e e' : Fin 16) (f : Exhibit → Exhibit) (s : Gx24) :
    exhibitOf e' (modExhibit e f s) = if e = e' then f (exhibitOf e s) else exhibitOf e' s := by
  simp [exhibitOf, tget_tmod]

@[simp] theorem exhibitOf_modExhibit_same (e : Fin 16) (f : Exhibit → Exhibit) (s : Gx24) :
    exhibitOf e (modExhibit e f s) = f (exhibitOf e s) := by simp [exhibitOf_modExhibit]

theorem exhibitOf_congr {s t : Gx24} (h : t.exhibits = s.exhibits) (e : Fin 16) : exhibitOf e t = exhibitOf e s := by
  unfold exhibitOf; rw [h]

/-- A raise leaves the exhibits alone. -/
theorem raise_exhibits (key : AlertKey) (s : Gx24) : (raise key s).exhibits = s.exhibits :=
  ((alertsOnlyBlind s).raise key (.refl s)).exhibits

/-- Advancing the flood count leaves the press queue alone. -/
theorem advanceFlood_queue (e : Fin 16) (s : Gx24) :
    (exhibitOf e (advanceFlood e s)).queue = (exhibitOf e s).queue := by
  unfold advanceFlood raiseCrowding; dsimp only; repeat' split
  · rfl
  · rw [exhibitOf_congr (raise_exhibits _ _), exhibitOf_modExhibit_same]
  · rw [exhibitOf_modExhibit_same]

namespace Calm

variable {s₀ s t : Gx24}

theorem refl (s : Gx24) : Calm s s := ⟨.refl s, fun _ => rfl, fun _ => rfl, fun _ => .refl _⟩

theorem trans {u : Gx24} (h : Calm s t) (k : Calm t u) : Calm s u :=
  ⟨h.toHeldStep.trans k.toHeldStep, fun e => (k.mode e).trans (h.mode e), fun e => (k.record e).trans (h.record e),
    fun e => (k.queue e).trans (h.queue e)⟩

/-- A step of the held sets alone. -/
theorem ofHeld (k : HeldStep s t) (he : t.exhibits = s.exhibits) : Calm s t :=
  ⟨k, fun e => by rw [exhibitOf_congr he], fun e => by rw [exhibitOf_congr he], fun e => by
    unfold queuedRows; rw [exhibitOf_congr he]⟩

/-- Exhibits, alerts and notices in flight as they were. -/
theorem same (h : Calm s₀ s) (ht : (t.exhibits, t.au, t.work) = (s.exhibits, s.au, s.work)) : Calm s₀ t := by
  simp only [Prod.mk.injEq] at ht
  obtain ⟨he, ha, hw⟩ := ht
  exact h.trans (ofHeld (.same ha hw) he)

theorem setPower (h : Calm s₀ s) : Calm s₀ (Machine.setPower s) := h.same (by rfl)

theorem modStation (h : Calm s₀ s) (st : Fin 24) (f : Station → Station) : Calm s₀ (Machine.modStation st f s) :=
  h.same (by rfl)

theorem reloadIdle (h : Calm s₀ s) (e : Fin 16) : Calm s₀ (Machine.reloadIdle e s) := h.same (by rfl)

theorem modRunner (h : Calm s₀ s) (e : Fin 16) (f : Runner → Runner) : Calm s₀ (Machine.modRunner e f s) :=
  h.same (by rfl)

theorem modAxis (h : Calm s₀ s) (a : Fin 8) (f : Axis → Axis) : Calm s₀ (Machine.modAxis a f s) := h.same (by rfl)

theorem growExhibit (h : Calm s₀ s) (e : Fin 16) (c : ExhibitCounter) (n : Nat) : Calm s₀ (Machine.growExhibit e c n s) :=
  (h.same (by rfl))

theorem growAxis (h : Calm s₀ s) (a : Fin 8) (c : AxisCounter) : Calm s₀ (Machine.growAxis a c s) := h.same (by rfl)

/-- What follows a change of the records alone. -/
theorem announced {u : Gx24} (h : Calm s₀ s) (ns : List UpFrame) (he : u.exhibits = s.exhibits)
    (hw : u.work = s.work) (hg : u.au.heldGiven = s.au.heldGiven) : Calm s₀ (alertsChanged ns u) :=
  h.trans (ofHeld (.alertsChanged ns hw hg) (by rw [alertsChanged_exhibits, he]))

/-- An exhibit changed in neither mode nor record, with no press added. -/
theorem modExhibit (h : Calm s₀ s) (e : Fin 16) (f : Exhibit → Exhibit)
    (hm : (f (exhibitOf e s)).mode = (exhibitOf e s).mode)
    (hr : (f (exhibitOf e s)).record = (exhibitOf e s).record)
    (hq : ((f (exhibitOf e s)).queue.map (·.row)).Sublist (queuedRows e s)) :
    Calm s₀ (Machine.modExhibit e f s) :=
  h.trans ⟨.same rfl rfl, fun e' => by rw [exhibitOf_modExhibit]; split <;> simp_all,
    fun e' => by rw [exhibitOf_modExhibit]; split <;> simp_all, fun e' => by
      unfold queuedRows; rw [exhibitOf_modExhibit]; split
      · rename_i he; subst he; exact hq
      · exact .refl _⟩

/-- An exhibit changed in neither mode, record nor queue. -/
theorem touchExhibit (h : Calm s₀ s) (e : Fin 16) (f : Exhibit → Exhibit)
    (hf : ((f (exhibitOf e s)).mode, (f (exhibitOf e s)).record, (f (exhibitOf e s)).queue) =
      ((exhibitOf e s).mode, (exhibitOf e s).record, (exhibitOf e s).queue)) : Calm s₀ (Machine.modExhibit e f s) := by
  simp only [Prod.mk.injEq] at hf
  obtain ⟨hm, hr, hq⟩ := hf
  exact h.modExhibit e f hm hr (by rw [hq]; exact .refl _)

/-- A notice that is not a held set. -/
theorem post (h : Calm s₀ s) (w : Work) (hw : w.isHeld = false) : Calm s₀ (Machine.post w s) :=
  h.trans (ofHeld ⟨id, fun ho => ho.post hw, fun _ => .inl ⟨heldsIn_post _ hw, rfl⟩⟩ rfl)

theorem dropEnded (h : Calm s₀ s) (e : Fin 16) : Calm s₀ (Machine.dropEnded e s) := by
  refine h.trans (ofHeld ⟨id, fun ho => ho.sublist List.filter_sublist, fun _ => .inl ⟨?_, rfl⟩⟩ rfl)
  show (s.work.filter _).filter _ = s.work.filter _
  rw [List.filter_filter]
  exact List.filter_congr fun w _ => by cases w <;> simp [Work.isHeld, Work.isRunnerOf]

theorem sendUp (h : Calm s₀ s) (f : UpFrame) : Calm s₀ (Machine.sendUp f s) := by
  obtain ⟨q, c, hf⟩ := sendUp_frame f s
  rw [hf]; exact h.same (by rfl)

/-- The Alert Unit's tables and patterns changed, but neither its records nor its held sets. -/
theorem alertTables (h : Calm s₀ s) (x : Alerts) (hs : x.slots = s.au.slots)
    (ho : x.overflowHeld = s.au.overflowHeld) (hg : x.heldGiven = s.au.heldGiven) :
    Calm s₀ { s with au := x } :=
  h.trans (ofHeld ⟨fun hh => (currentHeld_congr ho hs).trans (Eq.trans hh hg.symm), id, fun _ => .inl ⟨rfl, hg⟩⟩ rfl)

theorem render (h : Calm s₀ s) : Calm s₀ (Machine.render s) := by
  obtain ⟨p, st, b, hf⟩ := render_frame s
  rw [hf]; exact (h.alertTables { s.au with patterns := p } rfl rfl rfl).same (by rfl)

theorem clearStories (h : Calm s₀ s) (e : Fin 16) : Calm s₀ (Machine.clearStories e s) := by
  unfold Machine.clearStories; exact h.same (by rfl)

theorem showMode (h : Calm s₀ s) (e : Fin 16) : Calm s₀ (Machine.showMode e s) := by
  unfold Machine.showMode; split
  exacts [h.same (by rfl), h]

theorem maskEvent (h : Calm s₀ s) (e : Fin 16) (m : IdleMask → Bool) : Calm s₀ (Machine.maskEvent e m s) := by
  unfold Machine.maskEvent; split
  exacts [h.same (by rfl), h]

theorem pressNotice (h : Calm s₀ s) (e : Fin 16) (v : Bool) : Calm s₀ (Machine.pressNotice e v s) := by
  have h := h.maskEvent e (·.anyPress)
  unfold Machine.pressNotice; dsimp only; repeat' split
  exacts [h.same (by rfl), h.same (by rfl), h]

theorem storePause (h : Calm s₀ s) (r : Option (Fin 128)) (l : Link) : Calm s₀ (Machine.storePause r l s) := by
  unfold Machine.storePause; repeat' split
  exacts [h.same (by rfl), h, h, h]

theorem startIndex (h : Calm s₀ s) (r : Fin 128) : Calm s₀ (Machine.startIndex r s).2 := by
  unfold Machine.startIndex; dsimp only; split
  exacts [h.same (by rfl), h]

/-! ### Alerts (chapter 7) -/

theorem raiseOverflow (h : Calm s₀ s) (he : t.exhibits = s.exhibits) (hw : t.work = s.work)
    (hg : t.au.heldGiven = s.au.heldGiven) : Calm s₀ (Machine.raiseOverflow t) := by
  unfold Machine.raiseOverflow; dsimp only
  cases hr : recordAt overflowSlot t <;> simp only [recordAt_putRecord, recordAt_takeSlot, if_true]
  · exact h.announced _ he hw hg
  · exact h.announced _ he hw hg

theorem repeatRaise (h : Calm s₀ s) (i : Fin 64) (r : AlertRecord) : Calm s₀ (Machine.repeatRaise i r s) := by
  unfold Machine.repeatRaise; dsimp only
  generalize AlertRecord.mk _ _ _ _ _ _ _ _ _ _ _ _ _ _ = r'
  split
  exacts [h, h.announced _ (by rfl) (by rfl) (by rfl)]

theorem raise (h : Calm s₀ s) (key : AlertKey) : Calm s₀ (Machine.raise key s) := by
  unfold Machine.raise; dsimp only; repeat' split
  · exact h.repeatRaise _ _
  · exact h
  · exact h.announced _ (by rfl) (by rfl) (by rfl)
  · unfold loseRaise; dsimp only
    unfold keepLostAxis; repeat' split
    all_goals exact h.raiseOverflow rfl rfl rfl

/-- What the end of the overflow condition changes of the records is announced with the rest (R147). -/
theorem endOverflow (t : Gx24) : (Machine.endOverflow t).2.exhibits = t.exhibits ∧
    (Machine.endOverflow t).2.work = t.work ∧ (Machine.endOverflow t).2.au.heldGiven = t.au.heldGiven := by
  unfold Machine.endOverflow; dsimp only; repeat' split
  all_goals exact ⟨rfl, rfl, rfl⟩

theorem removeRecord (h : Calm s₀ s) (i : Fin 64) (r : AlertRecord) : Calm s₀ (Machine.removeRecord i r s) := by
  obtain ⟨he, hw, hg⟩ := endOverflow (putRecord i none s)
  unfold Machine.removeRecord
  exact h.announced _ he hw hg

theorem endCondition (h : Calm s₀ s) (key : AlertKey) : Calm s₀ (Machine.endCondition key s) := by
  unfold Machine.endCondition; dsimp only; repeat' split
  exacts [h.announced _ (by rfl) (by rfl) (by rfl), h.removeRecord _ _, h.removeRecord _ _, h, h, h]

theorem acknowledge (h : Calm s₀ s) (l : List (Fin 64)) : Calm s₀ (Machine.acknowledge l s).2 := by
  have hk : ∀ k : AckTaken × Gx24, k = forList l ackSlot (⟨[], [], false⟩, s) →
      k.2.exhibits = s.exhibits ∧ k.2.work = s.work ∧ k.2.au.heldGiven = s.au.heldGiven := by
    rintro _ rfl
    refine forList_keeps (P := fun k : AckTaken × Gx24 => k.2.exhibits = s.exhibits ∧ k.2.work = s.work ∧
      k.2.au.heldGiven = s.au.heldGiven) (fun i k hk => ?_) ⟨rfl, rfl, rfl⟩
    unfold ackSlot; dsimp only; repeat' split
    all_goals exact hk
  unfold Machine.acknowledge; dsimp only
  obtain ⟨he, hw, hg⟩ := hk _ rfl
  split
  · obtain ⟨he', hw', hg'⟩ := endOverflow (forList l ackSlot (⟨[], [], false⟩, s)).2
    exact h.announced _ (he'.trans he) (hw'.trans hw) (hg'.trans hg)
  · exact h.announced _ he hw hg

end Calm

/-- A record replaced by one of the same hold target leaves the held set that stands as it is. -/
theorem currentHeld_putRecord {i : Fin 64} {r r' : AlertRecord} {s : Gx24} (hr : recordAt i s = some r)
    (ht : r'.target = r.target) : currentHeld (putRecord i (some r') s) = currentHeld s := by
  unfold currentHeld
  refine congrArg tmake (funext fun e => congrArg (tget s.au.overflowHeld e || ·) (congrArg anyRow (funext fun j => ?_)))
  rw [recordAt_putRecord]
  by_cases hj : i = j
  · rw [if_pos hj, ← hj, hr]; dsimp only; rw [ht]
  · rw [if_neg hj]

namespace Calm

variable {s₀ s t : Gx24}

theorem escalateSlot (i : Fin 64) (k : List UpFrame × Gx24) (h : Calm s₀ k.2) : Calm s₀ (Machine.escalateSlot i k).2 := by
  have put : ∀ {r : AlertRecord} (r' : AlertRecord), recordAt i k.2 = some r → r'.target = r.target →
      Calm s₀ (putRecord i (some r') k.2) := fun _ hr ht =>
    h.trans (ofHeld ⟨fun hh => (currentHeld_putRecord hr ht).trans hh, id, fun _ => .inl ⟨rfl, rfl⟩⟩ rfl)
  unfold Machine.escalateSlot; dsimp only; repeat' split
  · exact h
  · exact h
  all_goals rename_i hr _ _; exact put _ hr rfl

theorem escalateAll (h : Calm s₀ s) : Calm s₀ (Machine.escalateAll s) := by
  have h1 : Calm s₀ (forRows (n := 64) Machine.escalateSlot ([], s)).2 :=
    forRows_keeps (P := fun k : List UpFrame × Gx24 => Calm s₀ k.2) (fun i k h => escalateSlot i k h) h
  unfold Machine.escalateAll; dsimp only; split
  exacts [h1, h1.announced _ (by rfl) (by rfl) (by rfl)]

theorem eventEscalation (h : Calm s₀ s) (i : Fin 64) : Calm s₀ (Machine.eventEscalation i s) := by
  have h1 := escalateSlot i ([], s) h
  unfold Machine.eventEscalation; dsimp only; repeat' split
  exacts [h1.announced _ (by rfl) (by rfl) (by rfl), h, h]

end Calm

end Sys2Proof.Machine
end

section
/-! The calm operations of the Chain Runner, the Motion Unit and the Exhibit Controller (chapters 3 to 6). -/

namespace Sys2Proof.Machine.Calm

variable {s₀ s t : Gx24}

/-! ### Runners (chapter 4) -/

theorem haltLoopEnd (h : Calm s₀ s) (a : Fin 8) : Calm s₀ (Machine.haltLoopEnd a s) := by
  unfold Machine.haltLoopEnd; split
  exacts [h.same (by rfl), h.same (by rfl), h.same (by rfl), h, h, h, h]

theorem loopsToEnd (h : Calm s₀ s) (e : Fin 16) : Calm s₀ (Machine.loopsToEnd e s) :=
  forRows_keeps (P := Calm s₀) (fun a _ h => by split; exacts [h.haltLoopEnd a, h]) h

theorem chainEnd (h : Calm s₀ s) (e : Fin 16) : Calm s₀ (Machine.chainEnd e s) :=
  (((h.loopsToEnd e).maskEvent e _).growExhibit e _ _ |>.modRunner e _).post _ (by rfl)

theorem follow (h : Calm s₀ s) (e : Fin 16) (l : Link) : Calm s₀ (Machine.follow e l s) := by
  unfold Machine.follow; split
  exacts [(h.same (by rfl)).post _ (by rfl), h.chainEnd e]

theorem leave (h : Calm s₀ s) (e : Fin 16) : Calm s₀ (Machine.leave e s) := h.follow e _

theorem endCueWaits (h : Calm s₀ s) (p : Fin 24 → Serial → Bool) : Calm s₀ (Machine.endCueWaits p s) :=
  forRows_keeps (P := Calm s₀) (fun e _ h => by
    repeat' split
    exacts [h.leave e, h, h]) h

theorem endStationWaits (h : Calm s₀ s) (st : Fin 24) : Calm s₀ (Machine.endStationWaits st s) := h.endCueWaits _

theorem supersedeCues (h : Calm s₀ s) (st : Fin 24) : Calm s₀ (Machine.supersedeCues st s) := h.endCueWaits _

theorem writeCue (h : Calm s₀ s) (st : Fin 24) (n : Byte) : Calm s₀ (Machine.writeCue st n s).2 := by
  by_cases ha : (stationOf st s).state = .absent
  · rw [Machine.writeCue, if_pos ha]; exact h
  · rw [Machine.writeCue, if_neg ha]; dsimp only; exact (h.modStation st _).supersedeCues st

theorem cueReported (h : Calm s₀ s) (st : Fin 24) : Calm s₀ (Machine.cueReported st s) := by
  unfold Machine.cueReported; dsimp only; split
  exacts [h, h.endCueWaits _]

/-! ### Axes (chapters 5 and 6) -/

theorem startSegment (h : Calm s₀ s) (a : Fin 8) : Calm s₀ (Machine.startSegment a s) := by
  unfold Machine.startSegment; dsimp only; repeat' split
  exacts [h.same (by rfl), h.same (by rfl), h]

theorem runnerGranted (h : Calm s₀ s) (e : Fin 16) (a : Fin 8) : Calm s₀ (Machine.runnerGranted e a s) := by
  unfold Machine.runnerGranted; repeat' split
  exacts [h.same (by rfl), h.leave e, h]

theorem runnerSkipped (h : Calm s₀ s) (e : Fin 16) (a : Fin 8) : Calm s₀ (Machine.runnerSkipped e a s) := by
  unfold Machine.runnerSkipped; split
  exacts [(h.same (by rfl)).leave e, h]

theorem claimResult (h : Calm s₀ s) (a : Fin 8) (c : Claim) (r : MoveResult) (w : RefuseReason) :
    Calm s₀ (Machine.claimResult a c r w s) := by
  unfold Machine.claimResult; repeat' split
  exacts [h.runnerGranted _ _, h.runnerSkipped _ _, h.sendUp _, h.sendUp _]

theorem grantAxis (h : Calm s₀ s) (a : Fin 8) : Calm s₀ (Machine.grantAxis a s) := by
  unfold Machine.grantAxis; split
  exacts [h, ((h.same (by rfl)).startSegment a).claimResult _ _ _ _]

theorem endGuardHeld (h : Calm s₀ s) (a : Fin 8) : Calm s₀ (Machine.endGuardHeld a s) := by
  unfold Machine.endGuardHeld; dsimp only; split
  exacts [(h.same (by rfl)).endCondition _, h.same (by rfl)]

theorem endAxisFault (h : Calm s₀ s) (a : Fin 8) : Calm s₀ (Machine.endAxisFault a s) := by
  unfold Machine.endAxisFault; dsimp only; split
  exacts [(h.same (by rfl)).endCondition _, h.same (by rfl)]

theorem forgetStep (h : Calm s₀ s) (a : Fin 8) : Calm s₀ (Machine.forgetStep a s) := by
  unfold Machine.forgetStep; repeat' split
  exacts [h.same (by rfl), h, h]

theorem goOff (h : Calm s₀ s) (a : Fin 8) : Calm s₀ (Machine.goOff a s) :=
  (((h.same (by rfl)).forgetStep a).endGuardHeld a).endAxisFault a

theorem releaseAxis (h : Calm s₀ s) (a : Fin 8) : Calm s₀ (Machine.releaseAxis a s) := by
  unfold Machine.releaseAxis; dsimp only; split
  exacts [(h.same (by rfl)).goOff a, (h.same (by rfl)).grantAxis a]

theorem endHaltedQuietly (h : Calm s₀ s) (a : Fin 8) : Calm s₀ (Machine.endHaltedQuietly a s) :=
  (h.same (by rfl)).releaseAxis a

theorem haltNowWith (h : Calm s₀ s) {fin : Fin 8 → Gx24 → Gx24} (a : Fin 8) (hf : Calm s₀ (fin a s)) :
    Calm s₀ (Machine.haltNowWith fin a s) := by
  unfold Machine.haltNowWith; dsimp only; repeat' split
  exacts [hf, h.same (by rfl), hf, h, hf, h.same (by rfl), h, h, h]

theorem withdrawClaims (h : Calm s₀ s) (e : Fin 16) : Calm s₀ (Machine.withdrawClaims e s) :=
  forRows_keeps (P := Calm s₀) (fun _ _ h => h.same (by rfl)) h

theorem haltOwned (h : Calm s₀ s) (e : Fin 16) : Calm s₀ (Machine.haltOwned e s) :=
  forRows_keeps (P := Calm s₀) (fun a _ h => by split; exacts [h.haltNowWith a (h.endHaltedQuietly a), h]) h

theorem abortChain (h : Calm s₀ s) (e : Fin 16) : Calm s₀ (Machine.abortChain e s) := by
  unfold Machine.abortChain; split
  exacts [h, (((h.modRunner e _).withdrawClaims e).haltOwned e).growExhibit e _ _]

theorem abortReported (h : Calm s₀ s) (e : Fin 16) : Calm s₀ (Machine.abortReported e s) := by
  unfold Machine.abortReported; split
  exacts [h, (h.abortChain e).post _ (by rfl)]

theorem endResult (h : Calm s₀ s) (a : Fin 8) (o : Owner) (j : Job) (r : MoveResult) :
    Calm s₀ (Machine.endResult a o j r s) := by
  unfold Machine.endResult; repeat' split
  exacts [h.leave _, h.abortReported _, h, h.sendUp _, h.sendUp _]

theorem tellOwner (h : Calm s₀ s) (a : Fin 8) (o : Option Owner) (j : Option Job) (r : MoveResult) :
    Calm s₀ (Machine.tellOwner a o j r s) := by
  unfold Machine.tellOwner; split
  exacts [h.endResult _ _ _ _, h]

theorem endProgram (h : Calm s₀ s) (a : Fin 8) (r : MoveResult) : Calm s₀ (Machine.endProgram a r s) :=
  ((h.same (by rfl)).tellOwner a _ _ r).releaseAxis a

theorem haltNow (h : Calm s₀ s) (a : Fin 8) : Calm s₀ (Machine.haltNow a s) := h.haltNowWith a (h.endProgram a _)

theorem haltAxis (h : Calm s₀ s) (a : Fin 8) (m : Manner) : Calm s₀ (Machine.haltAxis a m s) := by
  unfold Machine.haltAxis; split
  exacts [h.haltNow a, h.haltLoopEnd a]

theorem timeOutClaim (h : Calm s₀ s) (a : Fin 8) (c : Claimant) : Calm s₀ (Machine.timeOutClaim a c s) := by
  unfold Machine.timeOutClaim; dsimp only; split
  exacts [(h.same (by rfl)).claimResult _ _ _ _, h]

theorem replaceClaim (h : Calm s₀ s) (a : Fin 8) (c : Claimant) : Calm s₀ (Machine.replaceClaim a c s) := by
  unfold Machine.replaceClaim; dsimp only; split
  exacts [(h.same (by rfl)).claimResult _ _ _ _, h]

theorem preempt (h : Calm s₀ s) (a : Fin 8) (c : Claim) : Calm s₀ (Machine.preempt a c s) := by
  unfold Machine.preempt; repeat' split
  exacts [(h.same (by rfl)).haltNow a, h, h]

theorem claimAxis (h : Calm s₀ s) (a : Fin 8) (c : Claim) : Calm s₀ (Machine.claimAxis a c s) := by
  unfold Machine.claimAxis; dsimp only; repeat' split
  exacts [(h.same (by rfl)).claimResult _ _ _ _, ((h.replaceClaim a _).same (by rfl)).grantAxis a,
    ((h.replaceClaim a _).same (by rfl)).preempt a _]

theorem refuseAll (h : Calm s₀ s) (a : Fin 8) (w : RefuseReason) : Calm s₀ (Machine.refuseAll a w s) :=
  forList_keeps (P := Calm s₀) (fun _ _ h => h.claimResult _ _ _ _) (h.same (by rfl))

theorem faultAxis (h : Calm s₀ s) (a : Fin 8) (c : FaultCause) : Calm s₀ (Machine.faultAxis a c s) := by
  have h1 : Calm s₀ (Machine.recordFault a c (Machine.refuseAll a .fault
      (Machine.modAxis a (fun x => { x with owner := none })
      (Machine.tellOwner a (axisOf a s).owner (axisOf a s).job .fault 
        (Machine.modAxis a (fun x => x.driveOff.ended .fault) s))))) :=
    ((((((h.modAxis a _).tellOwner a _ _ _).modAxis a _).refuseAll a _).modAxis a _).growAxis a _).raise _
  unfold Machine.faultAxis; dsimp only; repeat' split
  exacts [h, h1.goOff a, h1]

theorem guardNotices (h : Calm s₀ s) (a : Fin 8) : Calm s₀ (Machine.guardNotices a s) :=
  forRows_keeps (P := Calm s₀) (fun e _ h => by split; exacts [h.maskEvent e _, h]) h

theorem decideGuard (h : Calm s₀ s) (a : Fin 8) : Calm s₀ (Machine.decideGuard a s) := by
  unfold Machine.decideGuard; repeat' split
  exacts [h, h.same (by rfl), (((h.modAxis a _).growAxis a _).guardNotices a).modAxis a _, (h.same (by rfl)).endGuardHeld a]

theorem decideGuardsOf (h : Calm s₀ s) (st : Fin 24) : Calm s₀ (Machine.decideGuardsOf st s) :=
  forRows_keeps (P := Calm s₀) (fun a _ h => by
    repeat' split
    exacts [h.decideGuard a, h, h]) h

theorem raiseGuardHeld (h : Calm s₀ s) (a : Fin 8) : Calm s₀ (Machine.raiseGuardHeld a s) := (h.same (by rfl)).raise _

theorem testFlags (h : Calm s₀ s) (a : Fin 8) (d : DriveReport) : Calm s₀ (Machine.testFlags a d s) := by
  unfold Machine.testFlags; dsimp only; repeat' split
  exacts [h.faultAxis _ _, h.faultAxis _ _, h]

theorem checkFollowing (h : Calm s₀ s) (a : Fin 8) (d : DriveReport) : Calm s₀ (Machine.checkFollowing a d s) := by
  unfold Machine.checkFollowing; dsimp only; repeat' split
  exacts [h, h, h.same (by rfl), (h.same (by rfl)).faultAxis _ _, h.same (by rfl)]

theorem recoverTest (h : Calm s₀ s) (a : Fin 8) : Calm s₀ (Machine.recoverTest a s) := by
  unfold Machine.recoverTest; dsimp only; repeat' split
  exacts [((h.same (by rfl)).decideGuard a).endAxisFault a, h, h]

theorem ackNotice (h : Calm s₀ s) (a : Fin 8) (key : AlertKey) : Calm s₀ (Machine.ackNotice a key s) := by
  unfold Machine.ackNotice; dsimp only; split
  exacts [(h.same (by rfl)).recoverTest a, h.recoverTest a]

theorem acknowledgeAll (h : Calm s₀ s) (l : List (Fin 64)) : Calm s₀ (Machine.acknowledgeAll l s) :=
  forList_keeps (P := Calm s₀) (fun _ _ h => h.ackNotice _ _) (h.acknowledge l)

theorem driveReported (h : Calm s₀ s) (a : Fin 8) (b : Bool) (d : DriveReport) :
    Calm s₀ (Machine.driveReported a b d s) := by
  cases b
  · exact (h.testFlags a d).recoverTest a
  · exact (((h.same (by rfl)).testFlags a d).checkFollowing a d).recoverTest a

theorem completeSegment (h : Calm s₀ s) (a : Fin 8) : Calm s₀ (Machine.completeSegment a s) := by
  unfold Machine.completeSegment; dsimp only; repeat' split
  exacts [h, (h.same (by rfl)).startSegment a, h.endProgram a _, (h.same (by rfl)).startSegment a]

theorem runningStep (h : Calm s₀ s) (a : Fin 8) : Calm s₀ (Machine.runningStep a s) := by
  unfold Machine.runningStep Machine.arrive; dsimp only; repeat' split
  exacts [(h.same (by rfl)).completeSegment a, h.same (by rfl), h.same (by rfl)]

theorem dwellStep (h : Calm s₀ s) (a : Fin 8) : Calm s₀ (Machine.dwellStep a s) := by
  unfold Machine.dwellStep; dsimp only; split
  exacts [(h.same (by rfl)).completeSegment a, h.same (by rfl)]

theorem haltingStep (h : Calm s₀ s) (a : Fin 8) : Calm s₀ (Machine.haltingStep a s) := by
  unfold Machine.haltingStep; dsimp only; split
  exacts [(h.same (by rfl)).endProgram a _, h.same (by rfl)]

theorem brakingStep (h : Calm s₀ s) (a : Fin 8) : Calm s₀ (Machine.brakingStep a s) := by
  unfold Machine.brakingStep; dsimp only; repeat' split
  exacts [h.same (by rfl), (h.same (by rfl)).endProgram a _, h.same (by rfl)]

theorem resumeStep (h : Calm s₀ s) (a : Fin 8) : Calm s₀ (Machine.resumeStep a s) := by
  unfold Machine.resumeStep; split
  exacts [(h.same (by rfl)).runningStep a, (h.same (by rfl)).dwellStep a, (h.same (by rfl)).haltingStep a]

theorem guardStep (h : Calm s₀ s) (a : Fin 8) : Calm s₀ (Machine.guardStep a s) := by
  unfold Machine.guardStep; dsimp only; repeat' split
  exacts [(h.same (by rfl)).brakingStep a, (h.same (by rfl)).resumeStep a, (h.same (by rfl)).brakingStep a]

theorem stateStep (h : Calm s₀ s) (a : Fin 8) : Calm s₀ (Machine.stateStep a s) := by
  unfold Machine.stateStep; split
  exacts [h, h, h, h.runningStep a, h.dwellStep a, h.haltingStep a, h.guardStep a]

theorem stepAxis (h : Calm s₀ s) (a : Fin 8) : Calm s₀ (Machine.stepAxis a s) := by
  have h1 : Calm s₀ (Machine.modAxis a Axis.referred s) := h.same (by rfl)
  unfold Machine.stepAxis; dsimp only; repeat' split
  exacts [h.same (by rfl), h1.stateStep a, (h1.stateStep a).same (by rfl)]

theorem enableAxis (h : Calm s₀ s) (a : Fin 8) : Calm s₀ (Machine.enableAxis a s).2 := by
  unfold Machine.enableAxis; repeat' split
  exacts [h, h, h.same (by rfl)]

theorem disableAxis (h : Calm s₀ s) (a : Fin 8) : Calm s₀ (Machine.disableAxis a s).2 := by
  have h1 : Calm s₀ (Machine.refuseAll a .disabling (Machine.modAxis a (fun x => { x with disabling := true }) s)) :=
    (h.same (by rfl)).refuseAll a _
  unfold Machine.disableAxis; dsimp only; repeat' split
  exacts [h, h1.goOff a, h1.haltNow a]

theorem assertEstop (h : Calm s₀ s) : Calm s₀ (Machine.assertEstop s) := by
  have raised : Calm s₀ (Machine.setPower (Machine.raise keyEstop { s with estop := true })) :=
    ((h.same (t := { s with estop := true }) (by rfl)).raise _).setPower
  unfold Machine.assertEstop; split
  · exact h
  · exact forRows_keeps (P := Calm s₀) (fun a _ h => h.faultAxis a _)
      (forRows_keeps (P := Calm s₀) (fun _ _ h => h.same (by rfl)) raised)

theorem releaseEstop (h : Calm s₀ s) : Calm s₀ (Machine.releaseEstop s) := by
  have ended : Calm s₀ (Machine.setPower (Machine.endCondition keyEstop { s with estop := false })) :=
    ((h.same (t := { s with estop := false }) (by rfl)).endCondition _).setPower
  unfold Machine.releaseEstop; split
  exacts [h, forRows_keeps (P := Calm s₀) (fun a _ h => h.recoverTest a) ended]

/-! ### Exhibits (chapter 3) -/

theorem startChain (h : Calm s₀ s) (e : Fin 16) (c : ChainStart) : Calm s₀ (Machine.startChain e c s) := by
  have h1 : Calm s₀ (Machine.modExhibit e (fun x => x.engaged c) (Machine.dropEnded e s)) :=
    (h.dropEnded e).touchExhibit e _ (by rfl)
  unfold Machine.startChain; dsimp only; split
  exacts [(h1.same (by rfl)).post _ (by rfl), (h1.same (by rfl)).post _ (by rfl)]

theorem raiseCrowding (h : Calm s₀ s) (e : Fin 16) : Calm s₀ (Machine.raiseCrowding e s) :=
  (h.touchExhibit e _ (by rfl)).raise _

theorem advanceFlood (h : Calm s₀ s) (e : Fin 16) : Calm s₀ (Machine.advanceFlood e s) := by
  unfold Machine.advanceFlood; dsimp only; repeat' split
  exacts [h, h.raiseCrowding e, h.touchExhibit e _ (by rfl)]

theorem startVisitor (h : Calm s₀ s) (e : Fin 16) (r : Fin 128) (i : Fin 24 × Fin 8) (w : Word) :
    Calm s₀ (Machine.startVisitor e r i w s) :=
  (((h.startIndex r).same (by rfl)).touchExhibit e _ (by rfl)).startChain e _

theorem serveFrom (h : Calm s₀ s) (e : Fin 16) (l : List QueueEntry) (hl : l = (exhibitOf e s).queue) :
    Calm s₀ (Machine.serveFrom e l s) := by
  induction l generalizing s with
  | nil => exact h.modExhibit e _ rfl rfl (List.nil_sublist _)
  | cons q rest ih =>
    have h1 : Calm s₀ (Machine.modExhibit e (fun x => { x with queue := rest }) s) :=
      h.modExhibit e _ rfl rfl (by rw [queuedRows, ← hl]; exact List.sublist_cons_self _ _)
    unfold Machine.serveFrom; dsimp only; split
    · refine ih ((h1.same (by rfl)).advanceFlood e) ?_
      rw [advanceFlood_queue]
      show rest = (exhibitOf e (Machine.modExhibit e _ s)).queue
      rw [exhibitOf_modExhibit_same]
    · exact h1.startVisitor e _ _ _

theorem serveQueue (h : Calm s₀ s) (e : Fin 16) : Calm s₀ (Machine.serveQueue e s) := h.serveFrom e _ rfl

theorem showRequest (h : Calm s₀ s) (e : Fin 16) (a : Fin 512) (w : Word) : Calm s₀ (Machine.showRequest e a w s).2 := by
  unfold Machine.showRequest; repeat' split
  exacts [h.same (by rfl), h.same (by rfl), ((h.abortChain e).same (by rfl)).startChain e _]

theorem attendantRequest (h : Calm s₀ s) (e : Fin 16) (r : Fin 128) (i : Fin 24 × Fin 8) :
    Calm s₀ (Machine.attendantRequest e r i s) := by
  unfold Machine.attendantRequest; split
  exacts [h.same (by rfl), (((h.abortChain e).same (by rfl)).startIndex r).startChain e _]

theorem attractRequest (h : Calm s₀ s) (e : Fin 16) : Calm s₀ (Machine.attractRequest e s) := by
  unfold Machine.attractRequest; repeat' split
  exacts [(h.same (by rfl)).startChain e _, h.same (by rfl), h]

theorem runnerFreed (h : Calm s₀ s) (e : Fin 16) (o : Origin) : Calm s₀ (Machine.runnerFreed e o s) := by
  have h1 : Calm s₀ (Machine.modExhibit e (fun x => { x with grant := none, activity := .idle }) s) :=
    h.touchExhibit e _ (by rfl)
  unfold Machine.runnerFreed; dsimp only; split
  exacts [h1.touchExhibit e _ (by rfl), h1.serveQueue e]

theorem cooldownOver (h : Calm s₀ s) (e : Fin 16) : Calm s₀ (Machine.cooldownOver e s) := by
  unfold Machine.cooldownOver; split
  exacts [(h.touchExhibit e _ (by rfl)).serveQueue e, h]

theorem clearQueue (h : Calm s₀ s) (e : Fin 16) : Calm s₀ (Machine.clearQueue e s) :=
  (h.same (by rfl)).modExhibit e _ rfl rfl (List.nil_sublist _)

theorem endCooldown (h : Calm s₀ s) (e : Fin 16) : Calm s₀ (Machine.endCooldown e s) := h.touchExhibit e _ (by rfl)

theorem vacate (h : Calm s₀ s) (e : Fin 16) : Calm s₀ (Machine.vacate e s) :=
  ((h.abortChain e).dropEnded e).touchExhibit e _ (by rfl)

theorem closeGallery (h : Calm s₀ s) : Calm s₀ (Machine.closeGallery s) := by
  refine forRows_keeps (P := Calm s₀) (fun e t h => ?_) (h.same (by rfl))
  have h1 := (h.clearQueue e).endCooldown e
  unfold closeExhibit; dsimp only; split
  exacts [h1.vacate e, h1]

theorem quietGallery (h : Calm s₀ s) : Calm s₀ (Machine.quietGallery s) :=
  by
  refine forRows_keeps (P := Calm s₀) (fun e t h => ?_)
    (h.same (t := { s with ac := { s.ac with gallery := .quiet } }) (by rfl))
  split
  exacts [h.vacate e, h]

theorem expireIdle (h : Calm s₀ s) (e : Fin 16) : Calm s₀ (Machine.expireIdle e s) := by
  unfold Machine.expireIdle; dsimp only; split
  exacts [((h.clearStories e).attractRequest e).reloadIdle e, (h.clearStories e).reloadIdle e]

theorem expireQuiet (h : Calm s₀ s) : Calm s₀ (Machine.expireQuiet s) := by
  unfold Machine.expireQuiet; split
  exacts [h.quietGallery, h]

theorem reloadAllTimers (h : Calm s₀ s) : Calm s₀ (Machine.reloadAllTimers s) := by
  obtain ⟨x, hx⟩ := reloadAllTimers_frame s
  rw [hx]; exact h.same (by rfl)

theorem galleryCommand (h : Calm s₀ s) (b : Bool) : Calm s₀ (Machine.galleryCommand b s) := by
  unfold Machine.galleryCommand; repeat' split
  exacts [(h.same (by rfl)).reloadAllTimers, h, h, h, h.closeGallery, h.closeGallery]

theorem holdRelease (h : Calm s₀ s) (e : Fin 16) (r : Fin 128) : Calm s₀ (Machine.holdRelease e r s) := by
  have tail : ∀ {t}, Calm s₀ t → Calm s₀ (if (runnerOf e t).state ≠ .free ∧ (runnerOf e t).row = some r then
      Machine.abortReported e t else t) := fun h => by split; exacts [h.abortReported e, h]
  unfold Machine.holdRelease; dsimp only
  refine tail ?_
  split
  · exact (h.same (by rfl)).modExhibit e _ rfl rfl (List.filter_sublist.map _)
  · exact h

/-! ### Chains (chapter 4) -/

theorem chainFault (h : Calm s₀ s) (e : Fin 16) (c : AlertCause) : Calm s₀ (Machine.chainFault e c s) :=
  (h.abortReported e).raise _

theorem doCue (h : Calm s₀ s) (e : Fin 16) (st : Fin 24) (n : Byte) (w : Bool) (l : Link) :
    Calm s₀ (Machine.doCue e st n w l s) := by
  have h1 := h.writeCue st n
  unfold Machine.doCue
  split <;> rename_i hc <;> rw [hc] at h1
  · split
    exacts [h1.same (by rfl), h1.follow e l]
  · exact h1.follow e l

theorem takeDefault (h : Calm s₀ s) (e : Fin 16) : Calm s₀ (Machine.takeDefault e s) := (h.same (by rfl)).follow e _

theorem doRefer (h : Calm s₀ s) (e : Fin 16) (t : Byte) (n : Nat) : Calm s₀ (Machine.doRefer e t n s) := by
  unfold Machine.doRefer; split
  exacts [h.takeDefault e, (((h.modRunner e _).sendUp _).growExhibit e _ _).modRunner e _]

theorem doMove (h : Calm s₀ s) (e : Fin 16) (a : Fin 8) (p : Fin 64) (m : RunMode) :
    Calm s₀ (Machine.doMove e a p m s) := by
  have h1 := (h.same (t := Machine.modRunner e (fun r => r.claiming a) s) (by rfl)).claimAxis a
    ⟨.exhibit e, (runnerOf e s).origin, .program p, m, 0⟩
  unfold Machine.doMove; dsimp only; split
  exacts [h1.same (by rfl), h1]

theorem doHaltAxis (h : Calm s₀ s) (e : Fin 16) (a : Fin 8) (m : Manner) (l : Link) :
    Calm s₀ (Machine.doHaltAxis e a m l s) := by
  unfold Machine.doHaltAxis; split
  exacts [(h.haltAxis a m).follow e l, h.follow e l]

theorem perform (h : Calm s₀ s) (e : Fin 16) (x : Action) : Calm s₀ (Machine.perform e x s) := by
  unfold Machine.perform; split
  exacts [h.chainFault e _, (h.same (by rfl)).follow e _, h.doCue e _ _ _ _, h.doMove e _ _ _, h.doHaltAxis e _ _ _,
    h.same (by rfl), (h.storePause _ _).chainEnd e, (h.raise _).follow e _, h.doRefer e _ _, (h.same (by rfl)).follow e _]

theorem runStep (h : Calm s₀ s) (e : Fin 16) : Calm s₀ (Machine.runStep e s) := by
  unfold Machine.runStep; dsimp only; repeat' split
  exacts [h, h.chainFault e _, h.chainFault e _, (h.same (by rfl)).perform e _]

theorem endWait (h : Calm s₀ s) (e : Fin 16) : Calm s₀ (Machine.endWait e s) := by
  unfold Machine.endWait; split
  exacts [h.leave e, h]

theorem timeOutReferral (h : Calm s₀ s) (e : Fin 16) : Calm s₀ (Machine.timeOutReferral e s) := by
  unfold Machine.timeOutReferral; split
  exacts [h.takeDefault e, h]

theorem islandDefaults (h : Calm s₀ s) : Calm s₀ (Machine.islandDefaults s) :=
  forRows_keeps (P := Calm s₀) (fun e _ h => by split; exacts [h.takeDefault e, h]) h

theorem takeVerdict (h : Calm s₀ s) (e : Fin 16) (n : Serial) (v : Verdict) : Calm s₀ (Machine.takeVerdict e n v s) := by
  unfold Machine.takeVerdict; dsimp only; repeat' split
  exacts [h.same (by rfl), (h.same (by rfl)).follow e _, h.same (by rfl)]

theorem runCue (h : Calm s₀ s) (c : CueEntry) : Calm s₀ (Machine.runCue c s) := by
  have h1 := h.showRequest c.exhibit c.start c.due
  unfold Machine.runCue; dsimp only; split
  exacts [h1.sendUp _, (h1.same (by rfl)).sendUp _]

/-- Every notice but a held set is taken calmly. -/
theorem deliver (h : Calm s₀ s) (w : Work) (hw : w.isHeld = false) : Calm s₀ (Machine.deliver w s) := by
  cases w with
  | run e => exact h.runStep e
  | ended e o => exact h.runnerFreed e o
  | held x => cases hw
  | cooldownEnd e => exact h.cooldownOver e
  | waitEnd e => exact h.endWait e
  | referralTimeout e => exact h.timeOutReferral e
  | claimTimeout a c => exact h.timeOutClaim a c
  | guardHeld a => unfold Machine.deliver; dsimp only; split; exacts [h.raiseGuardHeld a, h]
  | quietExpiry => exact h.expireQuiet
  | idleExpiry e => exact h.expireIdle e
  | fireCue c => exact h.runCue c
  | gallery b => exact h.galleryCommand b

end Sys2Proof.Machine.Calm
end

section
/-! The calm operations of the branch, the clock and the Trunk Port (chapters 1, 9 and 10). -/

namespace Sys2Proof.Machine.Calm

variable {s₀ s t : Gx24}

/-! ### The branch (chapter 1) -/

theorem endQuery (h : Calm s₀ s) (r : QueryResult) (a : Option Word) : Calm s₀ (Machine.endQuery r a s) := by
  unfold Machine.endQuery; split
  exacts [(h.same (t := dropQuery s) (by rfl)).sendUp _, h]

theorem endQueryOf (h : Calm s₀ s) (st : Fin 24) : Calm s₀ (Machine.endQueryOf st s) := by
  unfold Machine.endQueryOf; repeat' split
  exacts [h.endQuery _ _, h, h]

theorem endLost (h : Calm s₀ s) (st : Fin 24) : Calm s₀ (Machine.endLost st s) := by
  unfold Machine.endLost; dsimp only; split
  exacts [(h.modStation st _).endCondition _, h.modStation st _]

theorem raiseLost (h : Calm s₀ s) (st : Fin 24) : Calm s₀ (Machine.raiseLost st s) := (h.modStation st _).raise _

theorem loseStation (h : Calm s₀ s) (st : Fin 24) : Calm s₀ (Machine.loseStation st s) := by
  have h1 := ((h.modStation st (fun x => { x with state := .lost })).raiseLost st).decideGuardsOf st
  unfold Machine.loseStation faultDriveAxis; dsimp only; split
  exacts [((h1.faultAxis _ _).endStationWaits st).endQueryOf st, (h1.endStationWaits st).endQueryOf st]

theorem countStationMiss (h : Calm s₀ s) (st : Fin 24) (crc : Bool) : Calm s₀ (Machine.countStationMiss st crc s) := by
  have grown : Calm s₀ (if crc then growStation st .crcErrors 1 (growStation st .missed 1 s)
      else growStation st .missed 1 s) := by split; exacts [h.same (by rfl), h.same (by rfl)]
  have tail : ∀ {t}, Calm s₀ t → Calm s₀ (if (stationOf st t).missCount = missLimit ∧
      ((stationOf st t).state = .joining ∨ (stationOf st t).state = .present) then Machine.loseStation st t else t) :=
    fun h => by split; exacts [h.loseStation st, h]
  exact tail (grown.modStation st _)

theorem storeLevels (h : Calm s₀ s) (st : Fin 24) (l : Byte) : Calm s₀ (Machine.storeLevels st l s) :=
  (h.modStation st _).decideGuardsOf st

theorem storeCueReport (h : Calm s₀ s) (st : Fin 24) (n : Serial) (b : Bool) :
    Calm s₀ (Machine.storeCueReport st n b s) := (h.modStation st _).cueReported st

theorem queryUnanswered (h : Calm s₀ s) : Calm s₀ (Machine.queryUnanswered s) := by
  unfold Machine.queryUnanswered; repeat' split
  exacts [h.endQuery _ _, h, h]

theorem takeAnswer (h : Calm s₀ s) (st : Fin 24) (b : Bool) (a : Option Word) : Calm s₀ (Machine.takeAnswer st b a s) := by
  unfold Machine.takeAnswer; repeat' split
  exacts [h.endQuery _ _, h, h.queryUnanswered, h]

theorem storeDrive (h : Calm s₀ s) (st : Fin 24) (a : Option (Fin 8)) (d : Option DriveReport) :
    Calm s₀ (Machine.storeDrive st a d s) := by
  unfold Machine.storeDrive; dsimp only; repeat' split
  exacts [h, (h.modStation st _).driveReported _ _ _, h.modStation st _]

theorem join (h : Calm s₀ s) (st : Fin 24) (r : Reply) : Calm s₀ (Machine.join st r s) := by
  have serials : Calm s₀ (joinSerials st r.nextSerial r.lastStarted (growStation st .stale r.events.length s)) := by
    unfold joinSerials; dsimp only; split
    · exact h.same (by rfl)
    · exact forRows_keeps (P := Calm s₀) (fun e _ h => h.modRunner e _) (h.same (by rfl))
  exact (serials.modStation st _).endLost st

theorem takeMiss (h : Calm s₀ s) (w : Awaiting) (crc : Bool) : Calm s₀ (Machine.takeMiss w crc s) := by
  have marked : Calm s₀ (match w.stepAxis with
      | some a => Machine.modAxis a (fun x => { x with stepGood := false }) s
      | none => s) := by split; exacts [h.modAxis _ _, h]
  unfold Machine.takeMiss; dsimp only; split
  exacts [(marked.countStationMiss _ _).queryUnanswered, marked.countStationMiss _ _]

theorem pollStation (h : Calm s₀ s) (st : Fin 24) : Calm s₀ (Machine.pollStation st s) := by
  have ask : Calm s₀ (askQuery st s).2 := by
    unfold askQuery; repeat' split
    exacts [h.same (by rfl), h, h]
  have step : ∀ {t}, Calm s₀ t → Calm s₀ (stepPoint st t) := fun h => by
    unfold stepPoint; dsimp only; split
    exacts [Calm.stepAxis (h.same (by rfl)) _, h.modStation st _]
  have asked : Calm s₀ { (askQuery st s).2 with bs := { (askQuery st s).2.bs with
      awaiting := some ⟨st, none, (askQuery st s).1.isSome, false⟩ } } := ask.same (by rfl)
  unfold Machine.pollStation; dsimp only; split
  · exact (step asked).same (by rfl)
  · exact asked.same (by rfl)

theorem startSweep (h : Calm s₀ s) : Calm s₀ (Machine.startSweep s) := by
  unfold Machine.startSweep; exact h.same (by rfl)

/-- The raises after RESET-WARM (R188). -/
theorem raiseAgain (h : Calm s₀ s) : Calm s₀ (Machine.raiseAgain s) := by
  have last : ∀ {t}, Calm s₀ t → Calm s₀ (if t.gc.state = .island then Machine.raise keyTrunkLost t else t) :=
    fun k => by split; exacts [k.raise _, k]
  unfold Machine.raiseAgain; dsimp only
  refine last (forRows_keeps (P := Calm s₀) (fun st s k => ?_) ?_)
  · split; exacts [k.raiseLost st, k]
  · split; exacts [(h.raise _).setPower, h]

theorem beginSlot (h : Calm s₀ s) (i : Fin 32) : Calm s₀ (Machine.beginSlot i s) := by
  unfold Machine.beginSlot; dsimp only; repeat' split
  exacts [h.same (by rfl), h.same (by rfl), (h.same (by rfl)).pollStation _]

theorem takeQuery (h : Calm s₀ s) (st : Byte) (p : Word) : Calm s₀ (Machine.takeQuery st p s) := by
  unfold Machine.takeQuery; repeat' split
  exacts [h.sendUp _, h.sendUp _, h.sendUp _, h.sendUp _, h.same (by rfl)]

theorem unmappedEvent (h : Calm s₀ s) (st : Fin 24) (i : Fin 8) (g : Edge) : Calm s₀ (Machine.unmappedEvent st i g s) := by
  unfold Machine.unmappedEvent; dsimp only; split
  exacts [(h.same (t := growStation st .unmapped 1 s) (by rfl)).sendUp _, h.same (by rfl)]

theorem turnKey (h : Calm s₀ s) (e : Fin 16) : Calm s₀ (Machine.turnKey e s) :=
  (h.same (t := growAlert .keyAcks s) (by rfl)).acknowledgeAll _

/-! ### The clock (chapter 9) -/

theorem countExhibit (h : Calm s₀ s) (e : Fin 16) : Calm s₀ (Machine.countExhibit e s) := by
  have aged : Calm s₀ (Machine.modExhibit e (fun x => { x with queue := x.queue.map QueueEntry.aged }) s) :=
    h.modExhibit e _ rfl rfl (by simp [queuedRows, Function.comp_def, QueueEntry.aged])
  unfold Machine.countExhibit; dsimp only; repeat' split
  exacts [(aged.touchExhibit e _ (by rfl)).post _ (by rfl),
    aged.touchExhibit e _ (by rfl), aged]

theorem countRunner (h : Calm s₀ s) (e : Fin 16) : Calm s₀ (Machine.countRunner e s) := by
  unfold Machine.countRunner; dsimp only; repeat' split
  exacts [(h.modRunner e _).post _ (by rfl), h.modRunner e _, (h.modRunner e _).post _ (by rfl), h.modRunner e _,
    h, h, h, h, h]

theorem countClaims (h : Calm s₀ s) (a : Fin 8) : Calm s₀ (Machine.countClaims a s) :=
  forList_keeps (P := Calm s₀) (fun c _ h => by split; exacts [h.post _ (by rfl), h]) (h.modAxis a _)

theorem countGuard (h : Calm s₀ s) (a : Fin 8) : Calm s₀ (Machine.countGuard a s) := by
  unfold Machine.countGuard; dsimp only; repeat' split
  exacts [h, (h.modAxis a _).post _ (by rfl), h.modAxis a _]

theorem countQuiet (h : Calm s₀ s) : Calm s₀ (Machine.countQuiet s) := by
  unfold Machine.countQuiet; dsimp only; repeat' split
  exacts [(h.same (by rfl)).post _ (by rfl), h.same (by rfl), h]

theorem countIdle (h : Calm s₀ s) (e : Fin 16) : Calm s₀ (Machine.countIdle e s) := by
  unfold Machine.countIdle; dsimp only; repeat' split
  exacts [(h.same (by rfl)).post _ (by rfl), h.same (by rfl), h]

theorem tickEvent (h : Calm s₀ s) (n : Word) : Calm s₀ (Machine.tickEvent n s) := by
  have h1 := forRows_keeps (P := Calm s₀) (fun e _ h => countExhibit h e)
    (h.same (t := { s with gc := { s.gc with tick := n } }) (by rfl))
  have h2 := forRows_keeps (P := Calm s₀) (fun a _ h => countGuard (countClaims h a) a)
    (forRows_keeps (P := Calm s₀) (fun e _ h => countRunner h e) h1)
  exact forRows_keeps (P := Calm s₀) (fun e _ h => countIdle h e) h2.escalateAll.countQuiet

theorem fireAt (h : Calm s₀ s) (due : Word) : Calm s₀ (Machine.fireAt due s) :=
  forList_keeps (P := Calm s₀) (fun c _ h => h.post _ (by rfl)) (h.same (by rfl))

theorem dropSkipped (h : Calm s₀ s) (old : Word) (k : Nat) : Calm s₀ (Machine.dropSkipped old k s) :=
  forList_keeps (P := Calm s₀) (fun _ _ h => (h.sendUp _).same (by rfl)) (h.same (by rfl))

theorem sendStatus (h : Calm s₀ s) : Calm s₀ (Machine.sendStatus s) := (h.sendUp (.status (statusFrame s))).same (by rfl)

theorem lockClock (h : Calm s₀ s) : Calm s₀ (Machine.lockClock s) := by
  unfold Machine.lockClock; dsimp only; split
  exacts [(h.same (by rfl)).endCondition _, h.same (by rfl)]

theorem giveCommand (h : Calm s₀ s) (c : GalleryCommand) : Calm s₀ (Machine.giveCommand c s) := by
  unfold Machine.giveCommand; repeat' split
  exacts [h, h.post _ (by rfl), h, h, h.post _ (by rfl)]

theorem scheduleCue (h : Calm s₀ s) (c : CueEntry) : Calm s₀ (Machine.scheduleCue c s) := by
  unfold Machine.scheduleCue; dsimp only; repeat' split
  exacts [((h.same (by rfl)).sendUp _).sendUp _, h.sendUp _, (h.same (by rfl)).sendUp _]

theorem takeCue (h : Calm s₀ s) (d : Word) (e : Byte) (a : Word) (t : Byte) : Calm s₀ (Machine.takeCue d e a t s) := by
  unfold Machine.takeCue; repeat' split
  exacts [h.sendUp _, h.runCue _, h.sendUp _, h.scheduleCue _, h.sendUp _]

theorem cancelCue (h : Calm s₀ s) (e : Byte) (d : Word) : Calm s₀ (Machine.cancelCue e d s) := by
  unfold Machine.cancelCue; repeat' split
  exacts [h.sendUp _, h.sendUp _, (h.same (by rfl)).sendUp _]

/-! ### Table writes (chapters 1, 2, 4, 5, 7 and 9) -/

theorem stationWithdrawn (h : Calm s₀ s) (st : Fin 24) : Calm s₀ (Machine.stationWithdrawn st s) :=
  ((((h.same (t := discardAwaited st s) (by rfl)).endLost st).decideGuardsOf st).modStation st _
    |>.endStationWaits st).endQueryOf st

theorem moveStation (h : Calm s₀ s) (st : Fin 24) (old new : StationRow) : Calm s₀ (Machine.moveStation st old new s) := by
  unfold Machine.moveStation; repeat' split
  exacts [(h.modStation st _).decideGuardsOf st, (h.modStation st _).stationWithdrawn st,
    (h.modStation st _).stationWithdrawn st, h]

theorem writeStationRow (h : Calm s₀ s) (w : Word) (c : List Byte) : Calm s₀ (Machine.writeStationRow w c s).2 := by
  have shown : ∀ st old new {t}, Calm s₀ t → Calm s₀ (beaconRowWritten st old new t) := fun st old new _ h => by
    unfold beaconRowWritten; split
    exacts [h.modStation st _, h]
  unfold Machine.writeStationRow; dsimp only; repeat' split
  exacts [h, shown _ _ _ ((h.same (by rfl)).moveStation _ _ _), h]

theorem slotsChanged (h : Calm s₀ s) (st : Option (Fin 24)) (b : Bool) : Calm s₀ (Machine.slotsChanged st b s) := by
  unfold Machine.slotsChanged; dsimp only; repeat' split
  exacts [h, h, (h.decideGuardsOf _).endQueryOf _, h.decideGuardsOf _]

theorem writeSchedule (h : Calm s₀ s) (w : Word) (c : List Byte) : Calm s₀ (Machine.writeSchedule w c s).2 := by
  have pick : ∀ {p : Prop} [Decidable p] {t}, Calm s₀ t → Calm s₀ (if p then (ReplyCode.live, s) else (.ok, t)).2 :=
    fun h' => by split; exacts [h, h']
  unfold Machine.writeSchedule; dsimp only; split
  · split
    · exact h
    · exact pick (((h.same (by rfl)).slotsChanged _ _).slotsChanged _ _)
  · exact h

theorem writeInputMap (h : Calm s₀ s) (w : Word) (c : List Byte) : Calm s₀ (Machine.writeInputMap w c s).2 := by
  unfold Machine.writeInputMap; repeat' split
  exacts [h, h, h.same (by rfl), h]

theorem writeTriggerRow (h : Calm s₀ s) (w : Word) (c : List Byte) : Calm s₀ (Machine.writeTriggerRow w c s).2 := by
  unfold Machine.writeTriggerRow; repeat' split
  exacts [h, h.same (by rfl), h]

theorem writeAction (h : Calm s₀ s) (w : Word) (c : List Byte) : Calm s₀ (Machine.writeAction w c s).2 := by
  unfold Machine.writeAction; repeat' split
  exacts [h, h, h.same (by rfl), h]

theorem writeAxisParams (h : Calm s₀ s) (w : Word) (c : List Byte) : Calm s₀ (Machine.writeAxisParams w c s).2 := by
  unfold Machine.writeAxisParams; repeat' split
  exacts [h, h, h.same (by rfl), h]

theorem writeProgram (h : Calm s₀ s) (w : Word) (c : List Byte) : Calm s₀ (Machine.writeProgram w c s).2 := by
  unfold Machine.writeProgram; repeat' split
  exacts [h, h.same (by rfl), h]

theorem writeSegment (h : Calm s₀ s) (w : Word) (c : List Byte) : Calm s₀ (Machine.writeSegment w c s).2 := by
  unfold Machine.writeSegment; repeat' split
  exacts [h, h.same (by rfl), h]

theorem writeAlertClass (h : Calm s₀ s) (w : Word) (c : List Byte) : Calm s₀ (Machine.writeAlertClass w c s).2 := by
  unfold Machine.writeAlertClass; repeat' split
  exacts [h, h, h.alertTables _ (by rfl) (by rfl) (by rfl)]

theorem writeNeighbours (h : Calm s₀ s) (w : Word) (c : List Byte) : Calm s₀ (Machine.writeNeighbours w c s).2 := by
  unfold Machine.writeNeighbours; repeat' split
  exacts [h, (h.alertTables _ (by rfl) (by rfl) (by rfl)).render, h]

theorem writeSettings (h : Calm s₀ s) (w : Word) (c : List Byte) : Calm s₀ (Machine.writeSettings w c s).2 := by
  unfold Machine.writeSettings; dsimp only; repeat' split
  exacts [h, h, h.same (by rfl), h.same (by rfl)]

/-! ### Frames (chapter 10) -/

theorem manageAxis (h : Calm s₀ s) (t : Byte) (b : List Byte) : Calm s₀ (Machine.manageAxis t b s) := by
  unfold Machine.manageAxis; dsimp only; repeat' split
  exacts [(h.enableAxis _).sendUp _, (h.disableAxis _).sendUp _, h.sendUp _, h.sendUp _]

theorem manageSnapshot (h : Calm s₀ s) (t : Byte) (b : List Byte) : Calm s₀ (Machine.manageSnapshot t b s) := by
  unfold Machine.manageSnapshot; split
  exacts [(h.same (by rfl)).sendUp _, h.sendUp _]

theorem manageClearCold (h : Calm s₀ s) (t : Byte) (b : List Byte) : Calm s₀ (Machine.manageClearCold t b s) := by
  unfold Machine.manageClearCold; split
  exacts [(h.same (by rfl)).sendUp _, h.sendUp _]

theorem readTable (h : Calm s₀ s) (t : Byte) (b : List Byte) : Calm s₀ (Machine.readTable t b s) := by
  unfold Machine.readTable; dsimp only; split
  exacts [h.sendUp _, h.sendUp _]

theorem handleMove (h : Calm s₀ s) (a p m : Byte) : Calm s₀ (Machine.handleMove a p m s) := by
  unfold Machine.handleMove; split
  exacts [h.claimAxis _ _, h.same (by rfl)]

theorem handleHalt (h : Calm s₀ s) (a m : Byte) : Calm s₀ (Machine.handleHalt a m s) := by
  unfold Machine.handleHalt; split
  exacts [h.haltAxis _ _, h.same (by rfl)]

theorem handleJog (h : Calm s₀ s) (a : Byte) (x y : Word) : Calm s₀ (Machine.handleJog a x y s) := by
  unfold Machine.handleJog; split
  exacts [h.claimAxis _ _, h.same (by rfl)]

theorem handleAck (h : Calm s₀ s) (i g : Byte) : Calm s₀ (Machine.handleAck i g s) := by
  have acked : ∀ l, Calm s₀ (growAlert .headEndAcks (Machine.acknowledgeAll l s)) := fun l =>
    ((h.acknowledgeAll l).same (by rfl))
  unfold Machine.handleAck; repeat' split
  exacts [h.same (by rfl), acked _, h.same (by rfl)]

theorem handleVerdict (h : Calm s₀ s) (e n v : Byte) : Calm s₀ (Machine.handleVerdict e n v s) := by
  unfold Machine.handleVerdict; split
  exacts [h.takeVerdict _ _ _, h.same (by rfl)]

theorem handleOutput (h : Calm s₀ s) (st x l v : Byte) : Calm s₀ (Machine.handleOutput st x l v s) := by
  unfold Machine.handleOutput; repeat' split
  exacts [h.same (by rfl), h.same (by rfl), h.writeCue _ _, h.same (by rfl)]

theorem discardFrame (h : Calm s₀ s) (l : List Byte) : Calm s₀ (Machine.discardFrame l s) := by
  unfold Machine.discardFrame; split
  exacts [h.same (by rfl), h]

theorem sendHead (h : Calm s₀ s) : Calm s₀ (Machine.sendHead s) := by
  unfold Machine.sendHead; split
  exacts [h, h.same (by rfl)]

/-! ### Events inside the part -/

theorem eventDwellEnd (h : Calm s₀ s) (a : Fin 8) : Calm s₀ (Machine.eventDwellEnd a s) := by
  unfold Machine.eventDwellEnd; dsimp only; split
  exacts [h.stepAxis a, h]

theorem eventGuardSettle (h : Calm s₀ s) (a : Fin 8) : Calm s₀ (Machine.eventGuardSettle a s) := by
  unfold Machine.eventGuardSettle; dsimp only; split
  exacts [h.stepAxis a, h]

theorem eventQueryTimeout (h : Calm s₀ s) : Calm s₀ (Machine.eventQueryTimeout s) := by
  unfold Machine.eventQueryTimeout; repeat' split
  exacts [h.endQuery _ _, h, h]

theorem eventChainFaultLoop (h : Calm s₀ s) (e : Fin 16) : Calm s₀ (Machine.eventChainFaultLoop e s) := by
  unfold Machine.eventChainFaultLoop; split
  exacts [h.chainFault e _, h]

theorem eventCrowding (h : Calm s₀ s) (e : Fin 16) : Calm s₀ (Machine.eventCrowding e s) := by
  unfold Machine.eventCrowding; dsimp only; split
  exacts [h.raiseCrowding e, h]

theorem eventGuardHeld (h : Calm s₀ s) (a : Fin 8) : Calm s₀ (Machine.eventGuardHeld a s) := by
  unfold Machine.eventGuardHeld; dsimp only; split
  exacts [(h.modAxis a _).raiseGuardHeld a, h]

theorem eventClaimTimeout (h : Calm s₀ s) (a : Fin 8) (c : Claimant) : Calm s₀ (Machine.eventClaimTimeout a c s) := by
  unfold Machine.eventClaimTimeout; repeat' split
  exacts [(h.modAxis a _).timeOutClaim a c, h, h]

theorem eventCooldownEnd (h : Calm s₀ s) (e : Fin 16) : Calm s₀ (Machine.eventCooldownEnd e s) := by
  unfold Machine.eventCooldownEnd; split
  · exact (h.modExhibit e _ rfl rfl (by simp [queuedRows, Function.comp_def, QueueEntry.aged])).cooldownOver e
  · exact h

theorem eventWaitTicksEnd (h : Calm s₀ s) (e : Fin 16) : Calm s₀ (Machine.eventWaitTicksEnd e s) := by
  unfold Machine.eventWaitTicksEnd; split
  exacts [(h.modRunner e _).endWait e, h]

theorem eventReferralTimeout (h : Calm s₀ s) (e : Fin 16) : Calm s₀ (Machine.eventReferralTimeout e s) := by
  unfold Machine.eventReferralTimeout; split
  exacts [(h.modRunner e _).timeOutReferral e, h]

theorem eventQuietExpiry (h : Calm s₀ s) : Calm s₀ (Machine.eventQuietExpiry s) := by
  unfold Machine.eventQuietExpiry; split
  exacts [(h.same (by rfl)).expireQuiet, h]

theorem eventIdleExpiry (h : Calm s₀ s) (e : Fin 16) : Calm s₀ (Machine.eventIdleExpiry e s) := by
  unfold Machine.eventIdleExpiry; split
  exacts [h.expireIdle e, h]

theorem eventCueFire (h : Calm s₀ s) (e : Fin 16) (d : Word) : Calm s₀ (Machine.eventCueFire e d s) := by
  unfold Machine.eventCueFire; repeat' split
  exacts [(h.same (by rfl)).runCue _, h, h]

end Sys2Proof.Machine.Calm
end

section
/-! Changes of mode, and a held set that reaches the exhibits (R44 to R47). -/

namespace Sys2Proof.Machine

variable {s₀ s t : Gx24}

/-- A change of mode is the new mode, and then nothing that is not calm. -/
theorem calm_changeMode (e : Fin 16) (m : Mode) (s : Gx24) :
    Calm (modExhibit e (fun x => { x with mode := m }) s) (changeMode e m s) := by
  have shown : Calm (modExhibit e (fun x => { x with mode := m }) s) (showMode e (clearStories e
      (modExhibit e (fun x => { x with mode := m }) s))) := ((Calm.refl _).clearStories e).showMode e
  unfold changeMode; dsimp only; split
  exacts [shown.render, shown]

theorem heldStep_changeMode (e : Fin 16) (m : Mode) (s : Gx24) : HeldStep s (changeMode e m s) :=
  (HeldStep.same (s := s) (t := modExhibit e (fun x => { x with mode := m }) s) rfl rfl).trans
    (calm_changeMode e m s).toHeldStep

theorem changeMode_mode (e e' : Fin 16) (m : Mode) (s : Gx24) :
    (exhibitOf e' (changeMode e m s)).mode = if e = e' then m else (exhibitOf e' s).mode := by
  rw [(calm_changeMode e m s).mode, exhibitOf_modExhibit]; split <;> rfl

theorem changeMode_record (e e' : Fin 16) (m : Mode) (s : Gx24) :
    (exhibitOf e' (changeMode e m s)).record = (exhibitOf e' s).record := by
  rw [(calm_changeMode e m s).record, exhibitOf_modExhibit]; split
  · rename_i h; subst h; rfl
  · rfl

theorem changeMode_queue (e e' : Fin 16) (m : Mode) (s : Gx24) :
    (queuedRows e' (changeMode e m s)).Sublist (queuedRows e' s) := by
  have same : queuedRows e' (modExhibit e (fun x => { x with mode := m }) s) = queuedRows e' s := by
    unfold queuedRows; rw [exhibitOf_modExhibit]; split
    · rename_i h; subst h; rfl
    · rfl
  exact same ▸ (calm_changeMode e m s).queue e'

/-! ### The law of the press queues (R45, R47, R51) -/

/-- The presses that wait at the exhibit fit its depth, are of different rows, and wait at a PUBLIC exhibit alone. -/
structure QueueFits (e : Fin 16) (s : Gx24) : Prop where
  depth : (queuedRows e s).length ≤ (exhibitOf e s).record.depth
  distinct : (queuedRows e s).Nodup
  closed : (exhibitOf e s).mode ≠ .pub → queuedRows e s = []

theorem queueLaw_iff : QueueLaw s ↔ ∀ e, QueueFits e s := by
  have nil : ∀ e, queuedRows e s = [] ↔ (exhibitOf e s).queue = [] := fun e => List.map_eq_nil_iff
  refine forall_congr' fun e => ⟨fun ⟨hd, hn, hc⟩ => ⟨by simpa [queuedRows] using hd, hn,
    fun hm => (nil e).mpr (hc hm)⟩,
    fun ⟨hd, hn, hc⟩ => ⟨by simpa [queuedRows] using hd, hn, fun hm => (nil e).mp (hc hm)⟩⟩

/-- A queue that loses presses at an exhibit of the same record and mode fits still. -/
theorem QueueFits.sublist {e : Fin 16} (h : QueueFits e s) (hr : (exhibitOf e t).record = (exhibitOf e s).record)
    (hm : (exhibitOf e t).mode = (exhibitOf e s).mode) (hq : (queuedRows e t).Sublist (queuedRows e s)) : QueueFits e t :=
  ⟨hr ▸ hq.length_le.trans h.depth, hq.nodup h.distinct, fun hn => by
    have := hq; rw [h.closed (hm ▸ hn)] at this; exact List.sublist_nil.mp this⟩

/-- An empty queue fits. -/
theorem QueueFits.empty {e : Fin 16} (h : queuedRows e s = []) : QueueFits e s :=
  ⟨by simp [h], by simp [h], fun _ => h⟩

theorem QueueLaw.calm (h : QueueLaw s) (k : Calm s t) : QueueLaw t :=
  queueLaw_iff.mpr fun e => (queueLaw_iff.mp h e).sublist (k.record e) (k.mode e) (k.queue e)

/-- A mode that is PUBLIC, or that finds the queue empty, keeps the law of the queues. -/
theorem QueueLaw.changeMode (h : QueueLaw s) (e : Fin 16) (m : Mode) (hq : m = .pub ∨ queuedRows e s = []) :
    QueueLaw (changeMode e m s) := by
  refine queueLaw_iff.mpr fun e' => ?_
  have fits := queueLaw_iff.mp h e'
  have hs := changeMode_queue e e' m s
  have hm := changeMode_mode e e' m s
  by_cases he : e = e'
  · subst he
    rw [if_pos rfl] at hm
    refine ⟨by rw [changeMode_record]; exact hs.length_le.trans fits.depth, hs.nodup fits.distinct, fun hn => ?_⟩
    rcases hq with hp | hq
    · exact absurd (hm.trans hp) hn
    · rw [hq] at hs; exact List.sublist_nil.mp hs
  · rw [if_neg he] at hm
    exact fits.sublist (changeMode_record e e' m s) hm hs

/-! ### A new held set (R46, R47) -/

theorem queuedRows_clearQueue (e : Fin 16) (s : Gx24) : queuedRows e (clearQueue e s) = [] := by
  simp [queuedRows, clearQueue]

/-- Nothing that is calm puts a press into an empty queue. -/
theorem Calm.queue_empty (k : Calm s t) {e : Fin 16} (h : queuedRows e s = []) : queuedRows e t = [] := by
  have := k.queue e; rw [h] at this; exact List.sublist_nil.mp this

/-- What a PUBLIC exhibit does before it becomes HELD: its queue and cooldown end, and a chain that no attendant runs is
aborted (R47). -/
def heldEntered (e : Fin 16) (s : Gx24) : Gx24 :=
  let s := endCooldown e (clearQueue e s)
  if (grantOrigin e s).isSome ∧ grantOrigin e s ≠ some .attendant then vacate e s else s

/-- Entering HELD is these effects, the change of mode, and the idle timer's reload. -/
theorem enterHeld_eq (e : Fin 16) (s : Gx24) : enterHeld e s = reloadIdle e (changeMode e .held (heldEntered e s)) := rfl

theorem calm_heldEntered (e : Fin 16) (s : Gx24) : Calm s (heldEntered e s) := by
  have h := ((Calm.refl s).clearQueue e).endCooldown e
  unfold heldEntered; dsimp only; split
  exacts [h.vacate e, h]

theorem queuedRows_heldEntered (e : Fin 16) (s : Gx24) : queuedRows e (heldEntered e s) = [] := by
  have h := (Calm.refl (clearQueue e s)).endCooldown e
  have empty := queuedRows_clearQueue e s
  unfold heldEntered; dsimp only; split
  exacts [(h.vacate e).queue_empty empty, h.queue_empty empty]

theorem heldStep_applyHold (set : ExhibitSet) (e : Fin 16) (h : HeldStep s₀ s) : HeldStep s₀ (applyHold set e s) := by
  have enter : HeldStep s (enterHeld e s) := by
    rw [enterHeld_eq]
    exact ((calm_heldEntered e s).toHeldStep.trans (heldStep_changeMode e .held _)).trans (.same rfl rfl)
  have leave : HeldStep s (leaveHeld e s) := (heldStep_changeMode e .pub s).trans (.same rfl rfl)
  unfold applyHold; repeat' split
  exacts [h.trans enter, h, h, h.trans leave, h, h]

theorem queueLaw_applyHold (set : ExhibitSet) (e : Fin 16) (h : QueueLaw s) : QueueLaw (applyHold set e s) := by
  unfold applyHold; repeat' split
  · exact (h.calm (calm_heldEntered e s)).changeMode e .held (.inr (queuedRows_heldEntered e s))
  · exact h
  · exact h
  · exact h.changeMode e .pub (.inl rfl)
  · exact h
  · exact h

theorem heldStep_applyHeld (set : ExhibitSet) (s : Gx24) : HeldStep s (applyHeld set s) :=
  forRows_keeps (P := HeldStep s) (fun e _ h => heldStep_applyHold set e h) (.refl s)

theorem queueLaw_applyHeld (set : ExhibitSet) (h : QueueLaw s) : QueueLaw (applyHeld set s) :=
  forRows_keeps (P := QueueLaw) (fun e _ h => queueLaw_applyHold set e h) h

theorem deliver_held (set : ExhibitSet) (s : Gx24) : deliver (.held set) s = applyHeld set s := rfl

/-- The mode that an exhibit of mode `m` has once a held set has reached it, which names it or not (R47). -/
def heldMode (named : Bool) (m : Mode) : Mode :=
  match m with
  | .pub => if named then .held else .pub
  | .held => if named then .held else .pub
  | .service => .service
  | .dark => .dark

/-- A held set moves the exhibit that it is applied to and no other. -/
theorem applyHold_mode (set : ExhibitSet) (e e' : Fin 16) (s : Gx24) : (exhibitOf e' (applyHold set e s)).mode =
    if e = e' then heldMode (tget set e) (exhibitOf e s).mode else (exhibitOf e' s).mode := by
  have enter : (exhibitOf e' (enterHeld e s)).mode = if e = e' then .held else (exhibitOf e' s).mode := by
    show (exhibitOf e' (changeMode e .held (heldEntered e s))).mode = _
    rw [changeMode_mode, (calm_heldEntered e s).mode]
  have leave : (exhibitOf e' (leaveHeld e s)).mode = if e = e' then .pub else (exhibitOf e' s).mode :=
    changeMode_mode e e' .pub s
  have stay : ∀ m, (exhibitOf e s).mode = m → (exhibitOf e' s).mode = if e = e' then m else (exhibitOf e' s).mode :=
    fun m hm => by split <;> simp_all
  cases hm : (exhibitOf e s).mode with
  | pub =>
    simp only [applyHold, hm, heldMode]
    cases tget set e
    exacts [stay _ hm, enter]
  | held =>
    simp only [applyHold, hm, heldMode]
    cases tget set e
    exacts [leave, stay _ hm]
  | dark => simp only [applyHold, hm, heldMode]; exact stay _ hm
  | service => simp only [applyHold, hm, heldMode]; exact stay _ hm

/-- A walk over exhibits in which each step moves the mode of its own exhibit alone moves each once. -/
theorem forList_modes {f : Fin 16 → Gx24 → Gx24} {g : Fin 16 → Mode → Mode}
    (hf : ∀ e e' s, (exhibitOf e' (f e s)).mode = if e = e' then g e (exhibitOf e s).mode else (exhibitOf e' s).mode)
    {l : List (Fin 16)} (hl : l.Nodup) (e : Fin 16) (s : Gx24) :
    (exhibitOf e (forList l f s)).mode = if e ∈ l then g e (exhibitOf e s).mode else (exhibitOf e s).mode := by
  induction l generalizing s with
  | nil => rfl
  | cons x l ih =>
    obtain ⟨hx, hl⟩ := List.nodup_cons.mp hl
    rw [forList_cons, ih hl, hf]
    by_cases he : x = e
    · subst he; simp [hx]
    · simp [he, Ne.symm he]

/-- A held set that has reached the exhibits: each has the mode it gives, and no other. -/
theorem applyHeld_mode (set : ExhibitSet) (e : Fin 16) (s : Gx24) :
    (exhibitOf e (applyHeld set s)).mode = heldMode (tget set e) (exhibitOf e s).mode := by
  have h := forList_modes (applyHold_mode set) (List.nodup_finRange 16) e s
  rwa [if_pos (List.mem_finRange e)] at h

/-- Once a held set has reached the exhibits, those of them that are open are HELD exactly when it names them. -/
theorem heldMode_agrees (named : Bool) (m : Mode) (h : heldMode named m = .pub ∨ heldMode named m = .held) :
    heldMode named m = .held ↔ named = true := by
  cases named <;> cases m <;> simp_all [heldMode]

/-! ### The next held set in flight is the first given (R46) -/

theorem heldsIn_firstHeld (ws : List Work) : heldsIn (firstHeld ws true) = [] ∧
    heldsIn (firstHeld ws false) = (heldsIn ws).take 1 := by
  induction ws with
  | nil => exact ⟨rfl, rfl⟩
  | cons w ws ih =>
    obtain ⟨hTrue, hFalse⟩ := ih
    cases w with
    | held x => exact ⟨hTrue, congrArg (Work.held x :: ·) hTrue⟩
    | _ => exact ⟨hTrue, hFalse⟩

/-- The held set that may be taken next stands before every other in flight. -/
theorem heldsIn_of_next {ws : List Work} {x : ExhibitSet} (h : .held x ∈ nextNotices ws) :
    heldsIn ws = .held x :: heldsIn (ws.erase (.held x)) := by
  have first : (.held x : Work) ∈ heldsIn (firstHeld ws false) :=
    List.mem_filter.mpr ⟨(List.mem_filter.mp h).1, rfl⟩
  rw [(heldsIn_firstHeld ws).2] at first
  have rest : heldsIn (ws.erase (.held x)) = (heldsIn ws).erase (.held x) := by
    rw [heldsIn, heldsIn, List.erase_filter]
  cases hw : heldsIn ws with
  | nil => rw [hw] at first; cases first
  | cons w vs =>
    rw [hw] at first rest
    obtain rfl : w = .held x := by simpa [eq_comm] using first
    rw [rest, List.erase_cons_head]

theorem heldsIn_erase (ws : List Work) {w : Work} (h : w.isHeld = false) : heldsIn (ws.erase w) = heldsIn ws := by
  rw [heldsIn, ← List.erase_filter]
  exact List.erase_of_not_mem fun hm => by simp [h] at hm

end Sys2Proof.Machine
end

section
/-! What every command keeps of the press queues and of the held exhibits: `Lawful`, which every calm step is. -/

namespace Sys2Proof.Machine

/-- The step keeps the law of the press queues and that of the held exhibits. -/
structure Lawful (s t : Gx24) : Prop where
  queue : QueueLaw s → QueueLaw t
  held : HeldLaw s → HeldLaw t

/-- An exhibit that keeps its mode agrees as before with the same held set. -/
theorem HoldAgrees.congr {e : Fin 16} {s t : Gx24} (h : HoldAgrees e s) (hm : (exhibitOf e t).mode = (exhibitOf e s).mode)
    (hg : t.au.heldGiven = s.au.heldGiven) : HoldAgrees e t := by
  unfold HoldAgrees at h ⊢; rw [hm, hg]; exact h

theorem HeldLaw.calm {s t : Gx24} (h : HeldLaw s) (k : Calm s t) : HeldLaw t :=
  h.step k.toHeldStep fun hg ha e => (ha e).congr (k.mode e) hg

theorem Calm.lawful {s t : Gx24} (k : Calm s t) : Lawful s t := ⟨fun h => h.calm k, fun h => h.calm k⟩

namespace Lawful

variable {s₀ s t : Gx24}

theorem refl (s : Gx24) : Lawful s s := ⟨id, id⟩

theorem trans (h : Lawful s₀ s) (k : Lawful s t) : Lawful s₀ t := ⟨k.queue ∘ h.queue, k.held ∘ h.held⟩

theorem calm (h : Lawful s₀ s) (k : Calm s t) : Lawful s₀ t := h.trans k.lawful

/-- A mode keeps both laws when it leaves no press behind outside PUBLIC and agrees with the held set that stands. -/
theorem changeMode (e : Fin 16) (m : Mode) (hq : QueueLaw s → m = .pub ∨ queuedRows e s = [])
    (hm : m = .pub ∨ m = .held → (m = .held ↔ tget (currentHeld s) e = true)) : Lawful s (Machine.changeMode e m s) := by
  refine ⟨fun h => h.changeMode e m (hq h), fun h => ?_⟩
  have given : currentHeld s = s.au.heldGiven := (heldLaw_iff.mp h).1
  refine h.step (heldStep_changeMode e m s) fun hg ha e' => ?_
  by_cases he : e = e'
  · subst he
    unfold HoldAgrees
    rw [changeMode_mode, if_pos rfl, hg, ← given]
    exact hm
  · exact (ha e').congr (by rw [changeMode_mode, if_neg he]) hg

/-! ### Notices (assumption 2) -/

/-- A held set that may be taken next keeps both laws when it is taken: the last in flight is the one that stands. -/
theorem takeHeld {x : ExhibitSet} (hx : .held x ∈ nextNotices s.work) (he : t.exhibits = s.exhibits) (ha : t.au = s.au)
    (hw : t.work = s.work.erase (.held x)) : Lawful s (deliver (.held x) t) := by
  rw [deliver_held]
  have step := heldStep_applyHeld x t
  constructor
  · intro h
    have ht : QueueLaw t := fun e => by rw [exhibitOf_congr he]; exact h e
    exact queueLaw_applyHeld x ht
  · intro h
    obtain ⟨given, first, last, -⟩ := heldLaw_iff.mp h
    have next := heldsIn_of_next hx
    rw [← hw] at next
    have firstT : HeldsFirst t.work := hw ▸ first.sublist List.erase_sublist
    have givenT : t.HoldsGiven := by
      show currentHeld t = _; rw [currentHeld_congr (congrArg _ ha) (congrArg _ ha), ha]; exact given
    refine heldLaw_iff.mpr ⟨step.given givenT, step.ordered firstT, ?_⟩
    rcases step.flight firstT with ⟨sameW, sameG⟩ | hl
    · rw [sameW, sameG, ha]
      rw [next] at last
      refine ⟨fun w hwl => last w ?_, fun hn e => ?_⟩
      · rw [List.getLast?_cons, hwl]; rfl
      · rw [hn] at last
        have hset : x = s.au.heldGiven := by simpa using last _ rfl
        unfold HoldAgrees
        rw [sameG, ha, ← hset, applyHeld_mode]
        exact heldMode_agrees _ _
    · refine ⟨fun w hwl => ?_, fun hn => ?_⟩
      · rw [hl] at hwl; exact (Option.some.inj hwl).symm
      · rw [hn] at hl; cases hl

theorem deliverOne (h : Lawful s₀ s) : Lawful s₀ (Machine.deliverOne s) := by
  obtain ⟨cs, n, he, hm⟩ := chooseNotice_spec (nextNotices s.work) s
  unfold Machine.deliverOne
  split <;> rename_i hc <;> rw [hc] at he hm
  · rename_i w t
    obtain rfl : t = { s with choices := cs, choicePoint := n } := he
    cases hh : w.isHeld with
    | true =>
      obtain ⟨x, rfl⟩ : ∃ x, w = .held x := by cases w <;> first | exact ⟨_, rfl⟩ | cases hh
      exact h.trans (takeHeld (hm _ rfl) rfl rfl rfl)
    | false =>
      have taken : Calm s { s with choices := cs, choicePoint := n, work := s.work.erase w } :=
        .ofHeld ⟨id, fun ho => ho.sublist List.erase_sublist, fun _ => .inl ⟨heldsIn_erase _ hh, rfl⟩⟩ rfl
      exact h.calm (taken.deliver w hh)
  · obtain rfl := he
    exact h.calm ((Calm.refl s).same (by rfl))

theorem settle (h : Lawful s₀ s) : Lawful s₀ (Machine.settle s) := by
  suffices ∀ n s, Lawful s₀ s → Lawful s₀ (settleWith n s) from this _ _ h
  intro n
  induction n with
  | zero => exact fun _ h => h
  | succ n ih =>
    intro s h
    unfold settleWith; split
    exacts [h, ih _ h.deliverOne]

theorem settleSome (h : Lawful s₀ s) : Lawful s₀ (Machine.settleSome s) := by
  suffices ∀ n s, Lawful s₀ s → Lawful s₀ (settleSomeWith n s) from this _ _ h
  intro n
  induction n with
  | zero => exact fun _ h => h
  | succ n ih =>
    intro s h
    have choose : Lawful s₀ (openChoice s).2 := by
      unfold openChoice; split
      exacts [h.calm ((Calm.refl s).same (by rfl)), h.calm ((Calm.refl s).same (by rfl))]
    unfold settleSomeWith; dsimp only; repeat' split
    exacts [h, choose, ih _ choose.deliverOne, ih _ h.deliverOne]

/-! ### Presses (chapters 2 and 3) -/

/-- A press queued at a PUBLIC exhibit, of a row not yet queued, where there is room (R51). -/
theorem queueVisitor (e : Fin 16) (r : Fin 128) (i : Fin 24 × Fin 8) (hm : (exhibitOf e s).mode = .pub) :
    Lawful s (Machine.queueVisitor e r i s) := by
  unfold Machine.queueVisitor; dsimp only; repeat' split
  · exact ((Calm.refl s).growExhibit e _ _ |>.advanceFlood e).lawful
  · rename_i hnew hroom
    have fresh : r ∉ queuedRows e s := by simpa [queuedRows] using hnew
    refine Lawful.calm ⟨fun h => queueLaw_iff.mpr fun e' => ?_, fun h => ?_⟩
      (((Calm.refl (modExhibit e (fun x => { x with queue := x.queue ++ [⟨r, i.1, i.2, s.gc.tick, 0⟩] }) s)).growExhibit
        e _ _).maskEvent e _)
    · have fits := queueLaw_iff.mp h e'
      by_cases he : e = e'
      · subst he
        refine ⟨?_, ?_, fun hn => absurd ?_ hn⟩
        · simpa [queuedRows] using hroom
        · have := fits.distinct
          simp only [queuedRows, exhibitOf_modExhibit_same, List.map_append, List.map_cons, List.map_nil] at this fresh ⊢
          exact List.Nodup.append this (List.nodup_singleton _) (by simpa using fresh)
        · rw [exhibitOf_modExhibit_same]; exact hm
      · have same : exhibitOf e' (modExhibit e (fun x => { x with queue := x.queue ++ [⟨r, i.1, i.2, s.gc.tick, 0⟩] }) s) =
            exhibitOf e' s := by rw [exhibitOf_modExhibit, if_neg he]
        exact fits.sublist (by rw [same]) (by rw [same]) (by unfold queuedRows; rw [same])
    · refine h.step (.same rfl rfl) fun hg ha e' => (ha e').congr ?_ hg
      rw [exhibitOf_modExhibit]; split
      · rename_i he; subst he; rfl
      · rfl
  · exact ((Calm.refl s).growExhibit e _ _ |>.advanceFlood e).lawful

theorem visitorRequest (e : Fin 16) (r : Fin 128) (i : Fin 24 × Fin 8) (hm : (exhibitOf e s).mode = .pub) :
    Lawful s (Machine.visitorRequest e r i s) := by
  unfold Machine.visitorRequest; repeat' split
  exacts [((Calm.refl s).startVisitor e _ _ _ |>.maskEvent e _).lawful,
    (((Calm.refl s).abortChain e).startVisitor e _ _ _ |>.maskEvent e _).lawful, queueVisitor e r i hm]

/-- The exhibit is PUBLIC or HELD. -/
abbrev Open (e : Fin 16) (s : Gx24) : Prop := (exhibitOf e s).mode = .pub ∨ (exhibitOf e s).mode = .held

theorem pressVisitor (e : Fin 16) (r : Fin 128) (i : Fin 24 × Fin 8) (hm : Open e s) :
    Lawful s (Machine.pressVisitor e r i s) := by
  unfold Machine.pressVisitor; split
  · exact ((Calm.refl s).growExhibit e _ _).lawful
  · rename_i hn; exact visitorRequest e r i (hm.resolve_right hn)

theorem pressOpen (e : Fin 16) (r : Fin 128) (c : RowClass) (i : Fin 24 × Fin 8) (hm : Open e s) :
    Lawful s (Machine.pressOpen e r c i s) := by
  have raised := (Calm.refl s).raise (keyExhibit clsHelp .none e)
  have turned := (Calm.refl s).turnKey e
  have hmR : Open e (Machine.raise (keyExhibit clsHelp .none e) s) := by unfold Open; rw [raised.mode]; exact hm
  unfold Machine.pressOpen pressAttendant pressHelp; dsimp only; repeat' split
  exacts [(turned.attendantRequest e r i).lawful, turned.lawful, ((Calm.refl s).growExhibit e _ _).lawful,
    pressVisitor e r i hm, ((Calm.refl s).growExhibit e _ _).lawful, raised.lawful.trans (pressVisitor e r i hmR),
    raised.lawful]

theorem dispatchPublic (e : Fin 16) (r : Fin 128) (t : TriggerRow) (st : Fin 24) (i : Fin 8) (g : Edge) (hm : Open e s) :
    Lawful s (Machine.dispatchPublic e r t st i g s) := by
  have noticed := (Calm.refl s).pressNotice e (decide (t.cls ≠ .attendant))
  unfold Machine.dispatchPublic; dsimp only; split
  · exact (noticed.holdRelease e r).lawful
  · refine noticed.lawful.trans (pressOpen e r _ _ ?_)
    unfold Open; rw [noticed.mode]; exact hm

theorem inputEvent (st : Fin 24) (i : Fin 8) (g : Edge) : Lawful s (Machine.inputEvent st i g s) := by
  have service : ∀ e t, Lawful s (pressService e t st i g s) := fun e t => by
    unfold pressService; repeat' split
    exacts [.refl s, ((Calm.refl s).turnKey e).lawful, ((Calm.refl s).sendUp _).lawful]
  unfold Machine.inputEvent; dsimp only; split
  · exact ((Calm.refl s).unmappedEvent _ _ _).lawful
  · split
    · exact ((Calm.refl s).unmappedEvent _ _ _).lawful
    · split
      · unfold dispatch; split <;> rename_i hm
        exacts [((Calm.refl s).growExhibit _ _ _).lawful, service _ _, dispatchPublic _ _ _ _ _ _ (.inl hm),
          dispatchPublic _ _ _ _ _ _ (.inr hm)]
      · exact .refl s

/-! ### Modes and records (chapter 3) -/

theorem leavePublic (e : Fin 16) (m : Mode) (hm : m ≠ .pub ∧ m ≠ .held) : Lawful s (Machine.leavePublic e m s) := by
  have left := ((Calm.refl (clearQueue e s)).endCooldown e).vacate e
  refine Lawful.calm (((Calm.refl s).clearQueue e).trans left |>.lawful.trans
    (changeMode e m (fun _ => .inr (left.queue_empty (queuedRows_clearQueue e s))) ?_)) ((Calm.refl _).reloadIdle e)
  rintro (h | h)
  exacts [absurd h hm.1, absurd h hm.2]

/-- An exhibit that leaves DARK or SERVICE is HELD exactly when the held set that stands names it (R44). -/
theorem goPublic (e : Fin 16) (hn : (exhibitOf e s).mode ≠ .pub) : Lawful s (Machine.goPublic e s) := by
  have begun := (Calm.refl s).touchExhibit e (fun x => { x with flood := 0, activity := .idle }) (by rfl)
  unfold Machine.goPublic; dsimp only
  refine Lawful.calm (begun.lawful.trans (changeMode e _ (fun h => .inr ?_) fun _ => ?_)) ((Calm.refl _).reloadIdle e)
  · exact (queueLaw_iff.mp h e).closed (by rw [begun.mode]; exact hn)
  · show _ ↔ tget (currentHeld s) e = true
    split <;> simp_all

theorem setMode (e : Fin 16) (m : Mode) : Lawful s (Machine.setMode e m s).2.2 := by
  have closed : ∀ m, m ≠ .pub ∧ m ≠ .held → Lawful s (modeClosed e m s).2.2 := fun m hm => by
    unfold modeClosed; dsimp only; repeat' split
    · exact .refl s
    · exact leavePublic e m hm
    · rename_i hn
      refine changeMode e m (fun h => .inr ((queueLaw_iff.mp h e).closed fun hp => hn (.inl hp))) ?_
      rintro (h | h)
      exacts [absurd h hm.1, absurd h hm.2]
  unfold Machine.setMode; split
  · exact .refl s
  · unfold modePublic; repeat' split
    · exact .refl s
    · exact .refl s
    · rename_i hn _ _; exact goPublic e fun hp => hn (.inr hp)
  · exact closed .dark ⟨nofun, nofun⟩
  · exact closed .service ⟨nofun, nofun⟩

/-- A record is written only while no press can wait (R40). -/
theorem writeExhibitConfig (w : Word) (c : List Byte) : Lawful s (Machine.writeExhibitConfig w c s).2 := by
  unfold Machine.writeExhibitConfig; split
  · rename_i e new _ _
    have stored : inPublicUse (some e) s = false → Lawful s (modExhibit e (fun x => { x with record := new }) s) := by
      intro hu
      have hn : (exhibitOf e s).mode ≠ .pub := fun hp => by simp [inPublicUse, hp] at hu
      have modes : ∀ e', (exhibitOf e' (modExhibit e (fun x => { x with record := new }) s)).mode = (exhibitOf e' s).mode :=
        fun e' => by
          rw [exhibitOf_modExhibit]; split
          · rename_i he; subst he; rfl
          · rfl
      refine ⟨fun h => queueLaw_iff.mpr fun e' => ?_, fun h => h.step (.same rfl rfl) 
        fun hg ha e' => (ha e').congr (modes e') hg⟩
      by_cases he : e = e'
      · subst he
        refine .empty ?_
        unfold queuedRows; rw [exhibitOf_modExhibit_same]
        exact (queueLaw_iff.mp h e).closed hn
      · have same : exhibitOf e' (modExhibit e (fun x => { x with record := new }) s) = exhibitOf e' s := by
          rw [exhibitOf_modExhibit, if_neg he]
        exact (queueLaw_iff.mp h e').sublist (by rw [same]) (by rw [same]) (by unfold queuedRows; rw [same])
    split
    · exact .refl s
    · rename_i hu
      have hl := stored (by simp only [Bool.or_eq_true, not_or, Bool.not_eq_true] at hu; exact hu.1)
      dsimp only; repeat' split
      exacts [.refl s, hl, hl.calm ((Calm.refl _).showMode e)]
  · exact .refl s

end Lawful

end Sys2Proof.Machine
end

section
/-! Every command keeps the laws of the press queues and of the held exhibits. -/

namespace Sys2Proof.Machine

variable {s₀ s t : Gx24}

/-- With no record, no press and every exhibit DARK or in SERVICE both laws hold. -/
theorem laws_of_cleared
    (hx : ∀ e, (exhibitOf e t).queue = [] ∧ (exhibitOf e t).mode ≠ .pub ∧ (exhibitOf e t).mode ≠ .held)
    (hr : ∀ i, recordAt i t = none) (ho : t.au.overflowHeld = noExhibits) (hg : t.au.heldGiven = noExhibits)
    (hw : t.work = []) : QueueLaw t ∧ HeldLaw t := by
  have held : currentHeld t = noExhibits := tbl_ext fun e => by
    have hn : tget noExhibits e = false := by simp [noExhibits, tget]
    simp [currentHeld, ho, hr, hn, anyRow_false]
  refine ⟨queueLaw_iff.mpr fun e => .empty ?_, heldLaw_iff.mpr ⟨held.trans hg.symm, ?_, ?_, fun _ e ho => ?_⟩⟩
  · unfold queuedRows; rw [(hx e).1]; rfl
  · rw [hw]; exact List.Pairwise.nil
  · rw [hw]; exact nofun
  · exact absurd ho (not_or.mpr (hx e).2)

theorem exhibitOf_coldBlocks (e : Fin 16) (n : Serial) (s : Gx24) : exhibitOf e (coldBlocks n s) = .cold := by
  simp [exhibitOf, coldBlocks, Gx24.cold, tget]

theorem recordAt_coldBlocks (i : Fin 64) (n : Serial) (s : Gx24) : recordAt i (coldBlocks n s) = none := by
  simp [recordAt, coldBlocks, Gx24.cold, Alerts.cold, tget]

/-- Both laws hold of a part whose exhibits, alerts and notices are those of a cold reset. -/
theorem laws_of_cold (n : Serial) (s : Gx24) (he : t.exhibits = (coldBlocks n s).exhibits) (ha : t.au = (coldBlocks n s).au)
    (hw : t.work = []) : QueueLaw t ∧ HeldLaw t := by
  refine laws_of_cleared (fun e => ?_) (fun i => ?_) (by rw [ha]; rfl) (by rw [ha]; rfl) hw
  · rw [exhibitOf_congr he, exhibitOf_coldBlocks]; exact ⟨rfl, nofun, nofun⟩
  · unfold recordAt; rw [ha]; exact recordAt_coldBlocks i n s

theorem laws_of_warm (s : Gx24) : QueueLaw (warmBlocks s) ∧ HeldLaw (warmBlocks s) := by
  obtain ⟨x, hx⟩ := warmBlocks_frame s
  rw [hx]
  refine laws_of_cleared (fun e => ?_) (fun i => ?_) rfl rfl rfl
  · have : ∀ y : Exhibit, y.warm.queue = [] ∧ y.warm.mode ≠ .pub ∧ y.warm.mode ≠ .held := fun y => by
      cases hm : y.mode <;> simp [Exhibit.warm, hm]
    show ((tget (tmake fun e => (exhibitOf e _).warm) e).queue = []) ∧ 
      (tget (tmake fun e => (exhibitOf e _).warm) e).mode ≠ _ ∧ (tget (tmake fun e => (exhibitOf e _).warm) e).mode ≠ _
    rw [tget_tmake]
    exact this _
  · show (tget (tmake fun i => (⟨_, none⟩ : AlertSlot)) i).record = none
    rw [tget_tmake]

namespace Lawful

theorem ofLaws (h : QueueLaw t ∧ HeldLaw t) : Lawful s₀ t := ⟨fun _ => h.1, fun _ => h.2⟩

/-! ### Resets (R187, R188) -/

theorem holdReset (s : Gx24) : Lawful s₀ (Machine.holdReset s) := .ofLaws (laws_of_cold s.tp.node s rfl rfl rfl)

theorem coldReset (n : Option Serial) (s : Gx24) : Lawful s₀ (Machine.coldReset n s) := by
  unfold Machine.coldReset; split
  · exact holdReset s
  · rename_i n
    have cold : Lawful s₀ (coldBlocks n s) := .ofLaws (laws_of_cold n s rfl rfl rfl)
    unfold releaseReset; dsimp only; split
    exacts [cold.calm ((Calm.refl (coldBlocks n s)).raise keyEstop).setPower, cold.calm (Calm.refl (coldBlocks n s)).setPower]

theorem manageReset (t : Byte) (b : List Byte) : Lawful s (Machine.manageReset t b s) := by
  unfold Machine.manageReset; split
  · have warm : Lawful s (replyPlain t opResetWarm .ok [] (warmBlocks s)) :=
      (ofLaws (laws_of_warm s)).calm ((Calm.refl _).sendUp _)
    exact warm.calm (Calm.refl _).raiseAgain
  · exact ((Calm.refl s).sendUp _).lawful

/-! ### Slots (chapter 1) -/

theorem takeEvent (h : Lawful s₀ s) (st : Fin 24) (ev : ReplyEvent) : Lawful s₀ (Machine.takeEvent st ev s) := by
  unfold Machine.takeEvent; dsimp only; split
  · exact h.calm ((Calm.refl s).same (by rfl))
  · exact ((h.calm (t := modStation st _ (growStation st _ _ s)) ((Calm.refl s).same (by rfl))).trans
      (inputEvent _ _ _)).settle

theorem takeReply (h : Lawful s₀ s) (w : Awaiting) (r : Reply) : Lawful s₀ (Machine.takeReply w r s) := by
  have tail : ∀ {t}, Calm s t → Lawful s₀ (Machine.settle (storeDrive w.station w.stepAxis r.drive
      (takeAnswer w.station w.query r.answer (storeCueReport w.station r.lastStarted r.playing
        (storeLevels w.station r.levels t))))) := fun c =>
    (h.calm ((((c.storeLevels _ _).storeCueReport _ _ _).takeAnswer _ _ _).storeDrive _ _ _)).settle
  have heard := (Calm.refl s).modStation w.station (fun x => { x with missCount := 0 })
  unfold Machine.takeReply; dsimp only
  generalize decide ((stationOf w.station s).state = .present) = present
  cases present <;> simp only [Bool.false_eq_true, if_true, if_false]
  · exact tail (heard.join _ _)
  · exact forList_keeps (P := Lawful s₀) (fun ev _ h => h.takeEvent _ ev) (tail heard)

theorem endSlot (h : Lawful s₀ s) (reply : Option (List Byte)) : Lawful s₀ (Machine.endSlot reply s) := by
  unfold Machine.endSlot; split
  · exact h
  · have h1 : Lawful s₀ { s with bs := { s.bs with awaiting := none } } := h.calm ((Calm.refl s).same (by rfl))
    unfold classify; repeat' split
    exacts [h1, h1.calm ((Calm.refl _).takeMiss _ _), h1.takeReply _ _, h1.calm ((Calm.refl _).takeMiss _ _)]

theorem nextSlotStart (s : Gx24) : Lawful s (Machine.nextSlotStart s) := by
  have ended := ((refl s).endSlot none).settle
  unfold Machine.nextSlotStart; dsimp only; split
  · exact ended.calm ((Calm.refl _).beginSlot _)
  · exact ended.calm ((Calm.refl _).startSweep.beginSlot 0)

theorem eventSweepStart (s : Gx24) : Lawful s (Machine.eventSweepStart s) := by
  have ended := ((refl s).endSlot none).settle
  unfold Machine.eventSweepStart; split
  exacts [ended.calm (Calm.refl _).startSweep, refl s]

theorem eventStationLost (st : Fin 24) (s : Gx24) : Lawful s (Machine.eventStationLost st s) := by
  unfold Machine.eventStationLost missAwaited; dsimp only; repeat' split
  exacts [((Calm.refl s).loseStation st).lawful, (refl s).endSlot none, refl s, refl s, refl s, refl s]

/-! ### The clock (chapter 9) -/

theorem fireInOrder (h : Lawful s₀ s) (dues : List Word) : Lawful s₀ (Machine.fireInOrder dues s) := by
  unfold Machine.fireInOrder; split
  · exact h
  · exact forList_keeps (P := Lawful s₀) (fun d _ h => h.settleSome.calm ((Calm.refl _).fireAt d))
      (h.calm ((Calm.refl s).fireAt _))

theorem fireJump (h : Lawful s₀ s) (old new : Word) : Lawful s₀ (Machine.fireJump old new s) := by
  unfold Machine.fireJump; dsimp only; repeat' split
  · exact fireInOrder (h.calm ((Calm.refl s).same (by rfl))) _
  · exact h.fireInOrder _
  · exact (h.settleSome.calm ((Calm.refl _).dropSkipped _ _)).fireInOrder _

theorem handleTick (n : Word) (c : Byte) (s : Gx24) : Lawful s (Machine.handleTick n c s) := by
  unfold Machine.handleTick; split
  · rename_i cmd _
    have given := (((Calm.refl s).lockClock.tickEvent n).giveCommand cmd).lawful
    unfold takeTick; dsimp only; split
    exacts [given.settle.calm (Calm.refl _).sendStatus, (given.fireJump _ _).settle.calm (Calm.refl _).sendStatus]
  · exact ((Calm.refl s).same (by rfl)).lawful

theorem localTick (h : Lawful s₀ s) : Lawful s₀ (Machine.localTick s) := by
  unfold Machine.localTick; exact (h.calm ((Calm.refl s).tickEvent _)).fireInOrder _

theorem enterIsland (s : Gx24) : Lawful s (Machine.enterIsland s) := by
  have island : Calm s { s with gc := { s.gc with state := .island, silence := islandSilence } } := (Calm.refl s).same (by rfl)
  exact ((island.raise keyTrunkLost).islandDefaults.lawful.settle).localTick

theorem localExpiry (s : Gx24) : Lawful s (Machine.localExpiry s) := by
  unfold Machine.localExpiry; repeat' split
  exacts [refl s, (refl s).localTick, enterIsland s, ((Calm.refl s).same (by rfl)).lawful]

theorem eventIslandEntry (s : Gx24) : Lawful s (Machine.eventIslandEntry s) := by
  unfold Machine.eventIslandEntry; split
  exacts [enterIsland s, refl s]

/-! ### Management (chapter 10) -/

theorem manageMode (t : Byte) (b : List Byte) (s : Gx24) : Lawful s (Machine.manageMode t b s) := by
  unfold Machine.manageMode; dsimp only; repeat' split
  exacts [(setMode _ _).calm ((Calm.refl _).sendUp _), ((Calm.refl s).sendUp _).lawful, ((Calm.refl s).sendUp _).lawful]

theorem replyWrite (t : Byte) (i : Nat) (w : Word) {r : ReplyCode × Gx24} (h : Lawful s r.2) :
    Lawful s (Machine.replyWrite t i w r) := h.calm ((Calm.refl _).sendUp _)

theorem ownerWrite (i : Nat) (w : Word) (c : List Byte) {r : ReplyCode × Gx24} (hr : ownerWrite i w c s = some r) :
    Lawful s r.2 := by
  have k := Calm.refl s
  unfold Machine.ownerWrite at hr
  split at hr <;> first | (cases hr; done) | (injection hr with hr; subst hr)
  exacts [(k.writeStationRow _ _).lawful, (k.writeSchedule _ _).lawful, (k.writeInputMap _ _).lawful,
    (k.writeTriggerRow _ _).lawful, (k.writeAction _ _).lawful, writeExhibitConfig _ _, (k.writeAxisParams _ _).lawful,
    (k.writeProgram _ _).lawful, (k.writeSegment _ _).lawful, (k.writeAlertClass _ _).lawful,
    (k.writeNeighbours _ _).lawful, (k.writeSettings _ _).lawful]

theorem writeTable (t : Byte) (b : List Byte) (s : Gx24) : Lawful s (Machine.writeTable t b s) := by
  have answered : ∀ f, Lawful s (sendUp f s) := fun f => ((Calm.refl s).sendUp f).lawful
  unfold Machine.writeTable; dsimp only; split
  · split
    · exact answered _
    · split
      · rename_i hr; exact replyWrite _ _ _ (ownerWrite _ _ _ hr)
      · exact answered _
  · exact answered _
  · exact answered _

/-! ### Every command -/

/-- What a command does to the part keeps the laws, whatever the level of RESET_N, and so does taking the notices it gave. -/
theorem actOr {held f : Gx24 → Gx24} {s t : State} (hl : ∀ p, Lawful p (held p)) (hf : ∀ p, Lawful p (f p))
    (ht : s.actOr held f = .next t) : Lawful s.part t.part := by
  rw [State.actOr_eq] at ht
  injection ht with ht
  subst ht
  dsimp only; split
  exacts [hl _, (hf _).settle]

theorem act {f : Gx24 → Gx24} {s t : State} (hf : ∀ p, Lawful p (f p)) (ht : s.act f = .next t) : Lawful s.part t.part :=
  actOr refl hf ht

theorem calmAct {f : Gx24 → Gx24} {s t : State} (hf : ∀ {p}, Calm p p → Calm p (f p)) (ht : s.act f = .next t) :
    Lawful s.part t.part := act (fun p => (hf (.refl p)).lawful) ht

theorem frame {f : Gx24 → Gx24} {s t : State} (hf : ∀ p, Lawful p (f p)) (ht : s.act (takeFrame f) = .next t) :
    Lawful s.part t.part := by
  refine act (fun p => ?_) ht
  unfold takeFrame; split
  · exact ((Calm.refl p).same (by rfl)).lawful
  · exact (Calm.lawful (t := growTrunk .framesTaken p) ((Calm.refl p).same (by rfl))).trans (hf _)

theorem calmFrame {f : Gx24 → Gx24} {s t : State} (hf : ∀ {p}, Calm p p → Calm p (f p))
    (ht : s.act (takeFrame f) = .next t) : Lawful s.part t.part := frame (fun p => (hf (.refl p)).lawful) ht

theorem written {f : Gx24 → ReplyCode × Gx24} {tag : Byte} {id : Nat} {row : Word} {s t : State}
    (hf : ∀ p, Lawful p (f p).2) (ht : s.act (takeFrame (fun p => Machine.replyWrite tag id row (f p))) = .next t) :
    Lawful s.part t.part := frame (fun p => replyWrite _ _ _ (hf p)) ht

theorem calmWritten {f : Gx24 → ReplyCode × Gx24} {tag : Byte} {id : Nat} {row : Word} {s t : State}
    (hf : ∀ {p}, Calm p p → Calm p (f p).2)
    (ht : s.act (takeFrame (fun p => Machine.replyWrite tag id row (f p))) = .next t) :
    Lawful s.part t.part := written (fun p => (hf (.refl p)).lawful) ht

theorem exec {i : Instr} {s t : State} (ht : exec i s = .next t) : Lawful s.part t.part := by
  cases i
  case coldReset n => exact actOr (fun p => (coldReset n p).settle) (fun p => coldReset n p) ht
  case estopAsserted => exact actOr (fun _ => holdReset _) (fun p => (Calm.refl p).assertEstop.lawful) ht
  case estopReleased => exact actOr (fun _ => holdReset _) (fun p => (Calm.refl p).releaseEstop.lawful) ht
  case sweepStart => exact act eventSweepStart ht
  case slotStart => exact act nextSlotStart ht
  case dwellEnd => exact calmAct (·.eventDwellEnd _) ht
  case guardSettle => exact calmAct (·.eventGuardSettle _) ht
  case slotEnd => exact act (fun p => (refl p).endSlot _) ht
  case stationLost => exact act (eventStationLost _) ht
  case queryTimeout => exact calmAct (·.eventQueryTimeout) ht
  case chainFaultLoop => exact calmAct (·.eventChainFaultLoop _) ht
  case crowding => exact calmAct (·.eventCrowding _) ht
  case guardHeld => exact calmAct (·.eventGuardHeld _) ht
  case claimTimeout => exact calmAct (·.eventClaimTimeout _ _) ht
  case escalation => exact calmAct (·.eventEscalation _) ht
  case cooldownEnd => exact calmAct (·.eventCooldownEnd _) ht
  case waitTicksEnd => exact calmAct (·.eventWaitTicksEnd _) ht
  case referralTimeout => exact calmAct (·.eventReferralTimeout _) ht
  case quietTimerExpiry => exact calmAct (·.eventQuietExpiry) ht
  case idleExpiry => exact calmAct (·.eventIdleExpiry _) ht
  case localTimerExpiry => exact act localExpiry ht
  case islandEntry => exact act eventIslandEntry ht
  case tick =>
    exact act (fun p => (Calm.lawful (t := growTrunk .framesTaken p) ((Calm.refl p).same (by rfl))).trans
      (handleTick _ _ _)) ht
  case cueFire => exact calmAct (·.eventCueFire _ _) ht
  case downFrameDiscarded => exact calmAct (·.discardFrame _) ht
  case cueFrame => exact calmFrame (·.takeCue _ _ _ _) ht
  case cueCancel => exact calmFrame (·.cancelCue _ _) ht
  case moveFrame => exact calmFrame (·.handleMove _ _ _) ht
  case halt => exact calmFrame (·.handleHalt _ _) ht
  case jog => exact calmFrame (·.handleJog _ _ _) ht
  case ackAlert => exact calmFrame (·.handleAck _ _) ht
  case verdict => exact calmFrame (·.handleVerdict _ _ _) ht
  case query => exact calmFrame (·.takeQuery _ _) ht
  case outputLamp => exact calmFrame (·.handleOutput _ _ _ _) ht
  case outputCue => exact calmFrame (·.handleOutput _ _ _ _) ht
  case tableRead => exact calmFrame (·.readTable _ _) ht
  case tableWrite => exact frame (writeTable _ _) ht
  case stationRowWrite => exact calmWritten (·.writeStationRow _ _) ht
  case sweepScheduleWrite => exact calmWritten (·.writeSchedule _ _) ht
  case inputMapWrite => exact calmWritten (·.writeInputMap _ _) ht
  case triggerRowWrite => exact calmWritten (·.writeTriggerRow _ _) ht
  case actionEntryWrite => exact calmWritten (·.writeAction _ _) ht
  case exhibitConfigWrite => exact written (fun _ => writeExhibitConfig _ _) ht
  case axisParameterWrite => exact calmWritten (·.writeAxisParams _ _) ht
  case programWrite => exact calmWritten (·.writeProgram _ _) ht
  case segmentWrite => exact calmWritten (·.writeSegment _ _) ht
  case alertClassWrite => exact calmWritten (·.writeAlertClass _ _) ht
  case zoneNeighbourWrite => exact calmWritten (·.writeNeighbours _ _) ht
  case settingsWrite => exact calmWritten (·.writeSettings _ _) ht
  case exhibitMode => exact frame (manageMode _ _) ht
  case axisEnable => exact calmFrame (·.manageAxis _ _) ht
  case axisDisable => exact calmFrame (·.manageAxis _ _) ht
  case snapshot => exact calmFrame (·.manageSnapshot _ _) ht
  case resetWarm => exact frame (fun _ => manageReset _ _) ht
  case clearCold => exact calmFrame (·.manageClearCold _ _) ht
  case upFrameSent => exact calmAct (·.sendHead) ht
  case mgmtUnknownOperation => exact calmFrame (·.sendUp _) ht

/-- A step keeps both laws. -/
theorem step {s t : State} (ht : step s = .next t) : Lawful s.part t.part := by
  unfold Machine.step at ht; split at ht
  · injection ht with ht; subst ht; exact (refl s.part).settle
  · rename_i c rest _; exact exec (s := { s with pending := rest }) ht

end Lawful

end Sys2Proof.Machine
end

section
open Sys2Proof Sys2Proof.Machine

/-- Settles O10: every step is lawful. -/
theorem pressQueuesStayWithinTheirDepth : Obligations.PressQueuesStayWithinTheirDepth :=
  fun _ _ h ht => (Lawful.step ht).queue h

/-- Settles O11: every step is lawful. -/
theorem heldExhibitsAreTheNamedOnes : Obligations.HeldExhibitsAreTheNamedOnes :=
  fun _ _ h ht => (Lawful.step ht).held h

/-- Settles O26: each exhibit is re-evaluated once, and none moves another's mode. -/
theorem heldSetMovesPublicAndHeld : Obligations.HeldSetMovesPublicAndHeld := fun p set e => by
  rw [deliver_held, applyHeld_mode]
  cases (exhibitOf e p).mode <;> rfl

end

section
/-! What a chain's start, abort and request make of the part, for an exhibit that owns no axis and claims none, and the form
of a command on a quiet part. -/

namespace Sys2Proof.Machine

variable {p s : Gx24} {f : Gx24 → Gx24}

/-! ### Tables -/

theorem tmod_eq_self {α : Type} {n : Nat} {t : Tbl n α} {i : Fin n} {f : α → α} (h : f (tget t i) = tget t i) :
    tmod t i f = t := by rw [tmod, h, tput_tget]

theorem tmod_tmod {α : Type} {n : Nat} (t : Tbl n α) (i : Fin n) (f g : α → α) :
    tmod (tmod t i f) i g = tmod t i (fun x => g (f x)) :=
  tbl_ext fun j => by simp only [tget_tmod]; split <;> simp

/-- Two changes of one exhibit are one. -/
theorem modExhibit_modExhibit (e : Fin 16) (f g : Exhibit → Exhibit) (s : Gx24) :
    modExhibit e g (modExhibit e f s) = modExhibit e (fun x => g (f x)) s := by
  unfold modExhibit; rw [tmod_tmod]

theorem modAxis_modAxis (a : Fin 8) (f g : Axis → Axis) (s : Gx24) :
    modAxis a g (modAxis a f s) = modAxis a (fun x => g (f x)) s := by
  unfold modAxis; rw [tmod_tmod]

theorem modAxis_eq_self {a : Fin 8} {f : Axis → Axis} (h : f (axisOf a s) = axisOf a s) : modAxis a f s = s := by
  unfold modAxis; rw [tmod_eq_self h]

/-! ### Commands on a quiet part -/

/-- With RESET_N released a command's outcome is its effect, every notice taken. -/
theorem Gx24.Quiet.runs (h : p.Quiet) (q : List Instr) (f : Gx24 → Gx24) :
    State.act f ⟨p, q⟩ = .next ⟨settle (f p), q⟩ := State.act_eq h.1

/-- A command that gives no notice is its effect. -/
theorem Gx24.Quiet.runs_still (h : p.Quiet) (q : List Instr) (hw : (f p).work = []) :
    State.act f ⟨p, q⟩ = .next ⟨f p, q⟩ := State.act_of_empty h.1 hw

/-- A command without effect changes nothing. -/
theorem Gx24.Quiet.unchanged (h : p.Quiet) (q : List Instr) (hf : f p = p) : State.act f ⟨p, q⟩ = .next ⟨p, q⟩ := by
  rw [h.runs_still q (by rw [hf]; exact h.2), hf]

/-- A frame for this part is counted and reaches its owner. -/
theorem Gx24.Quiet.takes (h : p.Quiet) (ha : p.Addressed) (q : List Instr) (f : Gx24 → Gx24) :
    State.act (takeFrame f) ⟨p, q⟩ = .next ⟨settle (f (growTrunk .framesTaken p)), q⟩ := by
  rw [h.runs, takeFrame_addressed ha]

/-! ### Aborts (R84) -/

theorem withdrawClaims_of_movesNothing {e : Fin 16} (h : s.MovesNothing e) : withdrawClaims e s = s :=
  forRows_id fun a => modAxis_eq_self <| by
    rw [List.filter_eq_self.mpr fun c hc => decide_eq_true ((h a).2 c hc)]

theorem haltOwned_of_movesNothing {e : Fin 16} (h : s.MovesNothing e) : haltOwned e s = s :=
  forRows_id fun a => by rw [(h a).1]; rfl

theorem abortChain_of_free {e : Fin 16} (h : (runnerOf e s).state = .free) : abortChain e s = s := if_pos h

/-- An abort that touches no axis frees the runner and is counted. -/
theorem abortChain_of_movesNothing {e : Fin 16} (hr : (runnerOf e s).state ≠ .free) (h : s.MovesNothing e) :
    abortChain e s = growExhibit e .aborted 1 (modRunner e Runner.freed s) := by
  have freed : (modRunner e Runner.freed s).MovesNothing e := h
  unfold abortChain; dsimp only
  rw [if_neg hr, withdrawClaims_of_movesNothing freed, haltOwned_of_movesNothing freed]

/-- An abort that is reported to the Exhibit Controller. -/
theorem abortReported_of_movesNothing {e : Fin 16} (hr : (runnerOf e s).state ≠ .free) (h : s.MovesNothing e) :
    abortReported e s = s.chainAborted e := by
  unfold abortReported; rw [if_neg hr, abortChain_of_movesNothing hr h]; rfl

/-! ### Starts (R36, R49, R65) -/

/-- A timer's reload reads no more of the exhibit than its record. -/
theorem reloadIdle_modExhibit {f : Exhibit → Exhibit} (e : Fin 16) (s : Gx24) (hf : ∀ x, (f x).record = x.record) :
    reloadIdle e (modExhibit e f s) = modExhibit e f (reloadIdle e s) := by
  unfold reloadIdle; rw [exhibitOf_modExhibit_same, hf]; rfl

/-- A start as the state it makes. -/
theorem startChain_eq (e : Fin 16) (c : ChainStart) (s : Gx24) : startChain e c s = s.chainStarted e c := by
  unfold startChain Gx24.chainStarted; dsimp only
  rw [reloadIdle_modExhibit (f := fun x => x.engaged c) e _ fun _ => rfl]
  split <;> rfl

/-- A start takes nothing from the runner it starts on but its last referral, so a runner freed before makes no difference. -/
theorem chainStarted_modRunner_freed (e : Fin 16) (c : ChainStart) (s : Gx24) :
    (modRunner e Runner.freed s).chainStarted e c = s.chainStarted e c := by
  unfold Gx24.chainStarted
  rw [show (modRunner e Runner.freed s).cr.runners = tmod s.cr.runners e Runner.freed from rfl, tmod_tmod]
  rfl

/-- The start index of a row, and the part with the continuation of a STEPPED row used up (R36). -/
theorem startIndex_eq (r : Fin 128) (s : Gx24) :
    startIndex r s = (startsAt r s, { s with pd := if (triggerOf r s).style = .stepped then
      { s.pd with continuation := tput s.pd.continuation r none } else s.pd }) := by
  unfold startIndex startsAt
  cases hs : (triggerOf r s).style
  case stepped =>
    cases hc : tget s.pd.continuation r with
    | some i => rfl
    | none =>
      have kept : tput s.pd.continuation r none = s.pd.continuation := by rw [← hc, tput_tget]
      rw [kept]; rfl
  all_goals rfl

/-- A VISITOR start as the state it makes. -/
theorem startVisitor_eq (e : Fin 16) (r : Fin 128) (i : Fin 24 × Fin 8) (w : Word) (s : Gx24) :
    startVisitor e r i w s = s.visitorStarted e r i w := by
  have start : startVisitor e r i w s = startChain e ⟨.visitor, some r, some i, (startIndex r s).1, w⟩
      (modExhibit e (fun x => { x with flood := 0 }) (growExhibit e .accepted 1 (startIndex r s).2)) := rfl
  rw [start, startChain_eq, startIndex_eq]; rfl

end Sys2Proof.Machine
end

section
/-! The thresholds (R58, R67, R120) and the end of a cooldown (R56, R57). -/

namespace Sys2Proof.Machine

variable {p s : Gx24}

/-! ### Thresholds -/

theorem chainFault_of_movesNothing {e : Fin 16} (cause : AlertCause) (hr : (runnerOf e s).state ≠ .free)
    (h : s.MovesNothing e) :
    chainFault e cause s = raise ⟨clsChainFault, cause, some e, none, none⟩ (s.chainAborted e) := by
  unfold chainFault; rw [abortReported_of_movesNothing hr h]; rfl

/-- The raise of GUARD-HELD names the exhibit that listed the axis before its timer stood still. -/
theorem raiseGuardHeld_modAxis (a : Fin 8) (f : Axis → Axis) (s : Gx24) :
    raiseGuardHeld a (modAxis a f s) =
      raise (keyGuardHeld a s) (modAxis a (fun x => { f x with guardHeldKey := some (keyGuardHeld a s) }) s) := by
  unfold raiseGuardHeld; dsimp only; rw [modAxis_modAxis]; rfl

end Sys2Proof.Machine

open Sys2Proof Sys2Proof.Machine

/-- Settles O31: each command's guard is the statement's, and its effect one raise. -/
theorem thresholdsRaiseTheirAlerts : Obligations.ThresholdsRaiseTheirAlerts := by
  refine ⟨fun p q e h => ⟨fun on full => ?_, fun short => h.unchanged q (f := eventCrowding e) (if_neg short)⟩,
    fun p q e h => ⟨fun hs long still => ?_, fun short => h.unchanged q (f := eventChainFaultLoop e) (if_neg short)⟩,
    fun p q a h => ⟨fun due => ?_, fun early => ?_⟩⟩
  · have raised : eventCrowding e p = raiseCrowding e p := if_pos ⟨on, full⟩
    exact (h.runs q (eventCrowding e)).trans (by rw [raised]; rfl)
  · have faulted : eventChainFaultLoop e p = chainFault e .loop p := if_pos ⟨hs, long⟩
    have running : (runnerOf e p).state ≠ .free := by rw [hs]; nofun
    exact (h.runs q (eventChainFaultLoop e)).trans (by rw [faulted, chainFault_of_movesNothing _ running still])
  · have raised : eventGuardHeld a p =
        raiseGuardHeld a (modAxis a (fun x => { x with guardOpenTime := x.params.guardTimeout }) p) := by
      refine if_pos ?_
      simpa [ticking] using due
    exact (h.runs q (eventGuardHeld a)).trans (by rw [raised, raiseGuardHeld_modAxis]; rfl)
  · refine h.unchanged q (f := eventGuardHeld a) (if_neg ?_)
    simpa [ticking] using early

end

section
/-! The end of a cooldown: the press queue served past the presses that are too old (R56 to R58). -/

namespace Sys2Proof.Machine

variable {p s : Gx24} {e : Fin 16}

theorem modExhibit_congr {f g : Exhibit → Exhibit} (h : f (exhibitOf e s) = g (exhibitOf e s)) :
    modExhibit e f s = modExhibit e g s := by
  have row : f (tget s.exhibits e) = g (tget s.exhibits e) := h
  unfold modExhibit tmod; rw [row]

theorem modExhibit_eq_self {f : Exhibit → Exhibit} (h : f (exhibitOf e s) = exhibitOf e s) : modExhibit e f s = s := by
  unfold modExhibit; rw [tmod_eq_self h]

/-- Counting, however often, changes the counters alone. -/
theorem growExhibit_iterate (e : Fin 16) (c : ExhibitCounter) (n k : Nat) (s : Gx24) :
    ∃ cs, (growExhibit e c n)^[k] s = { s with counters := cs } := by
  induction k generalizing s with
  | zero => exact ⟨_, rfl⟩
  | succ k ih =>
    obtain ⟨cs, h⟩ := ih (growExhibit e c n s)
    exact ⟨cs, by rw [Function.iterate_succ_apply, h]; rfl⟩

theorem modExhibit_growExhibit_iterate (e : Fin 16) (c : ExhibitCounter) (n k : Nat) (f : Exhibit → Exhibit) (s : Gx24) :
    modExhibit e f ((growExhibit e c n)^[k] s) = (growExhibit e c n)^[k] (modExhibit e f s) :=
  Function.Commute.iterate_right (f := modExhibit e f) (g := growExhibit e c n) (fun _ => rfl) k s

/-- The flood count `k` presses on, where one is kept. -/
def Exhibit.flooded (k : Nat) (x : Exhibit) : Exhibit :=
  { x with flood := if x.record.flood = 0 then x.flood else x.flood + k }

/-- The flood count of the exhibit reaches no threshold within `k` presses. -/
def Exhibit.calmFor (k : Nat) (x : Exhibit) : Prop := k = 0 ∨ x.record.flood = 0 ∨ x.flood + k < x.record.flood

theorem Exhibit.flooded_zero (x : Exhibit) : x.flooded 0 = x := by simp [Exhibit.flooded]

theorem Exhibit.flooded_flooded (j k : Nat) (x : Exhibit) : (x.flooded j).flooded k = x.flooded (k + j) := by
  simp only [Exhibit.flooded]; split
  · rfl
  · rw [Nat.add_assoc, Nat.add_comm j k]

theorem Exhibit.calmFor.rest {k : Nat} {x : Exhibit} (h : x.calmFor (k + 1)) : (x.flooded 1).calmFor k := by
  simp only [Exhibit.calmFor, Exhibit.flooded] at *; split <;> omega

theorem advanceFlood_of_calm (h : (exhibitOf e s).calmFor 1) : advanceFlood e s = modExhibit e (·.flooded 1) s := by
  unfold advanceFlood; dsimp only; split
  · next off => exact (modExhibit_eq_self (by simp [Exhibit.flooded, off])).symm
  · next on =>
    have below : ¬ (exhibitOf e s).record.flood ≤ (exhibitOf e s).flood + 1 := by
      unfold Exhibit.calmFor at h; omega
    rw [if_neg below]
    exact modExhibit_congr (by simp [Exhibit.flooded, on])

/-- The part with `k` presses dropped as too old: counted stale and for the flood count. -/
def staleDropped (e : Fin 16) (k : Nat) (s : Gx24) : Gx24 := (growExhibit e .stale 1)^[k] (modExhibit e (·.flooded k) s)

theorem exhibitOf_staleDropped (e : Fin 16) (k : Nat) (s : Gx24) :
    exhibitOf e (staleDropped e k s) = (exhibitOf e s).flooded k := by
  obtain ⟨cs, h⟩ := growExhibit_iterate e .stale 1 k (modExhibit e (·.flooded k) s)
  unfold staleDropped
  rw [h]; exact exhibitOf_modExhibit_same _ _ _

theorem staleDropped_zero (e : Fin 16) (s : Gx24) : staleDropped e 0 s = s :=
  modExhibit_eq_self (Exhibit.flooded_zero _)

theorem staleDropped_one (e : Fin 16) (k : Nat) (s : Gx24) :
    staleDropped e k (modExhibit e (·.flooded 1) (growExhibit e .stale 1 s)) = staleDropped e (k + 1) s := by
  unfold staleDropped
  rw [modExhibit_modExhibit, Function.iterate_succ_apply]
  simp only [Exhibit.flooded_flooded]; rfl

/-- Serving takes the presses it is given and not those that stood in the queue. -/
theorem serveFrom_modExhibit_queue (e : Fin 16) (l l' : List QueueEntry) (s : Gx24) :
    serveFrom e l (modExhibit e (fun x => { x with queue := l' }) s) = serveFrom e l s := by
  cases l <;> (unfold serveFrom; rw [modExhibit_modExhibit])

theorem serveFrom_stale {d : QueueEntry} (l : List QueueEntry) (h : d.stale (exhibitOf e s).record.patience = true) :
    serveFrom e (d :: l) s =
      serveFrom e l (advanceFlood e (growExhibit e .stale 1 (modExhibit e (fun x => { x with queue := l }) s))) :=
  if_pos (by rw [exhibitOf_modExhibit_same]; exact h)

theorem serveFrom_fresh {d : QueueEntry} (l : List QueueEntry) (h : d.stale (exhibitOf e s).record.patience = false) :
    serveFrom e (d :: l) s =
      startVisitor e d.row (d.station, d.input) d.arrival (modExhibit e (fun x => { x with queue := l }) s) :=
  if_neg (by rw [exhibitOf_modExhibit_same]; simpa using h)

/-- One press too old is dropped. -/
theorem serveFrom_stale_of_calm {d : QueueEntry} (l : List QueueEntry)
    (h : d.stale (exhibitOf e s).record.patience = true) (hc : (exhibitOf e s).calmFor 1) :
    serveFrom e (d :: l) s = serveFrom e l (modExhibit e (·.flooded 1) (growExhibit e .stale 1 s)) := by
  have counted : exhibitOf e (growExhibit e .stale 1 (modExhibit e (fun x => { x with queue := l }) s)) =
    { exhibitOf e s with queue := l } := exhibitOf_modExhibit_same _ _ _
  have swap : modExhibit e (·.flooded 1) (growExhibit e .stale 1 (modExhibit e (fun x => { x with queue := l }) s)) =
      modExhibit e (fun x => { x with queue := l }) (modExhibit e (·.flooded 1) (growExhibit e .stale 1 s)) := by
    rw [modExhibit_modExhibit e (·.flooded 1)]
    exact modExhibit_modExhibit e _ (·.flooded 1) (growExhibit e .stale 1 s)
  rw [serveFrom_stale l h, advanceFlood_of_calm (by rw [counted]; exact hc), swap, serveFrom_modExhibit_queue]

/-- The presses too old that stand first are dropped. -/
theorem serveFrom_append (e : Fin 16) (old l : List QueueEntry) (s : Gx24)
    (hs : ∀ d ∈ old, d.stale (exhibitOf e s).record.patience = true) (hc : (exhibitOf e s).calmFor old.length) :
    serveFrom e (old ++ l) s = serveFrom e l (staleDropped e old.length s) := by
  induction old generalizing s with
  | nil => rw [List.length_nil, staleDropped_zero]; rfl
  | cons d old ih =>
    have one : (exhibitOf e s).calmFor 1 := by
      simp only [Exhibit.calmFor, List.length_cons] at *; omega
    have dropped : exhibitOf e (modExhibit e (·.flooded 1) (growExhibit e .stale 1 s)) = (exhibitOf e s).flooded 1 :=
      exhibitOf_modExhibit_same _ _ _
    rw [List.cons_append, serveFrom_stale_of_calm _ (hs d (by simp)) one, ih, staleDropped_one, List.length_cons]
    · rw [dropped]; exact fun d hd => hs d (by simp [hd])
    · rw [dropped]; exact hc.rest

/-- A cooldown whose last tick has come. -/
def cooldownDue (e : Fin 16) (p : Gx24) : Prop :=
  p.gc.state ≠ .unsynced ∧ (exhibitOf e p).activity = .cooldown ∧ (exhibitOf e p).cooldown ≤ 1

/-- The exhibit IDLE, its cooldown over. -/
def Exhibit.rested (x : Exhibit) : Exhibit := { x with activity := .idle, cooldown := 0 }

theorem eventCooldownEnd_not_due (h : ¬cooldownDue e p) : eventCooldownEnd e p = p :=
  if_neg fun ⟨hu, due⟩ => h ⟨of_decide_eq_true hu, due⟩

/-- A cooldown whose last tick has come serves the presses, one tick older. -/
theorem eventCooldownEnd_due (h : cooldownDue e p) :
    eventCooldownEnd e p = serveFrom e ((exhibitOf e p).queue.map QueueEntry.aged) (modExhibit e Exhibit.rested p) := by
  obtain ⟨hu, ha, hc⟩ := h
  have due : eventCooldownEnd e p =
      cooldownOver e (modExhibit e (fun x => { x with queue := x.queue.map QueueEntry.aged, cooldown := 0 }) p) :=
    if_pos ⟨decide_eq_true hu, ha, hc⟩
  rw [due, ← serveFrom_modExhibit_queue e _ ((exhibitOf e p).queue.map QueueEntry.aged)]
  unfold cooldownOver serveQueue
  rw [if_pos ⟨by rw [exhibitOf_modExhibit_same]; exact ha, by rw [exhibitOf_modExhibit_same]⟩]
  simp only [exhibitOf_modExhibit_same, modExhibit_modExhibit]
  congr 1

/-- The exhibit after a cooldown's end: IDLE, `k` presses for the flood count, and these that wait. -/
def Exhibit.served (k : Nat) (rest : List QueueEntry) (x : Exhibit) : Exhibit :=
  { x.rested with flood := (x.flooded k).flood, queue := rest }

/-- With presses too old in front, then a press in time or none: what the cooldown's end has made before any start. -/
theorem modExhibit_staleDropped (k : Nat) (rest : List QueueEntry) :
    modExhibit e (fun x => { x with queue := rest }) (staleDropped e k (modExhibit e Exhibit.rested p)) =
      (growExhibit e .stale 1)^[k] (modExhibit e (Exhibit.served k rest) p) := by
  unfold staleDropped
  rw [modExhibit_growExhibit_iterate, modExhibit_modExhibit, modExhibit_modExhibit]; rfl

theorem serveFrom_nil (e : Fin 16) (s : Gx24) (h : (exhibitOf e s).activity = .idle) :
    serveFrom e [] s = modExhibit e (fun x => { x with queue := [] }) s :=
  modExhibit_congr (by rw [h])

/-- All presses are too old. -/
theorem cooldownEnd_empties (h : cooldownDue e p)
    (hs : ∀ c ∈ (exhibitOf e p).queue, tooOld (exhibitOf e p).record.patience c = true)
    (hc : (exhibitOf e p).calmFor (exhibitOf e p).queue.length) :
    eventCooldownEnd e p = (growExhibit e .stale 1)^[(exhibitOf e p).queue.length]
      (modExhibit e (Exhibit.served (exhibitOf e p).queue.length []) p) := by
  rw [eventCooldownEnd_due h, ← List.append_nil (List.map _ _), serveFrom_append, serveFrom_nil, modExhibit_staleDropped,
    List.length_map]
  · rw [exhibitOf_staleDropped, exhibitOf_modExhibit_same]; rfl
  · rw [exhibitOf_modExhibit_same, List.forall_mem_map]; exact hs
  · rw [exhibitOf_modExhibit_same, List.length_map]; exact hc

/-- A press in time stands behind those too old. -/
theorem cooldownEnd_starts {old rest : List QueueEntry} {c : QueueEntry} (h : cooldownDue e p)
    (hq : (exhibitOf e p).queue = old ++ c :: rest) (hs : ∀ d ∈ old, tooOld (exhibitOf e p).record.patience d = true)
    (hf : tooOld (exhibitOf e p).record.patience c = false) (hc : (exhibitOf e p).calmFor old.length) :
    eventCooldownEnd e p = Gx24.visitorStarted e c.row (c.station, c.input) c.arrival
      ((growExhibit e .stale 1)^[old.length]
        (modExhibit e (Exhibit.served old.length (rest.map QueueEntry.aged)) p)) := by
  rw [eventCooldownEnd_due h, hq, List.map_append, List.map_cons, serveFrom_append, serveFrom_fresh, startVisitor_eq,
    modExhibit_staleDropped, List.length_map]
  · rfl
  · rw [exhibitOf_staleDropped, exhibitOf_modExhibit_same]; exact hf
  · rw [exhibitOf_modExhibit_same, List.forall_mem_map]; exact hs
  · rw [exhibitOf_modExhibit_same, List.length_map]; exact hc

end Sys2Proof.Machine

open Sys2Proof Sys2Proof.Machine

/-- Settles O30: the presses too old are dropped one by one, by induction on them, and the first in time starts. -/
theorem cooldownEndServesTheQueue : Obligations.CooldownEndServesTheQueue := by
  refine fun p q e h => ⟨fun early => h.unchanged q (eventCooldownEnd_not_due early), fun due hs hc => ?_,
    fun old c rest due hq hs hf hc => ?_⟩
  · refine (h.runs_still q (f := eventCooldownEnd e) ?_).trans ?_ <;> rw [cooldownEnd_empties due hs hc]
    · obtain ⟨cs, counted⟩ := growExhibit_iterate e .stale 1 (exhibitOf e p).queue.length
        (modExhibit e (Exhibit.served _ []) p)
      rw [counted]; exact h.2
    · rfl
  · exact (h.runs q (eventCooldownEnd e)).trans (by rw [cooldownEnd_starts due hq hs hf hc]; rfl)

end

section
/-! Show cues (R49, R52, R172 to R176): the SHOW request, a cue run or missed at its tick, and the schedule. -/

namespace Sys2Proof.Machine

variable {p s : Gx24} {e : Fin 16} {a : Fin 512} {due : Word} {c : CueEntry}

/-! ### The SHOW request -/

theorem showRequest_notPublic (hm : (exhibitOf e s).mode ≠ .pub) :
    showRequest e a due s = (.notPublic, growExhibit e .showCuesMissed 1 s) := if_pos hm

theorem showRequest_busy {g : Grant} (hm : (exhibitOf e s).mode = .pub) (hg : (exhibitOf e s).grant = some g)
    (ho : g.origin = .showCue ∨ g.origin = .attendant) :
    showRequest e a due s = (.missedBusy, growExhibit e .showCuesMissed 1 s) := by
  have busy : grantOrigin e s = some .showCue ∨ grantOrigin e s = some .attendant := by
    unfold grantOrigin; rw [hg]; simpa using ho
  unfold showRequest; rw [if_neg (not_not.mpr hm), if_pos busy]

/-- A SHOW request that nothing of its own origin or higher holds back. -/
theorem showRequest_ran (hm : (exhibitOf e s).mode = .pub)
    (hg : ∀ g, (exhibitOf e s).grant = some g → g.origin = .visitor ∨ g.origin = .attract) :
    showRequest e a due s = (.ran, Gx24.chainStarted e ⟨.showCue, none, none, entryIndex a, due⟩
      (growExhibit e .showCuesRun 1 (abortChain e s))) := by
  have free : ¬(grantOrigin e s = some .showCue ∨ grantOrigin e s = some .attendant) := by
    unfold grantOrigin
    cases h : (exhibitOf e s).grant with
    | none => simp
    | some g => rcases hg g h with ho | ho <;> simp [ho]
  unfold showRequest; dsimp only; rw [if_neg (not_not.mpr hm), if_neg free, startChain_eq]

theorem showRequest_free (hm : (exhibitOf e s).mode = .pub) (hg : (exhibitOf e s).grant = none)
    (hr : (runnerOf e s).state = .free) :
    showRequest e a due s = (.ran, Gx24.chainStarted e ⟨.showCue, none, none, entryIndex a, due⟩
      (growExhibit e .showCuesRun 1 s)) := by
  rw [showRequest_ran hm (by simp [hg]), abortChain_of_free hr]

theorem showRequest_aborts {g : Grant} (hm : (exhibitOf e s).mode = .pub) (hg : (exhibitOf e s).grant = some g)
    (ho : g.origin = .visitor ∨ g.origin = .attract) (hr : (runnerOf e s).state ≠ .free) (still : s.MovesNothing e) :
    showRequest e a due s = (.ran, Gx24.chainStarted e ⟨.showCue, none, none, entryIndex a, due⟩
      (growExhibit e .showCuesRun 1 (growExhibit e .aborted 1 s))) := by
  rw [showRequest_ran hm (by simpa [hg] using ho), abortChain_of_movesNothing hr still]
  exact congrArg _ (chainStarted_modRunner_freed e _ (growExhibit e .showCuesRun 1 (growExhibit e .aborted 1 s)))

/-! ### A cue at its tick -/

/-- A cue missed: counted at its exhibit and by the clock, and reported. -/
def cueMissed (c : CueEntry) (r : CueResult) (s : Gx24) : Gx24 :=
  reportCue (exhibitByte c.exhibit) c.due (some c.tag) r { growExhibit c.exhibit .showCuesMissed 1 s with
    gc := { s.gc with missed := min (s.gc.missed + 1) 255 } }

/-- A cue run: counted, its chain started, and reported. -/
def cueRan (c : CueEntry) (s : Gx24) : Gx24 :=
  reportCue (exhibitByte c.exhibit) c.due (some c.tag) .ran
    (Gx24.chainStarted c.exhibit ⟨.showCue, none, none, entryIndex c.start, c.due⟩
      (growExhibit c.exhibit .showCuesRun 1 s))

theorem runCue_notPublic (hm : (exhibitOf c.exhibit s).mode ≠ .pub) : runCue c s = cueMissed c .notPublic s := by
  unfold runCue; rw [showRequest_notPublic hm]; rfl

theorem runCue_busy {g : Grant} (hm : (exhibitOf c.exhibit s).mode = .pub) (hg : (exhibitOf c.exhibit s).grant = some g)
    (ho : g.origin = .showCue ∨ g.origin = .attendant) : runCue c s = cueMissed c .missedBusy s := by
  unfold runCue; rw [showRequest_busy hm hg ho]; rfl

theorem runCue_free (hm : (exhibitOf c.exhibit s).mode = .pub) (hg : (exhibitOf c.exhibit s).grant = none)
    (hr : (runnerOf c.exhibit s).state = .free) : runCue c s = cueRan c s := by
  unfold runCue; rw [showRequest_free hm hg hr]; rfl

theorem runCue_aborts {g : Grant} (hm : (exhibitOf c.exhibit s).mode = .pub) (hg : (exhibitOf c.exhibit s).grant = some g)
    (ho : g.origin = .visitor ∨ g.origin = .attract) (hr : (runnerOf c.exhibit s).state ≠ .free)
    (still : s.MovesNothing c.exhibit) : runCue c s = cueRan c (growExhibit c.exhibit .aborted 1 s) := by
  unfold runCue; rw [showRequest_aborts hm hg ho hr still]; rfl

/-! ### CUE_FIRE -/

theorem CueEntry.names_iff : c.names e due = true ↔ c.exhibit = e ∧ c.due = due := by simp [CueEntry.names]

/-- The part without the entries of this exhibit and due tick. -/
def cueTaken (e : Fin 16) (due : Word) (s : Gx24) : Gx24 :=
  { s with gc := { s.gc with schedule := s.gc.schedule.filter (fun c => !c.names e due) } }

theorem eventCueFire_due (hf : p.gc.schedule.find? (fun c => c.names e due) = some c) (hn : (due - p.gc.tick).toNat ≤ 1)
    (hu : p.gc.state ≠ .unsynced) : eventCueFire e due p = runCue c (cueTaken e due p) := by
  unfold eventCueFire; rw [hf]
  exact if_pos ⟨decide_eq_true hu, hn⟩

theorem eventCueFire_not_due (h : p.gc.schedule.find? (fun c => c.names e due) = none ∨ 1 < (due - p.gc.tick).toNat ∨
    p.gc.state = .unsynced) : eventCueFire e due p = p := by
  unfold eventCueFire
  split
  · next c hf =>
    refine if_neg fun ⟨hu, hn⟩ => ?_
    rcases h with h | h | h
    · rw [hf] at h; cases h
    · exact absurd hn (Nat.not_le.mpr h)
    · exact of_decide_eq_true hu h
  · rfl

end Sys2Proof.Machine

open Sys2Proof Sys2Proof.Machine

/-- Settles O47: the entry found is taken from the schedule, and its request is one of four. -/
theorem cueFireRunsOrMissesTheCue : Obligations.CueFireRunsOrMissesTheCue := by
  refine fun p q e due h => ⟨fun off => h.unchanged q (eventCueFire_not_due off), fun c hf hn hu => ?_⟩
  obtain ⟨rfl, rfl⟩ := CueEntry.names_iff.mp (List.find?_some (p := fun c : CueEntry => c.names e due) hf)
  have fired := eventCueFire_due hf hn hu
  have still : ∀ {t}, runCue c (cueTaken c.exhibit c.due p) = t → t.work = p.work →
      exec (.cueFire c.exhibit c.due) ⟨p, q⟩ = .next ⟨t, q⟩ := fun ht hw =>
    ((h.runs_still q (f := eventCueFire c.exhibit c.due) (by rw [fired, ht, hw]; exact h.2)).trans (by rw [fired, ht]))
  have starts : ∀ {t}, runCue c (cueTaken c.exhibit c.due p) = t →
      exec (.cueFire c.exhibit c.due) ⟨p, q⟩ = .next ⟨settle t, q⟩ := fun ht =>
    (h.runs q (eventCueFire c.exhibit c.due)).trans (by rw [fired, ht])
  exact ⟨fun hm => still (runCue_notPublic hm) (sendUp_work ..),
    fun g hm hg ho => still (runCue_busy hm hg ho) (sendUp_work ..),
    fun hm hg hr => starts (runCue_free hm hg hr),
    fun g hm hg ho hr quiet => starts (runCue_aborts hm hg ho hr quiet)⟩

end

section
/-! CUE frames (R172, R173, R175): refused, run or missed at once, or scheduled. -/

namespace Sys2Proof.Machine

variable {p s : Gx24} {e : Fin 16} {a : Fin 512} {due start : Word} {exhibit tag : Byte}

/-! ### What a CUE frame names -/

theorem indexOf_byteOf (e : Fin 16) : indexOf 16 (byteOf e.val) = some e := by
  have small : (byteOf e.val).toNat = e.val := by simp [byteOf]; omega
  unfold indexOf; rw [dif_pos (by omega)]; exact congrArg some (Fin.ext small)

theorem indexOf_of_le {n : Nat} {b : Byte} (h : n ≤ b.toNat) : indexOf n b = none := dif_neg (by omega)

theorem indexOfWord_ofNat {n : Nat} (hn : n ≤ 65536) (i : Fin n) : indexOfWord n (BitVec.ofNat 16 i.val) = some i := by
  have small : (BitVec.ofNat 16 i.val).toNat = i.val := by simp; omega
  unfold indexOfWord; rw [dif_pos (by omega)]; exact congrArg some (Fin.ext small)

theorem indexOfWord_of_le {n : Nat} {w : Word} (h : n ≤ w.toNat) : indexOfWord n w = none := dif_neg (by omega)

theorem takeCue_unsynced (hu : s.gc.state = .unsynced) :
    takeCue due exhibit start tag s = reportCue exhibit due (some tag) .invalid s := if_pos hu

theorem takeCue_range (hu : s.gc.state ≠ .unsynced) (h : 16 ≤ exhibit.toNat ∨ 512 ≤ start.toNat) :
    takeCue due exhibit start tag s = reportCue exhibit due (some tag) .range s := by
  unfold takeCue; rw [if_neg hu]
  rcases h with h | h
  · rw [indexOf_of_le h]
  · rw [indexOfWord_of_le h]; split
    · next ha => cases ha
    · rfl

theorem takeCue_named (hu : s.gc.state ≠ .unsynced) :
    takeCue due (byteOf e.val) (BitVec.ofNat 16 a.val) tag s =
      if due = s.gc.tick then runCue ⟨due, e, a, tag⟩ s
      else if isPast due s.gc.tick then reportCue (byteOf e.val) due (some tag) .late s
      else scheduleCue ⟨due, e, a, tag⟩ s := by
  unfold takeCue; rw [if_neg hu, indexOf_byteOf, indexOfWord_ofNat (by decide)]

theorem takeCue_now (hu : s.gc.state ≠ .unsynced) (hn : due = s.gc.tick) :
    takeCue due (byteOf e.val) (BitVec.ofNat 16 a.val) tag s = runCue ⟨due, e, a, tag⟩ s := by
  rw [takeCue_named hu, if_pos hn]

theorem takeCue_late (hu : s.gc.state ≠ .unsynced) (h : 30000 < (due - s.gc.tick).toNat) :
    takeCue due (byteOf e.val) (BitVec.ofNat 16 a.val) tag s = reportCue (byteOf e.val) due (some tag) .late s := by
  have apart : due ≠ s.gc.tick := fun hn => by rw [hn, BitVec.sub_self] at h; exact absurd h (by decide)
  rw [takeCue_named hu, if_neg apart]; exact if_pos (decide_eq_true h)

theorem takeCue_ahead (hu : s.gc.state ≠ .unsynced) (h1 : 1 ≤ (due - s.gc.tick).toNat)
    (h : (due - s.gc.tick).toNat ≤ 30000) :
    takeCue due (byteOf e.val) (BitVec.ofNat 16 a.val) tag s = scheduleCue ⟨due, e, a, tag⟩ s := by
  have apart : due ≠ s.gc.tick := fun hn => by rw [hn, BitVec.sub_self] at h1; exact absurd h1 (by decide)
  have ahead : ¬isPast due s.gc.tick = true := fun hp => absurd (of_decide_eq_true hp) (Nat.not_lt.mpr h)
  rw [takeCue_named hu, if_neg apart, if_neg ahead]

/-! ### The schedule -/

theorem scheduleCue_replaces {old c : CueEntry} (h : s.gc.schedule.find? (fun d => d.names c.exhibit c.due) = some old) :
    scheduleCue c s = sendUp (.cueReport (exhibitByte c.exhibit) c.due (some c.tag) .accepted s.gc.tick)
      (sendUp (.cueReport (exhibitByte c.exhibit) c.due (some old.tag) .replaced s.gc.tick) { s with gc := { s.gc with
        schedule := s.gc.schedule.map (fun d => if d.names c.exhibit c.due then c else d) } }) := by
  have named : s.gc.schedule.map (fun d => if d.names c.exhibit c.due then { d with start := c.start, tag := c.tag } else d) =
      s.gc.schedule.map (fun d => if d.names c.exhibit c.due then c else d) := by
    refine List.map_congr_left fun d _ => ?_
    split
    · next hn => obtain ⟨he, hd⟩ := CueEntry.names_iff.mp hn; rw [he, hd]
    · rfl
  unfold scheduleCue reportCue; dsimp only; rw [h]; dsimp only; rw [named, sendUp_gc]

theorem find?_names_none {l : List CueEntry} (h : ∀ c ∈ l, ¬(c.exhibit = e ∧ c.due = due)) :
    l.find? (fun c => c.names e due) = none :=
  List.find?_eq_none.mpr fun c hc hn => h c hc (CueEntry.names_iff.mp hn)

theorem scheduleCue_full {c : CueEntry} (h : s.gc.schedule.find? (fun d => d.names c.exhibit c.due) = none)
    (hf : 32 ≤ s.gc.schedule.length) :
    scheduleCue c s = reportCue (exhibitByte c.exhibit) c.due (some c.tag) .full s := by
  unfold scheduleCue; dsimp only; rw [h]; exact if_pos hf

theorem scheduleCue_enters {c : CueEntry} (h : s.gc.schedule.find? (fun d => d.names c.exhibit c.due) = none)
    (hf : s.gc.schedule.length < 32) :
    scheduleCue c s = reportCue (exhibitByte c.exhibit) c.due (some c.tag) .accepted
      { s with gc := { s.gc with schedule := insertCue s.gc.tick c s.gc.schedule } } := by
  unfold scheduleCue; dsimp only; rw [h]; exact if_neg (Nat.not_le.mpr hf)

/-- An entry stands behind those no farther ahead than it, and before the first that is farther. -/
theorem insertCue_splits (now : Word) (c : CueEntry) (l : List CueEntry) :
    ∃ nearer farther, l = nearer ++ farther ∧ insertCue now c l = nearer ++ c :: farther ∧
      (∀ d ∈ nearer, (d.due - now).toNat ≤ (c.due - now).toNat) ∧
      ∀ d, farther.head? = some d → (c.due - now).toNat < (d.due - now).toNat := by
  induction l with
  | nil => exact ⟨[], [], rfl, rfl, nofun, nofun⟩
  | cons d rest ih =>
    by_cases hd : ticksAhead c.due now < ticksAhead d.due now
    · refine ⟨[], d :: rest, rfl, if_pos hd, nofun, fun x hx => ?_⟩
      cases hx; exact hd
    · obtain ⟨nearer, farther, hl, hi, hn, hf⟩ := ih
      refine ⟨d :: nearer, farther, by rw [hl]; rfl, (if_neg hd).trans (by rw [hi]; rfl), fun x hx => ?_, hf⟩
      rcases List.mem_cons.mp hx with rfl | hx
      exacts [Nat.not_lt.mp hd, hn x hx]

end Sys2Proof.Machine

open Sys2Proof Sys2Proof.Machine

/-- Settles O45: the checks in their order, the request at once, and the three outcomes of the schedule. -/
theorem cueFrameIsScheduledOrRefused : Obligations.CueFrameIsScheduledOrRefused := by
  intro p q due start exhibit tag h ha
  have starts : ∀ {t}, takeCue due exhibit start tag (growTrunk .framesTaken p) = t →
      exec (.cueFrame due exhibit start tag) ⟨p, q⟩ = .next ⟨settle t, q⟩ := fun ht =>
    (h.takes ha q (takeCue due exhibit start tag)).trans (by rw [ht])
  have still : ∀ {t}, takeCue due exhibit start tag (growTrunk .framesTaken p) = t → t.work = p.work →
      exec (.cueFrame due exhibit start tag) ⟨p, q⟩ = .next ⟨t, q⟩ := fun ht hw => by
    rw [starts ht, settle_of_empty (hw.trans h.2)]
  have reported : ∀ {b : Byte} {r tag s}, s.work = p.work → (reportCue b due (some tag) r s).work = p.work :=
    fun hw => (sendUp_work _ _).trans hw
  refine ⟨fun hu => still (takeCue_unsynced hu) (reported rfl),
    fun hu hr => still (takeCue_range hu hr) (reported rfl), ?_⟩
  rintro e a rfl rfl hu
  have now : due = p.gc.tick → takeCue due (byteOf e.val) (BitVec.ofNat 16 a.val) tag (growTrunk .framesTaken p) =
      runCue ⟨due, e, a, tag⟩ (growTrunk .framesTaken p) := takeCue_now (s := growTrunk .framesTaken p) hu
  have ahead : 1 ≤ (due - p.gc.tick).toNat → (due - p.gc.tick).toNat ≤ 30000 →
      takeCue due (byteOf e.val) (BitVec.ofNat 16 a.val) tag (growTrunk .framesTaken p) =
        scheduleCue ⟨due, e, a, tag⟩ (growTrunk .framesTaken p) := takeCue_ahead (s := growTrunk .framesTaken p) hu
  refine ⟨fun hl => still (takeCue_late hu hl) (reported rfl),
    fun hn hm => still ((now hn).trans (runCue_notPublic hm)) (sendUp_work ..),
    fun g hn hm hg ho => still ((now hn).trans (runCue_busy hm hg ho)) (sendUp_work ..),
    ⟨fun hn hm hg hr => starts ((now hn).trans (runCue_free hm hg hr)),
      fun g hn hm hg ho hr quiet => starts ((now hn).trans (runCue_aborts hm hg ho hr quiet))⟩,
    fun h1 hl => ⟨fun old hf => ?_, fun hf hfull => ?_, fun hf hroom => ⟨?_, insertCue_splits ..⟩⟩⟩
  · exact still ((ahead h1 hl).trans (scheduleCue_replaces (c := ⟨due, e, a, tag⟩) hf))
      ((sendUp_work _ _).trans (sendUp_work _ _))
  · exact still ((ahead h1 hl).trans (scheduleCue_full (find?_names_none hf) hfull)) (reported rfl)
  · exact still ((ahead h1 hl).trans (scheduleCue_enters (find?_names_none hf) hroom)) (reported rfl)

end

section
/-! The quiet timer and the idle timers at their last count (R54, R155, R158, R160). -/

namespace Sys2Proof.Machine

variable {p s : Gx24} {e : Fin 16}

/-- The last count of the quiet timer of an OPEN gallery. -/
def quietDue (p : Gx24) : Prop :=
  p.gc.state ≠ .unsynced ∧ p.ac.gallery = .opened ∧ 0 < p.tp.quietReload ∧ p.ac.quiet ≤ 1

theorem eventQuietExpiry_not_due (h : ¬quietDue p) : eventQuietExpiry p = p :=
  if_neg fun ⟨hu, due⟩ => h ⟨of_decide_eq_true hu, due⟩

/-- With no ATTRACT chain the gallery's change is all of it. -/
theorem quietGallery_of_no_attract (h : ∀ e g, (exhibitOf e s).grant = some g → g.origin ≠ .attract) :
    quietGallery s = { s with ac := { s.ac with gallery := .quiet } } :=
  forRows_id fun e => if_neg fun ho => by
    obtain ⟨g, hg, ho⟩ := Option.map_eq_some_iff.mp ho
    exact h e g hg ho

theorem eventQuietExpiry_due (hd : quietDue p) (h : ∀ e g, (exhibitOf e p).grant = some g → g.origin ≠ .attract) :
    eventQuietExpiry p = { p with ac := { p.ac with gallery := .quiet, quiet := 0 } } := by
  obtain ⟨hu, ho, due⟩ := hd
  have expired : eventQuietExpiry p = expireQuiet { p with ac := { p.ac with quiet := 0 } } :=
    if_pos ⟨decide_eq_true hu, ho, due⟩
  have opened : expireQuiet { p with ac := { p.ac with quiet := 0 } } =
      quietGallery { p with ac := { p.ac with quiet := 0 } } := if_pos ho
  rw [expired, opened, quietGallery_of_no_attract (s := { p with ac := { p.ac with quiet := 0 } }) h]

/-- The last count of the exhibit's idle timer. -/
def idleDue (e : Fin 16) (p : Gx24) : Prop :=
  p.gc.state ≠ .unsynced ∧ idleCounts e p = true ∧ tget p.ac.idle e ≤ 1

theorem eventIdleExpiry_not_due (h : ¬idleDue e p) : eventIdleExpiry e p = p :=
  if_neg fun ⟨hu, due⟩ => h ⟨of_decide_eq_true hu, due⟩

theorem eventIdleExpiry_due (hd : idleDue e p) : eventIdleExpiry e p = expireIdle e p :=
  if_pos ⟨decide_eq_true hd.1, hd.2⟩

theorem idleCounts_mode (h : idleCounts e s = true) : (exhibitOf e s).mode = .pub := by
  unfold idleCounts at h
  simp only [Bool.and_eq_true, decide_eq_true_eq] at h
  exact h.1.2

theorem exhibitOf_clearStories (e e' : Fin 16) (s : Gx24) : exhibitOf e' (clearStories e s) = exhibitOf e' s := by
  simp [exhibitOf]

/-- Emptying the stories is the statements' form of it. -/
theorem clearStories_eq (e : Fin 16) (s : Gx24) : clearStories e s = s.storiesCleared e := by
  unfold clearStories Gx24.storiesCleared; rfl

theorem reloadIdle_eq (e : Fin 16) (s : Gx24) : reloadIdle e s = s.idleReloaded e := by
  unfold reloadIdle Gx24.idleReloaded; rfl

theorem idleReloaded_work (e : Fin 16) (s : Gx24) : (s.idleReloaded e).work = s.work := rfl

/-- The stories are emptied, an OPEN gallery asks for the ATTRACT chain, and the timer is reloaded. -/
theorem expireIdle_eq (e : Fin 16) (s : Gx24) : expireIdle e s = Gx24.idleReloaded e
    (if s.ac.gallery = .opened then attractRequest e (clearStories e s) else clearStories e s) := by
  unfold expireIdle; dsimp only; rw [reloadIdle_eq, clearStories_ac]

theorem expireIdle_reloads (h : s.ac.gallery ≠ .opened ∨ (exhibitOf e s).record.attract = none) :
    expireIdle e s = Gx24.idleReloaded e (Gx24.storiesCleared e s) := by
  rw [expireIdle_eq, ← clearStories_eq]; congr 1; split
  · next ho =>
    unfold attractRequest; rw [exhibitOf_clearStories, h.resolve_left (not_not.mpr ho)]
  · rfl

theorem attractRequest_starts {a : Fin 512} (ha : (exhibitOf e s).record.attract = some a)
    (hm : (exhibitOf e s).mode = .pub) (hi : exhibitIdle e s = true) :
    attractRequest e s = Gx24.chainStarted e ⟨.attract, none, none, entryIndex a, s.gc.tick⟩
      (growExhibit e .attractRuns 1 s) := by
  unfold attractRequest; rw [ha]; exact (if_pos ⟨hm, hi⟩).trans (startChain_eq ..)

theorem expireIdle_starts {a : Fin 512} (ho : s.ac.gallery = .opened) (ha : (exhibitOf e s).record.attract = some a)
    (hm : (exhibitOf e s).mode = .pub) (hi : (exhibitOf e s).activity = .idle) (hg : (exhibitOf e s).grant = none) :
    expireIdle e s = Gx24.idleReloaded e (Gx24.chainStarted e ⟨.attract, none, none, entryIndex a, s.gc.tick⟩
      (growExhibit e .attractRuns 1 (Gx24.storiesCleared e s))) := by
  have idle : exhibitIdle e (clearStories e s) = true := by
    unfold exhibitIdle; rw [exhibitOf_clearStories, hg, hi]; rfl
  rw [expireIdle_eq, if_pos ho, attractRequest_starts (a := a) _ _ idle, clearStories_gc, clearStories_eq] <;>
    rwa [exhibitOf_clearStories]

end Sys2Proof.Machine

open Sys2Proof Sys2Proof.Machine

/-- Settles O48: each timer's guard is the statement's; an idle timer counts at PUBLIC exhibits alone. -/
theorem quietAndIdleTimersExpire : Obligations.QuietAndIdleTimersExpire := by
  refine fun p q h => ⟨fun early => h.unchanged q (eventQuietExpiry_not_due early), fun due hg => ?_,
    fun e => ⟨fun early => h.unchanged q (eventIdleExpiry_not_due early), fun due hw => ?_, fun a due ho ha hi hg => ?_⟩⟩
  · have quiet := eventQuietExpiry_due due hg
    exact (h.runs_still q (f := eventQuietExpiry) (by rw [quiet]; exact h.2)).trans (by rw [quiet])
  · have reloaded := (eventIdleExpiry_due due).trans (expireIdle_reloads hw)
    have noNotice : (eventIdleExpiry e p).work = [] := by
      rw [reloaded, idleReloaded_work, ← clearStories_eq, clearStories_work, h.2]
    rw [← reloaded]
    exact h.runs_still q (f := eventIdleExpiry e) noNotice
  · have started := (eventIdleExpiry_due due).trans (expireIdle_starts ho ha (idleCounts_mode due.2.1) hi hg)
    exact (h.runs q (eventIdleExpiry e)).trans (by rw [started])

end

section
/-! Table writes with fields out of range or forced (R40, R64, R88, R90, R130, R191): a write sees no more of the contents than
what their decoder gives, and the decoder gives the same of the contents as of the row brought into range. -/

namespace Sys2Proof.Machine

/-! ### Numbers and flags in bytes -/

theorem wordOf_extract (w : Word) : wordOf (w.extractLsb' 8 8) (w.extractLsb' 0 8) = w := by
  unfold wordOf
  refine BitVec.eq_of_getLsbD_eq fun i hi => ?_
  simp only [BitVec.getLsbD_append, BitVec.getLsbD_extractLsb']
  split
  · simp [*]
  · have : 8 + (i - 8) = i := by omega
    simp only [this]
    have : i - 8 < 8 := by omega
    simp [this]

/-- The number of two bytes as they are sent. -/
theorem wordOf_natBytes {n : Nat} (h : n ≤ 65535) :
    (wordOf ((BitVec.ofNat 16 n).extractLsb' 8 8) ((BitVec.ofNat 16 n).extractLsb' 0 8)).toNat = n := by
  rw [wordOf_extract]; simp; omega

theorem toNat_byteOf {n : Nat} (h : n ≤ 255) : (byteOf n).toNat = n := by simp [byteOf]; omega

theorem flagOf_flagByte (b : Bool) : flagOf (flagByte b) = b := by cases b <;> rfl

/-- Clamping a word that has been clamped and sent. -/
theorem clampTo_natBytes {lo hi m n : Nat} (hh : hi ≤ 65535) (hl : lo ≤ hi) (hm : m = clampTo lo hi n) :
    clampTo lo hi (wordOf ((BitVec.ofNat 16 m).extractLsb' 8 8) ((BitVec.ofNat 16 m).extractLsb' 0 8)).toNat =
      clampTo lo hi n := by
  unfold clampTo at *
  rw [wordOf_natBytes (by omega)]; omega

/-- Clamping a byte that has been clamped and sent. -/
theorem clampTo_byteOf {lo hi m n : Nat} (hh : hi ≤ 255) (hl : lo ≤ hi) (hm : m = clampTo lo hi n) :
    clampTo lo hi (byteOf m).toNat = clampTo lo hi n := by
  unfold clampTo at *
  rw [toNat_byteOf (by omega)]; omega

/-! ### Rows brought into range -/

/-- Where the idle reload and the queue depth stand in an exhibit's row. -/
theorem ExhibitRecord.bytes_fields (r : ExhibitRecord) :
    ∃ z x1 x2 a1 a0 p c f m st out, ∀ n d, ({ r with idleReload := n, depth := d } : ExhibitRecord).bytes =
      [z, x1, x2, (BitVec.ofNat 16 n).extractLsb' 8 8, (BitVec.ofNat 16 n).extractLsb' 0 8, a1, a0, byteOf d, p, c, f, m, st,
        out] := by
  obtain ⟨zone, axes, _, attract, _, patience, cooldown, flood, mask, lamp⟩ := r
  cases attract <;> cases lamp <;> 
    exact ⟨_, _, _, _, _, _, _, _, _, _, _, fun _ _ => by simp only [ExhibitRecord.bytes]; rfl⟩

theorem exhibitRecordOf_clamped (r : ExhibitRecord) (n1 n0 d : Byte) :
    exhibitRecordOf (((r.bytes.set 3 n1).set 4 n0).set 7 d) = exhibitRecordOf
      ({ r with idleReload := min 9999 (wordOf n1 n0).toNat, depth := min 4 d.toNat } : ExhibitRecord).bytes := by
  obtain ⟨z, x1, x2, a1, a0, p, c, f, m, st, out, fields⟩ := r.bytes_fields
  rw [show r.bytes = _ from fields r.idleReload r.depth, fields]
  simp only [List.set_cons_succ, List.set_cons_zero, exhibitRecordOf]
  rw [clampTo_natBytes (n := (wordOf n1 n0).toNat) (by decide) (by decide) (by simp [clampTo]),
    clampTo_byteOf (n := d.toNat) (by decide) (by decide) (by simp [clampTo])]

/-- Where the clamped fields stand in an axis's row. -/
theorem AxisParams.bytes_fields (r : AxisParams) :
    ∃ d m1 m0 x1 x0 gs gi gl t arb, ∀ accel follow settle claim,
      ({ r with accel := accel, followLimit := follow, guardSettle := settle, claimTimeout := claim } : AxisParams).bytes =
      [d, (BitVec.ofNat 16 accel).extractLsb' 8 8, (BitVec.ofNat 16 accel).extractLsb' 0 8, m1, m0, x1, x0,
        (BitVec.ofNat 16 follow).extractLsb' 8 8, (BitVec.ofNat 16 follow).extractLsb' 0 8, gs, gi, gl, byteOf settle, t,
        byteOf claim, arb] := by
  obtain ⟨drive, _, softMin, softMax, _, guard, _, guardTimeout, _, arbitration⟩ := r
  cases guard <;> exact ⟨_, _, _, _, _, _, _, _, _, _, fun _ _ _ _ => by simp only [AxisParams.bytes]; rfl⟩

/-- The read-only bytes of an axis's row are not looked at. -/
theorem axisRowOf_append {c ignored : List Byte} (hc : c.length = 16) (hi : ignored = [] ∨ ignored.length = 5) :
    axisRowOf (c ++ ignored) = axisParamsOf c := by
  have whole : (c ++ ignored).length = 16 ∨ (c ++ ignored).length = 21 := by
    rcases hi with rfl | hi <;> simp [*]
  unfold axisRowOf
  rw [if_pos whole, List.take_left' hc]

theorem axisRowOf_whole {c : List Byte} (hc : c.length = 16) : axisRowOf c = axisParamsOf c := by
  rw [← axisRowOf_append hc (.inl rfl), List.append_nil]

theorem axisRowOf_clamped (r : AxisParams) (a1 a0 f1 f0 settle claim : Byte) {ignored : List Byte}
    (hi : ignored = [] ∨ ignored.length = 5) :
    axisRowOf ((((((((r.bytes.set 1 a1).set 2 a0).set 7 f1).set 8 f0).set 12 settle).set 14 claim)) ++ ignored) =
      axisRowOf ({ r with
        accel := max 1 (min 1023 (wordOf a1 a0).toNat), followLimit := max 1 (min 4095 (wordOf f1 f0).toNat)
        guardSettle := max 1 settle.toNat, claimTimeout := max 1 claim.toNat } : AxisParams).bytes := by
  obtain ⟨d, m1, m0, x1, x0, gs, gi, gl, t, arb, fields⟩ := r.bytes_fields
  rw [show r.bytes = _ from fields r.accel r.followLimit r.guardSettle r.claimTimeout, fields,
    axisRowOf_append rfl hi, axisRowOf_whole rfl]
  simp only [List.set_cons_succ, List.set_cons_zero, axisParamsOf]
  have byteMax : ∀ b : Byte, max 1 b.toNat = clampTo 1 255 b.toNat := fun b => by unfold clampTo; omega
  rw [clampTo_natBytes (n := (wordOf a1 a0).toNat) (by decide) (by decide) (by rfl),
    clampTo_natBytes (n := (wordOf f1 f0).toNat) (by decide) (by decide) (by rfl),
    clampTo_byteOf (by decide) (by decide) (byteMax settle), clampTo_byteOf (by decide) (by decide) (byteMax claim)]

theorem segmentOf_clamped (g : Segment) (c1 c0 : Byte) :
    segmentOf ((g.bytes.set 2 c1).set 3 c0) =
      segmentOf ({ g with cruise := max 1 (min 511 (wordOf c1 c0).toNat) } : Segment).bytes := by
  have fields : ∀ n, ({ g with cruise := n } : Segment).bytes = [_, _, (BitVec.ofNat 16 n).extractLsb' 8 8,
    (BitVec.ofNat 16 n).extractLsb' 0 8, _] := fun _ => rfl
  rw [show g.bytes = _ from fields g.cruise, fields]
  simp only [List.set_cons_succ, List.set_cons_zero, segmentOf]
  rw [clampTo_natBytes (n := (wordOf c1 c0).toNat) (by decide) (by decide) (by rfl)]

/-! ### Alert classes, clamped and forced (R130) -/

theorem alertClassOf_clamped (cls : Fin 16) (r : AlertClass) (h k n1 n0 : Byte) :
    alertClassOf cls ((((r.bytes.set 1 h).set 2 k).set 3 n1).set 4 n0) = alertClassOf cls ({ r with
      hold := h.getLsbD 0 || forcedClass cls, ackRequired := k.getLsbD 0 || (forcedClass cls || momentary cls)
      interval := min 9999 (wordOf n1 n0).toNat } : AlertClass).bytes := by
  have fields : ∀ b c n, ({ r with hold := b, ackRequired := c, interval := n } : AlertClass).bytes =
    [_, flagByte b, flagByte c, (BitVec.ofNat 16 n).extractLsb' 8 8, (BitVec.ofNat 16 n).extractLsb' 0 8, _, _] :=
    fun _ _ _ => rfl
  rw [show r.bytes = _ from fields r.hold r.ackRequired r.interval, fields]
  simp only [List.set_cons_succ, List.set_cons_zero, alertClassOf, flagOf_flagByte]
  rw [clampTo_natBytes (n := (wordOf n1 n0).toNat) (by decide) (by decide) (by simp [clampTo])]
  have holds : (h.getLsbD 0 || forcedClass cls || forcedClass cls) = (flagOf h || forcedClass cls) := by
    rw [Bool.or_assoc, Bool.or_self]; rfl
  have acks : (k.getLsbD 0 || (forcedClass cls || momentary cls) || momentary cls || forcedClass cls) =
      (flagOf k || momentary cls || forcedClass cls) := by
    unfold flagOf; cases k.getLsbD 0 <;> cases forcedClass cls <;> cases momentary cls <;> rfl
  rw [holds, acks]

/-! ### Action entries (R64) -/

theorem actionContentsOf_nine (k p0 p1 p2 p3 l1 l0 t1 t0 : Byte) :
    actionContentsOf [k, p0, p1, p2, p3, l1, l0, t1, t0] = actionOf k p0 p1 p2 p3 (wordOf l1 l0) (wordOf t1 t0) := rfl

section
variable {a a' b b' d d' e e' v : Byte} {link stop stop' : Word}

/-- A WAIT's ticks are read clamped; its other operands and its stop link are not read. -/
theorem actionOf_wait_congr (h : clampTo 1 255 a.toNat = clampTo 1 255 a'.toNat) :
    actionOf 5#8 a b d e link stop = actionOf 5#8 a' b' d' e' link stop' := by
  have wait : ∀ a b d e stop, actionOf 5#8 a b d e link stop =
      ((linkOf link).bind fun l => some (.wait (clampTo 1 255 a.toNat) l)).map .entry := fun _ _ _ _ _ => rfl
  rw [wait, wait, h]

/-- A REFER's timeout is read clamped; its last operand is not read. -/
theorem actionOf_refer_congr (h : clampTo 1 50 b.toNat = clampTo 1 50 b'.toNat) :
    actionOf 8#8 a b v d link stop = actionOf 8#8 a b' v d' link stop := by
  have refer : ∀ b d, actionOf 8#8 a b v d link stop = ((linkOf link).bind fun l => do
    return .refer a (clampTo 1 50 b.toNat) (← Verdict.ofCode v) l (← linkOf stop)).map .entry := fun _ _ => rfl
  rw [refer, refer, h]

/-- A COUNT's amount is read clamped; its other operands and its stop link are not read. -/
theorem actionOf_count_congr (h : clampTo 1 15 b.toNat = clampTo 1 15 b'.toNat) :
    actionOf 9#8 a b d e link stop = actionOf 9#8 a b' d' e' link stop' := by
  have count : ∀ b d e stop, actionOf 9#8 a b d e link stop = ((linkOf link).bind fun l => do
    return .count (← indexOf 64 a) (clampTo 1 15 b.toNat) l).map .entry := fun _ _ _ _ => rfl
  rw [count, count, h]

end

theorem actionContentsOf_wait (a b c d e f : Byte) (l : Link) :
    actionContentsOf ([5#8, a, b, c, d] ++ wordBytes l.word ++ [e, f]) =
      actionContentsOf (Action.wait (max 1 a.toNat) l).bytes :=
  (actionContentsOf_nine ..).trans <| (actionOf_wait_congr
    (clampTo_byteOf (by decide) (by decide) (by unfold clampTo; omega)).symm).trans (actionContentsOf_nine ..).symm

theorem actionContentsOf_refer (a b d : Byte) (v : Verdict) (l stop : Link) :
    actionContentsOf ([8#8, a, b, v.code, d] ++ wordBytes l.word ++ wordBytes stop.word) =
      actionContentsOf (Action.refer a (max 1 (min 50 b.toNat)) v l stop).bytes :=
  (actionContentsOf_nine ..).trans <| (actionOf_refer_congr
    (clampTo_byteOf (by decide) (by decide) (by rfl)).symm).trans (actionContentsOf_nine ..).symm

theorem actionContentsOf_count (b c d e f : Byte) (u : Fin 64) (l : Link) :
    actionContentsOf ([9#8, byteOf u.val, b, c, d] ++ wordBytes l.word ++ [e, f]) =
      actionContentsOf (Action.count u (max 1 (min 15 b.toNat)) l).bytes :=
  (actionContentsOf_nine ..).trans <| (actionOf_count_congr
    (clampTo_byteOf (by decide) (by decide) (by rfl)).symm).trans (actionContentsOf_nine ..).symm

theorem actionContentsOf_free {rest : List Byte} (h : rest.length = 8) :
    actionContentsOf (0#8 :: rest) = actionContentsOf Action.free.bytes := by
  match rest, h with
  | [_, _, _, _, _, _, _, _], _ => rfl

/-! ### Writes see what the decoder gives -/

section
variable {tag : Byte} {row : Word} {c c' : List Byte} {s : State}

/-- Writes that give the same reply and part are the same command. -/
theorem written_congr {f g : Gx24 → ReplyCode × Gx24} (id : Nat) (h : ∀ p, f p = g p) :
    s.act (takeFrame (fun p => replyWrite tag id row (f p))) = s.act (takeFrame (fun p => replyWrite tag id row (g p))) := by
  rw [funext h]

theorem exhibitConfigWrite_congr (h : exhibitRecordOf c = exhibitRecordOf c') :
    exec (.exhibitConfigWrite tag row c) s = exec (.exhibitConfigWrite tag row c') s :=
  written_congr 7 fun p => by unfold writeExhibitConfig; rw [h]

theorem actionEntryWrite_congr (h : actionContentsOf c = actionContentsOf c') :
    exec (.actionEntryWrite tag row c) s = exec (.actionEntryWrite tag row c') s :=
  written_congr 6 fun p => by unfold writeAction; rw [h]

theorem axisParameterWrite_congr (h : axisRowOf c = axisRowOf c') :
    exec (.axisParameterWrite tag row c) s = exec (.axisParameterWrite tag row c') s :=
  written_congr 8 fun p => by unfold writeAxisParams; rw [h]

theorem segmentWrite_congr (h : segmentOf c = segmentOf c') :
    exec (.segmentWrite tag row c) s = exec (.segmentWrite tag row c') s :=
  written_congr 10 fun p => by unfold writeSegment; rw [h]

theorem alertClassWrite_congr {cls : Fin 16} (h : alertClassOf cls c = alertClassOf cls c') :
    exec (.alertClassWrite tag (BitVec.ofNat 16 cls.val) c) s = exec (.alertClassWrite tag (BitVec.ofNat 16 cls.val) c') s :=
  written_congr 11 fun p => by unfold writeAlertClass; rw [indexOfWord_ofNat (by decide)]; dsimp only; rw [h]

end

end Sys2Proof.Machine

open Sys2Proof Sys2Proof.Machine

/-- Settles O52: each write's decoder gives the same of both contents. -/
theorem writesAreClampedAndForced : Obligations.WritesAreClampedAndForced := by
  refine fun s tag row => ⟨fun r n1 n0 d _ => exhibitConfigWrite_congr (exhibitRecordOf_clamped r n1 n0 d),
    fun a b c d e f l stop v u => ⟨actionEntryWrite_congr (actionContentsOf_wait ..),
      actionEntryWrite_congr (actionContentsOf_refer ..), actionEntryWrite_congr (actionContentsOf_count ..)⟩,
    fun rest h => actionEntryWrite_congr (actionContentsOf_free h),
    fun r a1 a0 f1 f0 settle claim ignored _ hi => axisParameterWrite_congr (axisRowOf_clamped r _ _ _ _ _ _ hi),
    fun g c1 c0 _ => segmentWrite_congr (segmentOf_clamped ..), fun cls r h k n1 n0 _ hrow => ?_⟩
  subst hrow
  refine (alertClassWrite_congr (alertClassOf_clamped cls r h k n1 n0)).trans ?_
  rw [Bool.decide_or (cls = clsEstop ∨ cls = clsAxisFault)]; rfl

end

section
/-! The moves of a runner whose exhibit owns no axis (R66, R83), and the ends of its waits and referrals (R74, R80, R81). -/

namespace Sys2Proof.Machine

variable {p s : Gx24} {e : Fin 16}

/-! ### A runner leaves its entry -/

theorem runnerOf_modRunner_same (e : Fin 16) (f : Runner → Runner) (s : Gx24) :
    runnerOf e (modRunner e f s) = f (runnerOf e s) := by simp [runnerOf]

/-- A mask event as the Activity Unit it leaves. -/
theorem maskEvent_eq (e : Fin 16) (member : IdleMask → Bool) (s : Gx24) :
    maskEvent e member s = { s with ac := if member (exhibitOf e s).record.mask then
      { s.ac with idle := tput s.ac.idle e (exhibitOf e s).record.idleReload } else s.ac } := by
  unfold maskEvent; split <;> rfl

theorem Gx24.MovesNothing.ownsNothing (h : s.MovesNothing e) (a : Fin 8) : ownsAxis e a s = false := (h a).1

/-- Without an axis of the exhibit's no LOOP program has to be let finish. -/
theorem chainEnd_of_ownsNothing (h : ∀ a, ownsAxis e a s = false) : chainEnd e s = s.chainCompleted e := by
  have noLoop : loopsToEnd e s = s := forRows_id fun a => by rw [h a]; rfl
  unfold chainEnd; dsimp only; rw [noLoop, maskEvent_eq]; rfl

theorem follow_of_ownsNothing (l : Link) (h : ∀ a, ownsAxis e a s = false) : follow e l s = s.linkTaken e l :=
  match l with
  | .to _ => rfl
  | .endOfChain => chainEnd_of_ownsNothing h

/-! ### The last tick of a wait (R74, R81) -/

theorem ticking_iff : ticking s = true ↔ s.gc.state ≠ .unsynced := decide_eq_true_iff

theorem endWait_of_over (hs : (runnerOf e s).state = .waitTicks) (hw : (runnerOf e s).wait = 0) :
    endWait e s = leave e s := if_pos ⟨hs, hw⟩

theorem timeOutReferral_of_over (hs : (runnerOf e s).state = .waitVerdict) (hw : (runnerOf e s).wait = 0) :
    timeOutReferral e s = takeDefault e s := if_pos ⟨hs, hw⟩

/-- At a REFER entry the default's link is taken, counted (R79). -/
theorem takeDefault_of_refer {tag : Byte} {n : Nat} {d : Verdict} {go stop : Link} (still : s.MovesNothing e)
    (hact : entryOf e s = .refer tag n d go stop) :
    takeDefault e s = (growExhibit e .referralsDefaulted 1 s).linkTaken e (if d = .go then go else stop) := by
  unfold takeDefault; rw [hact]; exact follow_of_ownsNothing _ still.ownsNothing

/-- The runner with its wait at 0 stands where it stood, in the same state. -/
theorem runnerOf_waited (e : Fin 16) (p : Gx24) :
    runnerOf e (modRunner e (fun r => { r with wait := 0 }) p) = { runnerOf e p with wait := 0 } :=
  runnerOf_modRunner_same ..

theorem entryOf_waited (e : Fin 16) (p : Gx24) :
    entryOf e (modRunner e (fun r => { r with wait := 0 }) p) = actionAt (runnerOf e p).index p := by
  unfold entryOf; rw [runnerOf_waited]; rfl

theorem eventWaitTicksEnd_last (last : p.gc.state ≠ .unsynced ∧ (runnerOf e p).wait ≤ 1)
    (hs : (runnerOf e p).state = .waitTicks) (still : p.MovesNothing e) :
    eventWaitTicksEnd e p = Gx24.linkTaken e (actionAt (runnerOf e p).index p).link
      (p.withRunner e (fun r => { r with wait := 0 })) := by
  have due : eventWaitTicksEnd e p = endWait e (modRunner e (fun r => { r with wait := 0 }) p) :=
    if_pos ⟨ticking_iff.mpr last.1, hs, last.2⟩
  rw [due, endWait_of_over (by rw [runnerOf_waited]; exact hs) (by rw [runnerOf_waited]), leave, entryOf_waited]
  exact follow_of_ownsNothing _ still.ownsNothing

theorem eventWaitTicksEnd_early
    (early : ¬((p.gc.state ≠ .unsynced ∧ (runnerOf e p).wait ≤ 1) ∧ (runnerOf e p).state = .waitTicks)) :
    eventWaitTicksEnd e p = p :=
  if_neg fun ⟨clock, hs, hw⟩ => early ⟨⟨ticking_iff.mp clock, hw⟩, hs⟩

theorem eventReferralTimeout_last {tag : Byte} {n : Nat} {d : Verdict} {go stop : Link}
    (last : p.gc.state ≠ .unsynced ∧ (runnerOf e p).wait ≤ 1) (hs : (runnerOf e p).state = .waitVerdict)
    (still : p.MovesNothing e) (hact : actionAt (runnerOf e p).index p = .refer tag n d go stop) :
    eventReferralTimeout e p = Gx24.linkTaken e (if d = .go then go else stop)
      (growExhibit e .referralsDefaulted 1 (p.withRunner e (fun r => { r with wait := 0 }))) := by
  have due : eventReferralTimeout e p = timeOutReferral e (modRunner e (fun r => { r with wait := 0 }) p) :=
    if_pos ⟨ticking_iff.mpr last.1, hs, last.2⟩
  rw [due, timeOutReferral_of_over (by rw [runnerOf_waited]; exact hs) (by rw [runnerOf_waited])]
  exact takeDefault_of_refer still ((entryOf_waited e p).trans hact)

theorem eventReferralTimeout_early
    (early : ¬((p.gc.state ≠ .unsynced ∧ (runnerOf e p).wait ≤ 1) ∧ (runnerOf e p).state = .waitVerdict)) :
    eventReferralTimeout e p = p :=
  if_neg fun ⟨clock, hs, hw⟩ => early ⟨⟨ticking_iff.mp clock, hw⟩, hs⟩

/-! ### Frames for this part -/

/-- A frame for this part whose owner makes `t` of the part that has counted it. -/
theorem Gx24.Quiet.takes_as {handle : Gx24 → Gx24} {t : Gx24} (h : p.Quiet) (ha : p.Addressed) (q : List Instr)
    (ht : handle (growTrunk .framesTaken p) = t) : State.act (takeFrame handle) ⟨p, q⟩ = .next ⟨settle t, q⟩ := by
  rw [h.takes ha q, ht]

/-- The same where the owner gives no notice. -/
theorem Gx24.Quiet.takes_still_as {handle : Gx24 → Gx24} {t : Gx24} (h : p.Quiet) (ha : p.Addressed) (q : List Instr)
    (ht : handle (growTrunk .framesTaken p) = t) (hw : t.work = []) :
    State.act (takeFrame handle) ⟨p, q⟩ = .next ⟨t, q⟩ := by rw [h.takes_as ha q ht, settle_of_empty hw]

/-! ### Verdicts (R80) -/

theorem takeVerdict_stray {serial : Serial} (v : Verdict) (h : (runnerOf e s).lastReferral ≠ some serial) :
    takeVerdict e serial v s = growExhibit e .verdictsStray 1 s := if_pos h

theorem takeVerdict_late {serial : Serial} (v : Verdict) (h : (runnerOf e s).lastReferral = some serial)
    (hs : (runnerOf e s).state ≠ .waitVerdict) : takeVerdict e serial v s = growExhibit e .verdictsLate 1 s := by
  unfold takeVerdict; dsimp only; rw [if_neg (not_not_intro h), if_neg hs]

theorem takeVerdict_taken {serial : Serial} {tag : Byte} {n : Nat} {d : Verdict} {go stop : Link} (v : Verdict)
    (h : (runnerOf e s).lastReferral = some serial) (hs : (runnerOf e s).state = .waitVerdict)
    (still : s.MovesNothing e) (hact : entryOf e s = .refer tag n d go stop) :
    takeVerdict e serial v s = (growExhibit e .verdictsTaken 1 s).linkTaken e (if v = .go then go else stop) := by
  unfold takeVerdict; dsimp only
  rw [if_neg (not_not_intro h), if_pos hs, hact]
  exact follow_of_ownsNothing _ still.ownsNothing

theorem verdict_ofCode_code (v : Verdict) : Verdict.ofCode v.code = some v := by cases v <;> rfl

theorem verdict_ofCode_of_le {b : Byte} (h : 2 ≤ b.toNat) : Verdict.ofCode b = none := by
  unfold Verdict.ofCode; split
  · omega
  · omega
  · rfl

theorem handleVerdict_of_range {exhibit verdict : Byte} (serial : Byte) (h : 16 ≤ exhibit.toNat ∨ 2 ≤ verdict.toNat) :
    handleVerdict exhibit serial verdict s = frameError s := by
  unfold handleVerdict
  obtain h | h := h
  · rw [indexOf_of_le h]
  · rw [verdict_ofCode_of_le h]; cases indexOf 16 exhibit <;> rfl

theorem handleVerdict_named (e : Fin 16) (v : Verdict) (serial : Byte) (s : Gx24) :
    handleVerdict (byteOf e.val) serial v.code s = takeVerdict e (serial.extractLsb' 0 4) v s := by
  unfold handleVerdict; rw [indexOf_byteOf, verdict_ofCode_code]

end Sys2Proof.Machine

open Sys2Proof Sys2Proof.Machine

/-- Settles O33: each command's guard is the statement's, and the runner's exhibit owns no axis when it goes on. -/
theorem waitsAndReferralsEnd : Obligations.WaitsAndReferralsEnd := by
  refine ⟨fun p q e h still => ⟨fun last hs => ?_, fun early => h.unchanged q (eventWaitTicksEnd_early early),
    fun tag n d go stop last hs hact => ?_, fun early => h.unchanged q (eventReferralTimeout_early early)⟩,
    fun p q exhibit serial verdict h ha => ⟨fun range => ?_, ?_⟩⟩
  · exact (h.runs q (eventWaitTicksEnd e)).trans (by rw [eventWaitTicksEnd_last last hs still])
  · exact (h.runs q (eventReferralTimeout e)).trans (by rw [eventReferralTimeout_last last hs still hact])
  · exact h.takes_still_as ha q (handleVerdict_of_range serial range) h.2
  · rintro e v rfl rfl
    have named := handleVerdict_named e v serial (growTrunk .framesTaken p)
    refine ⟨fun stray => ?_, fun latest hs => ?_, fun tag n d go stop latest hs still hact => ?_⟩
    · exact h.takes_still_as ha q (named.trans (takeVerdict_stray v stray)) h.2
    · exact h.takes_still_as ha q (named.trans (takeVerdict_late v latest hs)) h.2
    · exact h.takes_as ha q (named.trans (takeVerdict_taken v latest hs still hact))

end

section
/-! The claim that wins (R111), and the claim whose time runs out (R113). -/

namespace Sys2Proof.Machine

variable {p s : Gx24} {x : Axis} {a : Fin 8} {b c d : Claim}

/-! ### The winner (R111) -/

/-- A claim is not granted before another when its origin is no higher, nor, among equal origins, its rank earlier. -/
theorem grantedBefore_false_iff : grantedBefore x d c = false ↔ d.origin.rank ≤ c.origin.rank ∧
    (d.origin.rank = c.origin.rank → grantRank x c.claimant ≤ grantRank x d.claimant) := by
  simp [grantedBefore]

theorem grantedBefore_false_trans (hd : grantedBefore x d c = false) (hc : grantedBefore x c b = false) :
    grantedBefore x d b = false := by
  rw [grantedBefore_false_iff] at *
  omega

/-- The claim that stands after another has been looked at (R111). -/
def betterClaim (x : Axis) (b c : Claim) : Claim := if grantedBefore x c b then c else b

theorem betterClaim_mem (x : Axis) (b c : Claim) : betterClaim x b c = b ∨ betterClaim x b c = c := by
  unfold betterClaim; split
  · exact .inr rfl
  · exact .inl rfl

/-- Neither of the two is granted before the better. -/
theorem not_grantedBefore_betterClaim (x : Axis) (b c : Claim) :
    grantedBefore x b (betterClaim x b c) = false ∧ grantedBefore x c (betterClaim x b c) = false := by
  unfold betterClaim; split
  · simp_all [grantedBefore]; omega
  · simp_all [grantedBefore]

theorem foldl_betterClaim_spec (x : Axis) (l : List Claim) (b : Claim) :
    l.foldl (betterClaim x) b ∈ b :: l ∧ ∀ d ∈ b :: l, grantedBefore x d (l.foldl (betterClaim x) b) = false := by
  induction l generalizing b with
  | nil => simp [grantedBefore]
  | cons c l ih =>
    obtain ⟨mem, first⟩ := ih (betterClaim x b c)
    obtain ⟨hb, hc⟩ := not_grantedBefore_betterClaim x b c
    have best := first _ List.mem_cons_self
    simp only [List.foldl_cons, List.mem_cons, forall_eq_or_imp] at mem first ⊢
    refine ⟨?_, grantedBefore_false_trans hb best, grantedBefore_false_trans hc best, first.2⟩
    obtain here | later := mem
    · rw [here]; obtain h | h := betterClaim_mem x b c <;> simp [h]
    · exact .inr (.inr later)

/-- The winner is the best of the claims, each looked at in turn. -/
theorem winner_of_cons {l : List Claim} (h : x.claims = b :: l) : winner x = some (l.foldl (betterClaim x) b) := by
  unfold winner
  rw [h, List.foldl_cons]
  refine (List.foldl_hom some fun b c => ?_).symm ▸ rfl
  dsimp only; unfold betterClaim; split <;> rfl

theorem winner_of_nil (h : x.claims = []) : winner x = none := by unfold winner; rw [h]; rfl

theorem winner_spec (h : winner x = some c) : c ∈ x.claims ∧ ∀ d ∈ x.claims, grantedBefore x d c = false := by
  cases hl : x.claims with
  | nil => rw [winner_of_nil hl] at h; nomatch h
  | cons b l =>
    obtain rfl : l.foldl (betterClaim x) b = c := Option.some.inj ((winner_of_cons hl).symm.trans h)
    exact foldl_betterClaim_spec x l b

theorem winner_isSome (h : x.claims ≠ []) : (winner x).isSome := by
  obtain ⟨b, l, hl⟩ := List.exists_cons_of_ne_nil h
  rw [winner_of_cons hl]; rfl

/-! ### The claim that runs out (R113) -/

/-- The claim once its claimant's time has run out. -/
def Claim.runOut (k : Claimant) (d : Claim) : Claim := if d.claimant = k then { d with timeLeft := 0 } else d

theorem find?_runOut (k : Claimant) (l : List Claim) :
    (l.map (Claim.runOut k)).find? (fun d => decide (d.claimant = k) && decide (d.timeLeft ≤ 0)) =
      (l.find? (fun d => decide (d.claimant = k))).map (Claim.runOut k) := by
  rw [List.find?_map]
  congr 2
  funext d
  by_cases h : d.claimant = k <;> simp [Claim.runOut, h]

theorem filter_runOut (k : Claimant) (l : List Claim) :
    (l.map (Claim.runOut k)).filter (fun d => decide (d.claimant ≠ k)) =
      l.filter (fun d => decide (d.claimant ≠ k)) := by
  induction l with
  | nil => rfl
  | cons d l ih => by_cases h : d.claimant = k <;> simp_all [Claim.runOut]

/-- A claim of this claimant is removed from the axis and counted as skipped (R113). -/
abbrev Gx24.claimSkipped (a : Fin 8) (k : Claimant) (s : Gx24) : Gx24 :=
  (growAxis a .claimsSkipped s).withAxis a (fun x => { x with
    claims := x.claims.filter (fun d => decide (d.claimant ≠ k)) })

theorem timeOutClaim_of_found {k : Claimant}
    (h : (axisOf a s).claims.find? (fun d => decide (d.claimant = k) && decide (d.timeLeft ≤ 0)) = some d) :
    timeOutClaim a k s = claimResult a d .skipped .none (s.claimSkipped a k) := by
  unfold timeOutClaim; rw [h]; rfl

/-- The claimant's result tells of the job alone, not of the time left. -/
theorem claimResult_runOut (a : Fin 8) (k : Claimant) (d : Claim) (r : MoveResult) (why : RefuseReason) (s : Gx24) :
    claimResult a (d.runOut k) r why s = claimResult a d r why s := by
  unfold Claim.runOut; split <;> rfl

theorem eventClaimTimeout_expired {k : Claimant}
    (hd : (axisOf a p).claims.find? (fun d => decide (d.claimant = k)) = some d)
    (clock : p.gc.state ≠ .unsynced) (ht : d.timeLeft ≤ 1) :
    eventClaimTimeout a k p = claimResult a d .skipped .none (p.claimSkipped a k) := by
  let t := modAxis a (fun x => { x with claims := x.claims.map (Claim.runOut k) }) p
  have due : eventClaimTimeout a k p = timeOutClaim a k t := by
    unfold eventClaimTimeout; rw [hd]; exact if_pos ⟨ticking_iff.mpr clock, ht⟩
  have found : (axisOf a t).claims.find? (fun d => decide (d.claimant = k) && decide (d.timeLeft ≤ 0)) =
      some (d.runOut k) := by
    rw [Kept.axisOf_modAxis_same, find?_runOut, hd]; rfl
  have removed : t.claimSkipped a k = p.claimSkipped a k := by
    refine (modAxis_modAxis a _ _ (growAxis a .claimsSkipped p)).trans ?_
    simp only [filter_runOut]; rfl
  rw [due, timeOutClaim_of_found found, removed, claimResult_runOut]

theorem eventClaimTimeout_idle {k : Claimant}
    (h : (axisOf a p).claims.find? (fun d => decide (d.claimant = k)) = none ∨ p.gc.state = .unsynced) :
    eventClaimTimeout a k p = p := by
  unfold eventClaimTimeout
  split
  · next hd => exact if_neg fun ⟨clock, _⟩ => h.elim (by rw [hd]; nofun) (ticking_iff.mp clock)
  · rfl

theorem eventClaimTimeout_early {k : Claimant}
    (hd : (axisOf a p).claims.find? (fun d => decide (d.claimant = k)) = some d)
    (ht : 1 < d.timeLeft) : eventClaimTimeout a k p = p := by
  unfold eventClaimTimeout; rw [hd]; exact if_neg fun due => absurd due.2 (by omega)

/-! ### What the claimant is told (R75, R114) -/

theorem claimResult_reply {k : Claimant} (hk : d.claimant = k) (frame : k = .headEnd ∨ k = .maintenance) (r : MoveResult)
    (why : RefuseReason) (s : Gx24) : claimResult a d r why s = sendUp (moveReplyOf a k d.job r why) s := by
  obtain rfl | rfl := frame <;> (unfold claimResult; rw [hk]; rfl)

theorem axisOf_modAxis (a b : Fin 8) (f : Axis → Axis) (s : Gx24) :
    axisOf b (modAxis a f s) = if a = b then f (axisOf a s) else axisOf b s := tget_tmod ..

/-- A change of an axis that leaves its owner leaves who owns what. -/
theorem ownsAxis_modAxis {f : Axis → Axis} (hf : ∀ x, (f x).owner = x.owner) (e : Fin 16) (a b : Fin 8) (s : Gx24) :
    ownsAxis e b (modAxis a f s) = ownsAxis e b s := by
  have owner : (axisOf b (modAxis a f s)).owner = (axisOf b s).owner := by
    rw [axisOf_modAxis]; split
    · next h => rw [hf, h]
    · rfl
  unfold ownsAxis; rw [owner]

theorem ownsAxis_claimSkipped (e : Fin 16) (a b : Fin 8) (k : Claimant) (s : Gx24) :
    ownsAxis e b (s.claimSkipped a k) = ownsAxis e b s :=
  ownsAxis_modAxis (f := fun x => { x with claims := x.claims.filter (fun d => decide (d.claimant ≠ k)) })
    (fun _ => rfl) e a b (growAxis a .claimsSkipped s)

theorem awaitsClaim_iff {e : Fin 16} :
    awaitsClaim e a s = true ↔ (runnerOf e s).state = .waitClaim ∧ (runnerOf e s).awaitedAxis = some a := by
  simp [awaitsClaim]

/-- A chain whose claim comes to nothing goes on past its MOVE, counted (R75, R86). -/
theorem runnerSkipped_awaiting {e : Fin 16} (hs : (runnerOf e s).state = .waitClaim)
    (ha : (runnerOf e s).awaitedAxis = some a) (free : ∀ b, ownsAxis e b s = false) :
    runnerSkipped e a s =
      Gx24.linkTaken e (actionAt (runnerOf e s).index s).link (growExhibit e .movesSkipped 1 s) :=
  (if_pos (awaitsClaim_iff.mpr ⟨hs, ha⟩)).trans (follow_of_ownsNothing _ free)

end Sys2Proof.Machine

open Sys2Proof Sys2Proof.Machine

/-- Settles O39: the winner is the best of the claims looked at in turn; a claim run out leaves the axis, and its claimant
hears of it. -/
theorem claimsWinOrTimeOut : Obligations.ClaimsWinOrTimeOut := by
  refine ⟨fun x => ⟨winner_isSome, fun c hc => ?_⟩, fun p q a k h =>
    ⟨fun idle => h.unchanged q (eventClaimTimeout_idle idle), fun d hd clock =>
      ⟨fun early => h.unchanged q (eventClaimTimeout_early hd early), fun ht frame => ?_,
        fun e ht hk hs ha free => ?_⟩⟩⟩
  · obtain ⟨mem, best⟩ := winner_spec hc
    refine ⟨mem, fun d hd => ?_⟩
    obtain ⟨rank, order⟩ := grantedBefore_false_iff.mp (best d hd)
    exact ⟨rank, fun same => order (congrArg Origin.rank same)⟩
  all_goals
    have claimant : d.claimant = k :=
      of_decide_eq_true (List.find?_some (p := fun d : Claim => decide (d.claimant = k)) hd)
    have expired := eventClaimTimeout_expired hd clock ht
  · rw [claimResult_reply claimant frame] at expired
    exact (h.runs_still q (f := eventClaimTimeout a k) (by rw [expired, sendUp_work]; exact h.2)).trans (by rw [expired])
  · subst hk
    have told : eventClaimTimeout a (.exhibit e) p = runnerSkipped e a (p.claimSkipped a (.exhibit e)) := by
      rw [expired]; unfold claimResult; rw [claimant]; rfl
    refine (h.runs q (eventClaimTimeout a (.exhibit e))).trans ?_
    rw [told, runnerSkipped_awaiting (s := p.claimSkipped a (.exhibit e)) hs ha fun b =>
      (ownsAxis_claimSkipped ..).trans (free b)]
    rfl

end

section
/-! What a fault does to the axis, its owner and its claimants (R77, R84, R114, R123). -/

namespace Sys2Proof.Machine

variable {p s t : Gx24} {a : Fin 8} {e : Fin 16} {f : Axis → Axis}

/-! ### What reads nothing of a changed axis -/

theorem sendUp_modAxis (u : UpFrame) (a : Fin 8) (f : Axis → Axis) (s : Gx24) :
    sendUp u (modAxis a f s) = modAxis a f (sendUp u s) := by
  unfold sendUp; rw [modAxis_tp]; split <;> rfl

theorem growExhibit_modAxis (e : Fin 16) (c : ExhibitCounter) (n : Nat) (a : Fin 8) (f : Axis → Axis) (s : Gx24) :
    growExhibit e c n (modAxis a f s) = modAxis a f (growExhibit e c n s) := rfl

theorem linkTaken_modAxis (e : Fin 16) (l : Link) (a : Fin 8) (f : Axis → Axis) (s : Gx24) :
    (modAxis a f s).linkTaken e l = modAxis a f (s.linkTaken e l) := by cases l <;> rfl

theorem linkTaken_mu (e : Fin 16) (l : Link) (s : Gx24) : (s.linkTaken e l).mu = s.mu := by cases l <;> rfl

theorem linkTaken_exhibits (e : Fin 16) (l : Link) (s : Gx24) : (s.linkTaken e l).exhibits = s.exhibits := by
  cases l <;> rfl

/-- Who owns what is a matter of the axes. -/
theorem ownsAxis_congr (h : t.mu = s.mu) (e : Fin 16) (b : Fin 8) : ownsAxis e b t = ownsAxis e b s := by
  unfold ownsAxis axisOf; rw [h]

/-! ### The claimants are refused (R114, R123) -/

/-- A claim on a faulted axis is refused: a chain that awaits it goes on past its MOVE, HEAD-END and MAINTENANCE have a
MOVE-REPLY (R75, R114). -/
def Gx24.claimRefused (a : Fin 8) (s : Gx24) (d : Claim) : Gx24 :=
  match d.claimant with
  | .exhibit e =>
    if (runnerOf e s).state = .waitClaim ∧ (runnerOf e s).awaitedAxis = some a then
      Gx24.linkTaken e (actionAt (runnerOf e s).index s).link (growExhibit e .movesSkipped 1 s)
    else s
  | .headEnd => sendUp (moveReplyOf a .headEnd d.job .refused .fault) s
  | .maintenance => sendUp (moveReplyOf a .maintenance d.job .refused .fault) s

theorem claimRefused_mu (a : Fin 8) (s : Gx24) (d : Claim) : (s.claimRefused a d).mu = s.mu := by
  unfold Gx24.claimRefused; split
  · split
    · exact linkTaken_mu ..
    · rfl
  · exact sendUp_mu ..
  · exact sendUp_mu ..

theorem claimRefused_exhibits (a : Fin 8) (s : Gx24) (d : Claim) : (s.claimRefused a d).exhibits = s.exhibits := by
  unfold Gx24.claimRefused; split
  · split
    · exact linkTaken_exhibits ..
    · rfl
  · exact sendUp_exhibits ..
  · exact sendUp_exhibits ..

theorem foldl_claimRefused_exhibits (a : Fin 8) (l : List Claim) (s : Gx24) :
    (l.foldl (Gx24.claimRefused a) s).exhibits = s.exhibits := by
  induction l generalizing s with
  | nil => rfl
  | cons d l ih => rw [List.foldl_cons, ih, claimRefused_exhibits]

/-- A refusal does not look at the axis, and the chain refused has none to let finish. -/
theorem claimResult_refused {d : Claim}
    (free : ∀ e, d.claimant = .exhibit e → ∀ b, ownsAxis e b (modAxis a f s) = false) :
    claimResult a d .refused .fault (modAxis a f s) = modAxis a f (s.claimRefused a d) := by
  unfold claimResult Gx24.claimRefused
  cases hd : d.claimant with
  | headEnd => exact sendUp_modAxis ..
  | maintenance => exact sendUp_modAxis ..
  | exhibit e =>
    dsimp only
    rw [if_neg (by nofun)]
    split
    · next awaits =>
      rw [runnerSkipped_awaiting (s := modAxis a f s) awaits.1 awaits.2 (free e hd), growExhibit_modAxis,
        linkTaken_modAxis]
      rfl
    · next other => exact if_neg fun h => other (awaitsClaim_iff.mp h)

theorem forList_claimResult_refused {l : List Claim}
    (free : ∀ d ∈ l, ∀ e, d.claimant = .exhibit e → ∀ b, ownsAxis e b (modAxis a f s) = false) :
    forList l (fun d s => claimResult a d .refused .fault s) (modAxis a f s) =
      modAxis a f (l.foldl (Gx24.claimRefused a) s) := by
  induction l generalizing s with
  | nil => rfl
  | cons d l ih =>
    rw [forList_cons, claimResult_refused (free d List.mem_cons_self), List.foldl_cons]
    refine ih fun d' hd' e he b => ?_
    rw [ownsAxis_congr (s := modAxis a f s) (by simp [claimRefused_mu])]
    exact free d' (List.mem_cons_of_mem _ hd') e he b

/-! ### The fault of an axis (R123) -/

/-- The axis that has entered FAULT: drive-enable off, its program at an end (R102, R103). -/
abbrev Axis.failed (x : Axis) : Axis := x.driveOff.ended .fault

/-- The axis in FAULT that nobody owns or claims any more. -/
def Axis.stopped (x : Axis) : Axis := { x.failed with owner := none, claims := [] }

theorem ownsAxis_stopped (h : ∀ b, b ≠ a → ownsAxis e b s = false) (b : Fin 8) :
    ownsAxis e b (modAxis a Axis.stopped s) = false := by
  by_cases hb : a = b
  · subst hb; unfold ownsAxis; rw [Kept.axisOf_modAxis_same]; rfl
  · rw [← h b (Ne.symm hb)]; unfold ownsAxis; rw [axisOf_modAxis, if_neg hb]

/-- The claimants are refused, the fault is recorded and AXIS-FAULT raised, once the owner has been told (R123). -/
def Gx24.faultAfter (p : Gx24) (a : Fin 8) (c : FaultCause) (told : Gx24) : Gx24 :=
  raise (keyAxisFault a c p) ((growAxis a c.counter ((axisOf a p).claims.foldl (Gx24.claimRefused a) told)).withAxis a
    (fun x => x.faulted c (keyAxisFault a c p)))

theorem keyAxisFault_congr (h : t.exhibits = s.exhibits) (a : Fin 8) (c : FaultCause) :
    keyAxisFault a c t = keyAxisFault a c s := by
  unfold keyAxisFault lowestListing lists exhibitOf; rw [h]

/-- The fault's record is made of the axis that has stopped. -/
theorem recordFault_stopped (a : Fin 8) (c : FaultCause) (s : Gx24) :
    recordFault a c (modAxis a Axis.stopped s) = raise (keyAxisFault a c s)
      ((growAxis a c.counter s).withAxis a (fun x => x.faulted c (keyAxisFault a c s))) := by
  unfold recordFault; dsimp only; rw [modAxis_modAxis]; rfl

theorem refuseAll_stopped {told : Gx24} (mu : told.mu = p.mu)
    (free : ∀ d ∈ (axisOf a p).claims, ∀ e, d.claimant = .exhibit e → ∀ b, b ≠ a → ownsAxis e b p = false) :
    refuseAll a .fault (modAxis a (fun x => { x with owner := none }) (modAxis a Axis.failed told)) =
      modAxis a Axis.stopped ((axisOf a p).claims.foldl (Gx24.claimRefused a) told) := by
  have claims : (axisOf a told).claims = (axisOf a p).claims := by unfold axisOf; rw [mu]
  unfold refuseAll; dsimp only
  rw [modAxis_modAxis, modAxis_modAxis, Kept.axisOf_modAxis_same]
  rw [← claims] at free ⊢
  exact forList_claimResult_refused fun d hd e he => ownsAxis_stopped fun b hb =>
    (ownsAxis_congr mu e b).trans (free d hd e he b hb)

/-- A fault of an axis whose owner's notice makes `told` of the part, the axis aside. -/
theorem faultAxis_of_told {told : Gx24} (c : FaultCause) (off : (axisOf a p).state ≠ .off)
    (fault : (axisOf a p).state ≠ .fault)
    (free : ∀ d ∈ (axisOf a p).claims, ∀ e, d.claimant = .exhibit e → ∀ b, b ≠ a → ownsAxis e b p = false)
    (mu : told.mu = p.mu) (exhibits : told.exhibits = p.exhibits)
    (tell : tellOwner a (axisOf a p).owner (axisOf a p).job .fault (modAxis a Axis.failed p) =
      modAxis a Axis.failed told) :
    faultAxis a c p =
      if (axisOf a p).disabling then goOff a (p.faultAfter a c told) else p.faultAfter a c told := by
  unfold faultAxis; dsimp only
  rw [if_neg (by simp [off, fault]), tell, refuseAll_stopped mu free, recordFault_stopped,
    keyAxisFault_congr ((foldl_claimRefused_exhibits ..).trans exhibits)]
  rfl

theorem faultAxis_standing (c : FaultCause) (h : (axisOf a p).state = .off ∨ (axisOf a p).state = .fault) :
    faultAxis a c p = p := if_pos h

/-! ### The owner is told (R77, R114) -/

theorem tellOwner_nobody {o : Option Owner} {j : Option Job} (r : MoveResult) (h : o = none ∨ j = none) :
    tellOwner a o j r s = s := by
  obtain rfl | rfl := h
  · rfl
  · cases o <;> rfl

theorem tellOwner_reply {k : Claimant} (frame : k = .headEnd ∨ k = .maintenance) (o : Origin) (j : Job) (r : MoveResult) :
    tellOwner a (some ⟨k, o⟩) (some j) r s = sendUp (moveReplyOf a k j r .none) s := by
  obtain rfl | rfl := frame <;> rfl

theorem awaitsEnd_iff :
    awaitsEnd e a s = true ↔ (runnerOf e s).state = .waitDone ∧ (runnerOf e s).awaitedAxis = some a := by
  simp [awaitsEnd]

theorem tellOwner_other {o : Origin} {j : Option Job} (r : MoveResult)
    (h : ¬((runnerOf e s).state = .waitDone ∧ (runnerOf e s).awaitedAxis = some a)) :
    tellOwner a (some ⟨.exhibit e, o⟩) j r s = s := by
  cases j with
  | none => rfl
  | some j => exact if_neg fun awaits => h (awaitsEnd_iff.mp awaits)

theorem tellOwner_fault_awaited {o : Origin} {j : Job} (hs : (runnerOf e s).state = .waitDone)
    (ha : (runnerOf e s).awaitedAxis = some a) :
    tellOwner a (some ⟨.exhibit e, o⟩) (some j) .fault s = abortReported e s :=
  if_pos (awaitsEnd_iff.mpr ⟨hs, ha⟩)

theorem haltNowWith_of_fault {fin : Fin 8 → Gx24 → Gx24} (h : (axisOf a s).state = .fault) :
    haltNowWith fin a s = s := by
  unfold haltNowWith; dsimp only; rw [h]

theorem withdrawClaims_of_noClaim (h : ∀ b, ∀ d ∈ (axisOf b s).claims, d.claimant ≠ .exhibit e) :
    withdrawClaims e s = s :=
  forRows_id fun b => modAxis_eq_self <| by rw [List.filter_eq_self.mpr fun d hd => decide_eq_true (h b d hd)]

/-- An abort moves no axis where the exhibit has no claim pending and owns none but axes in FAULT (R84, R98). -/
theorem abortReported_of_faulted (hr : (runnerOf e s).state ≠ .free)
    (noClaim : ∀ b, ∀ d ∈ (axisOf b s).claims, d.claimant ≠ .exhibit e)
    (faulted : ∀ b, ownsAxis e b s = true → (axisOf b s).state = .fault) : abortReported e s = s.chainAborted e := by
  have withdrawn : withdrawClaims e (modRunner e Runner.freed s) = _ := withdrawClaims_of_noClaim noClaim
  have halted : haltOwned e (modRunner e Runner.freed s) = modRunner e Runner.freed s := forRows_id fun b => by
    split
    · next owned => exact haltNowWith_of_fault (faulted b owned)
    · rfl
  unfold abortReported abortChain; dsimp only
  rw [if_neg hr, if_neg hr, withdrawn, halted]; rfl

/-- The chain that awaits the end of the program of the faulted axis, its only one, is aborted (R77). -/
theorem abortReported_ended (hr : (runnerOf e p).state ≠ .free)
    (noClaim : ∀ b, ∀ d ∈ (axisOf b p).claims, d.claimant ≠ .exhibit e)
    (others : ∀ b, b ≠ a → ownsAxis e b p = false) :
    abortReported e (modAxis a Axis.failed p) =
      modAxis a Axis.failed (p.chainAborted e) := by
  refine abortReported_of_faulted hr (fun b => ?_) (fun b owned => ?_)
  · rw [axisOf_modAxis]; split
    · exact noClaim a
    · exact noClaim b
  · rw [ownsAxis_modAxis (f := Axis.failed) fun _ => rfl] at owned
    obtain rfl : b = a := by_contra fun hb => by rw [others b hb] at owned; nomatch owned
    rw [Kept.axisOf_modAxis_same]; rfl

end Sys2Proof.Machine
end

section
/-! The recovery of an axis from FAULT (R117, R124). -/

namespace Sys2Proof.Machine

variable {s : Gx24} {a : Fin 8} {st : Fin 24} {key : AlertKey}

theorem modAxis_congr {f g : Axis → Axis} (h : f (axisOf a s) = g (axisOf a s)) : modAxis a f s = modAxis a g s := by
  have row : f (tget s.mu.axes a) = g (tget s.mu.axes a) := h
  unfold modAxis tmod; rw [row]

/-! ### The guard on the way out of FAULT (R117, R120) -/

/-- Whether the guard is open is no matter of where the axis stands. -/
theorem guardIsOpen_placed (a : Fin 8) (position : Int) (s : Gx24) :
    guardIsOpen a (modAxis a (fun x => x.placed position) s) = guardIsOpen a s := by
  unfold guardIsOpen; rw [Kept.axisOf_modAxis_same]; rfl

theorem endGuardHeld_of_none (h : (axisOf a s).guardHeldKey = none) :
    endGuardHeld a s = modAxis a (fun x => { x with guardOpenTime := 0 }) s := by
  unfold endGuardHeld; dsimp only; rw [h]
  exact modAxis_congr (by rw [h])

theorem endAxisFault_of_some (h : (axisOf a s).faultKey = some key) :
    endAxisFault a s = endCondition key (modAxis a (fun x => { x with faultKey := none }) s) := by
  unfold endAxisFault; dsimp only; rw [h]

theorem decideGuard_closed (on : (axisOf a s).state ≠ .off) (closed : guardIsOpen a s = false)
    (unheld : (axisOf a s).guardHeldKey = none) :
    decideGuard a s = modAxis a (fun x => { x with guardOpen := false, guardOpenTime := 0 }) s := by
  unfold decideGuard
  rw [if_neg on, if_neg (by simp [closed]), endGuardHeld_of_none (by rw [Kept.axisOf_modAxis_same]; exact unheld),
    modAxis_modAxis]

theorem decideGuard_open_still (on : (axisOf a s).state ≠ .off) (isOpen : guardIsOpen a s = true)
    (wasOpen : (axisOf a s).guardOpen = true) : decideGuard a s = modAxis a (fun x => { x with settleCount := 0 }) s := by
  unfold decideGuard; rw [if_neg on, if_pos isOpen, if_pos wasOpen]

/-! ### The recovery (R124) -/

theorem driveFit_iff : driveFit st s = true ↔
    (stationOf st s).state = .present ∧ (stationOf st s).drive.ready = true ∧ (stationOf st s).drive.fault = false := by
  simp [driveFit, and_assoc]

/-- The three conditions of R124 hold: the record is acknowledged, the drive can carry the axis, ESTOP_N is released. -/
def Gx24.mended (a : Fin 8) (s : Gx24) : Prop :=
  (axisOf a s).state = .fault ∧ (axisOf a s).acked = true ∧
    (∃ st, (axisOf a s).params.drive = some st ∧ (stationOf st s).state = .present ∧
      (stationOf st s).drive.ready = true ∧ (stationOf st s).drive.fault = false) ∧ s.estop = false

theorem recoverTest_unmended (h : ¬ s.mended a) : recoverTest a s = s := by
  unfold recoverTest; dsimp only; split
  · next st hst =>
    exact if_neg fun ⟨fault, acked, fit, released⟩ =>
      h ⟨fault, acked, ⟨st, hst, driveFit_iff.mp fit⟩, by simpa using released⟩
  · rfl

theorem recoverTest_mended (h : s.mended a) (hst : (axisOf a s).params.drive = some st) :
    recoverTest a s = recover a st s := by
  obtain ⟨fault, acked, ⟨st', hst', fit⟩, released⟩ := h
  obtain rfl : st = st' := Option.some.inj (hst.symm.trans hst')
  unfold recoverTest; dsimp only; rw [hst]
  exact if_pos ⟨fault, acked, driveFit_iff.mpr fit, by simpa using released⟩

/-- The axis is placed at the drive's position, its guard is decided, which keeps the key of its raise, and the
condition of that key ends. -/
theorem recover_decided {n : Word} {g : Axis → Axis} (hn : (stationOf st s).drive.position = some n)
    (hk : (axisOf a s).faultKey = some key)
    (decided : decideGuard a (modAxis a (fun x => x.placed (n.toInt * 16)) s) =
      modAxis a g (modAxis a (fun x => x.placed (n.toInt * 16)) s)) (keeps : ∀ x, (g x).faultKey = x.faultKey) :
    recover a st s =
      endCondition key (modAxis a (fun x => { g (x.placed (n.toInt * 16)) with faultKey := none }) s) := by
  have position : reportedPosition st s = n.toInt * 16 := by unfold reportedPosition; rw [hn]; rfl
  unfold recover; dsimp only
  rw [position, decided, modAxis_modAxis, endAxisFault_of_some (key := key), modAxis_modAxis]
  rw [Kept.axisOf_modAxis_same, keeps]; exact hk

theorem recover_closed {n : Word} (hn : (stationOf st s).drive.position = some n)
    (hk : (axisOf a s).faultKey = some key) (unheld : (axisOf a s).guardHeldKey = none)
    (closed : guardIsOpen a s = false) :
    recover a st s = endCondition key (s.withAxis a (fun x =>
      { x.recovered (n.toInt * 16) with guardOpen := false, guardOpenTime := 0 })) := by
  have placed := Kept.axisOf_modAxis_same (s := s) a (fun x => x.placed (n.toInt * 16))
  have decided := decideGuard_closed (by rw [placed]; nofun) ((guardIsOpen_placed ..).trans closed)
    (by rw [placed]; exact unheld)
  rw [recover_decided hn hk decided fun _ => rfl]; rfl

theorem recover_open {n : Word} (hn : (stationOf st s).drive.position = some n)
    (hk : (axisOf a s).faultKey = some key) (isOpen : guardIsOpen a s = true)
    (wasOpen : (axisOf a s).guardOpen = true) :
    recover a st s = endCondition key (s.withAxis a (fun x => x.recovered (n.toInt * 16))) := by
  have placed := Kept.axisOf_modAxis_same (s := s) a (fun x => x.placed (n.toInt * 16))
  have decided := decideGuard_open_still (by rw [placed]; nofun) ((guardIsOpen_placed ..).trans isOpen)
    (by rw [placed]; exact wasOpen)
  rw [recover_decided hn hk decided fun _ => rfl]; rfl

end Sys2Proof.Machine

open Sys2Proof Sys2Proof.Machine

/-- Settles O42: the owner's notice and the refusals do not look at the axis that has stopped; a mended axis is placed, its
guard decided, and its condition ended. -/
theorem faultStopsTheAxis : Obligations.FaultStopsTheAxis := by
  refine ⟨fun p a c => ⟨faultAxis_standing c, fun off fault free => ?_⟩, fun p a => ⟨recoverTest_unmended,
    fun st n key fault acked fit released hst hn hk unheld => ?_⟩⟩
  · have told {t : Gx24} := faultAxis_of_told (told := t) c off fault free
    refine ⟨fun nobody => told rfl rfl (tellOwner_nobody _ nobody), fun k o j owner job frame => ?_,
      fun e o owner other => ?_, fun e o j owner job hs ha others noClaim => ?_⟩
    · refine told (sendUp_mu ..) (sendUp_exhibits ..) ?_
      rw [owner, job, tellOwner_reply frame, sendUp_modAxis]
    · exact told rfl rfl (by rw [owner]; exact tellOwner_other _ other)
    · refine told rfl rfl ?_
      rw [owner, job, tellOwner_fault_awaited (s := modAxis a Axis.failed p) hs ha]
      exact abortReported_ended (by rw [hs]; nofun) noClaim others
  · have met := recoverTest_mended ⟨fault, acked, fit, released⟩ hst
    exact ⟨fun closed => met.trans (recover_closed hn hk unheld closed),
      fun isOpen wasOpen => met.trans (recover_open hn hk isOpen wasOpen)⟩

end

section
/-! ESTOP_N (R103, R107, R125, R126): what keeps every axis still while it is asserted, and what asserting and releasing it
do to MOTION_PWR, to the axes and to the ESTOP record. -/

namespace Sys2Proof.Machine

variable {s t : Gx24} {a : Fin 8}

/-! ### A walk over rows that reaches each of them -/

/-- A walk whose step at each row brings about that row's property, which the steps at the others keep, ends with all of
them. -/
theorem forRows_reaches {σ : Type} {n : Nat} {P : σ → Prop} {Q : Fin n → σ → Prop} {f : Fin n → σ → σ}
    (keeps : ∀ i s, P s → P (f i s)) (makes : ∀ i s, P s → Q i (f i s))
    (stays : ∀ i j s, P s → Q i s → Q i (f j s)) {s : σ} (h : P s) (i : Fin n) : Q i (forRows f s) := by
  suffices ∀ (l : List (Fin n)) (s : σ), P s → i ∈ l ∨ Q i s → Q i (forList l f s) from
    this _ s h (.inl (List.mem_finRange i))
  intro l
  induction l with
  | nil => exact fun _ _ h => h.resolve_left List.not_mem_nil
  | cons j l ih =>
    intro s hs h
    refine ih (f j s) (keeps j s hs) ?_
    obtain hi | hi := h
    · obtain rfl | hi := List.mem_cons.mp hi
      exacts [.inr (makes i s hs), .inl hi]
    · exact .inr (stays i j s hs hi)

/-! ### Still axes -/

theorem Axis.still_iff {x : Axis} :
    x.still = true ↔ (x.state = .off ∨ x.state = .fault) ∧ driveIsOff x.setpoint = true := by simp [Axis.still]

theorem EstopLaw.released (h : s.estop = false) : EstopLaw s := fun asserted => absurd asserted (by simp [h])

theorem EstopLaw.congr (h : EstopLaw s) (he : t.estop = s.estop) (ha : t.mu.axes = s.mu.axes) : EstopLaw t :=
  fun asserted b => by unfold axisOf; rw [ha]; exact h (he ▸ asserted) b

theorem EstopLaw.setPower (h : EstopLaw s) : EstopLaw (setPower s) := h.congr rfl rfl

theorem coreBlind_estopLaw : CoreBlind EstopLaw where
  frame e h := h.congr e.estop e.axes
  up f h := h.congr (sendUp_estop ..) (by rw [sendUp_mu])

/-- A property of one axis that every change allowed under ESTOP_N keeps is kept under ESTOP_N by every operation. -/
theorem kept_underEstop {Q : Axis → Prop} (hQ : ∀ {x y : Axis}, x.Stays y → Q x → Q y) (a : Fin 8) :
    Kept (fun s => s.estop = true ∧ Q (axisOf a s)) := by
  refine CoreBlind.kept ⟨fun e h => ⟨e.estop.trans h.1, ?_⟩, fun f h => ⟨(sendUp_estop ..).trans h.1, ?_⟩⟩ (fun _ h => h)
    (fun b f stays h => ⟨h.1, ?_⟩)
  · unfold axisOf; rw [e.axes]; exact h.2
  · unfold axisOf; rw [sendUp_mu]; exact h.2
  · rw [axisOf_modAxis]; split
    · next same => exact hQ (stays h.1) (same ▸ h.2)
    · exact h.2

theorem kept_still (a : Fin 8) : Kept (fun s => s.estop = true ∧ (axisOf a s).still = true) :=
  kept_underEstop (Q := fun x => x.still = true) (fun k => k.1) a

theorem kept_driveOff (a : Fin 8) : Kept (fun s => s.estop = true ∧ driveIsOff (axisOf a s).setpoint = true) :=
  kept_underEstop (Q := fun x => driveIsOff x.setpoint = true) (fun k => k.2) a

theorem failed_still (x : Axis) : (x.driveOff.ended .fault).still = true :=
  Axis.still_iff.mpr ⟨.inr rfl, Kept.driveOff_still x⟩

/-- Under ESTOP_N a fault leaves an axis still that had drive-enable off already (R123). -/
theorem faultAxis_still (c : FaultCause) (he : s.estop = true) (hd : driveIsOff (axisOf a s).setpoint = true) :
    (axisOf a (faultAxis a c s)).still = true := by
  have k := kept_still a
  unfold faultAxis; dsimp only; split
  · next rests => exact Axis.still_iff.mpr ⟨rests, hd⟩
  · have failed := k.recordFault a c (k.refuseAll a .fault
      (k.axisKeeps a (fun x => { x with owner := none }) (fun _ => rfl) (fun _ => rfl)
        (k.tellOwner a (axisOf a s).owner (axisOf a s).job .fault
          (s := modAxis a (fun x => x.driveOff.ended .fault) s)
          ⟨he, by rw [Kept.axisOf_modAxis_same]; exact failed_still _⟩)))
    split
    exacts [(k.goOff a failed).2, failed.2]

/-! ### ESTOP_N becomes asserted (R125) -/

/-- The part with ESTOP_N asserted, ESTOP raised and MOTION_PWR set, before the axes are seen to (R125, R126). -/
def Gx24.estopRaised (s : Gx24) : Gx24 := setPower (raise keyEstop { s with estop := true })

theorem estopRaised_estop (s : Gx24) : s.estopRaised.estop = true :=
  (keptEstop true).raise keyEstop rfl

/-- Every axis's drive-enable is turned off in the stored setpoint (R125). -/
def Gx24.drivesOff (s : Gx24) : Gx24 := forRows (fun a s => modAxis a Axis.driveOff s) s

theorem drivesOff_driveIsOff (a : Fin 8) (s : Gx24) : driveIsOff (axisOf a s.drivesOff).setpoint = true :=
  forRows_reaches (P := fun _ => True) (Q := fun a s => driveIsOff (axisOf a s).setpoint = true)
    (f := fun a s => modAxis a Axis.driveOff s) (fun _ _ _ => trivial)
    (fun i s _ => by rw [Kept.axisOf_modAxis_same]; exact Kept.driveOff_still _)
    (fun i j s _ hi => by
      rw [axisOf_modAxis]; split
      exacts [Kept.driveOff_still _, hi]) trivial a

theorem assertEstop_of_released (h : s.estop = false) : assertEstop s =
    forRows (fun a s => faultAxis a .estop s) s.estopRaised.drivesOff := if_neg (by simp [h])

/-- ESTOP_N is asserted and every stored setpoint has drive-enable off. -/
structure DrivesCut (s : Gx24) : Prop where
  asserted : s.estop = true
  off : ∀ a, driveIsOff (axisOf a s).setpoint = true

theorem DrivesCut.faultAxis (h : DrivesCut s) (b : Fin 8) (c : FaultCause) : DrivesCut (faultAxis b c s) :=
  ⟨(keptEstop true).faultAxis b c h.asserted, fun a => ((kept_driveOff a).faultAxis b c ⟨h.asserted, h.off a⟩).2⟩

theorem drivesCut_estopRaised (s : Gx24) : DrivesCut s.estopRaised.drivesOff :=
  ⟨forRows_keeps (P := fun t => t.estop = true) (f := fun a s => modAxis a Axis.driveOff s) (fun _ _ h => by exact h)
    (estopRaised_estop s), fun a => drivesOff_driveIsOff a _⟩

/-- ESTOP_N asserted leaves every axis still, whatever it did before. -/
theorem assertEstop_still (h : s.estop = false) (a : Fin 8) : (axisOf a (assertEstop s)).still = true := by
  rw [assertEstop_of_released h]
  exact forRows_reaches (P := DrivesCut) (Q := fun a s => (axisOf a s).still = true)
    (f := fun a s => faultAxis a .estop s) (fun i _ h => h.faultAxis i _)
    (fun i _ h => faultAxis_still .estop h.asserted (h.off i))
    (fun i j _ h hi => ((kept_still i).faultAxis j .estop ⟨h.asserted, hi⟩).2) (drivesCut_estopRaised s) a

/-! ### Every step keeps every axis still -/

theorem axisOf_coldBlocks (a : Fin 8) (n : Serial) (s : Gx24) : axisOf a (coldBlocks n s) = .cold := by
  simp [axisOf, coldBlocks, Gx24.cold, Motion.cold, tget]

theorem estopLaw_coldBlocks (n : Serial) (s : Gx24) : EstopLaw (coldBlocks n s) := fun _ a => by
  rw [axisOf_coldBlocks]; rfl

theorem estopLaw_holdReset (s : Gx24) : EstopLaw (holdReset s) := (estopLaw_coldBlocks s.tp.node s).congr rfl rfl

theorem estopLaw_coldReset (n : Option Serial) (s : Gx24) : EstopLaw (coldReset n s) := by
  unfold coldReset releaseReset; dsimp only; split
  · exact estopLaw_holdReset s
  · rename_i n
    split
    · exact (coreBlind_estopLaw.alertBlind.raise keyEstop (estopLaw_coldBlocks n s)).setPower
    · exact (estopLaw_coldBlocks n s).setPower

theorem axisOf_warmBlocks (a : Fin 8) (s : Gx24) : axisOf a (warmBlocks s) = (axisOf a s).warm := by
  obtain ⟨x, hx⟩ := warmBlocks_frame s
  rw [hx]
  exact tget_tmake (fun a => (axisOf a s).warm) a

theorem keptAll_estopLaw : KeptAll EstopLaw where
  toKeptLive :=
    { toKept := coreBlind_estopLaw.kept (fun _ h => h.congr rfl rfl) fun a f stays h asserted b => by
        rw [axisOf_modAxis]; split
        · exact (stays asserted).1 (h asserted a)
        · exact h asserted b
      changeMode := fun e m h => coreBlind_estopLaw.changeMode e m h
      live := fun {s} a h moving => by
        have released : s.estop = false := by
          by_contra asserted
          exact absurd (h (by simpa using asserted) a) (by simp [moving])
        exact fun {t} (same : t.estop = s.estop) _ _ _ => .released (s := modAxis _ _ t) (same.trans released) }
  clock _ _ h := h.congr rfl rfl
  cues _ _ h := h.congr rfl rfl
  cueTaken c h := by
    unfold scheduleCue; dsimp only; split
    · exact coreBlind_estopLaw.up _ (coreBlind_estopLaw.up _ (h.congr rfl rfl))
    · split
      exacts [coreBlind_estopLaw.up _ h, coreBlind_estopLaw.up _ (h.congr rfl rfl)]
  trunk _ _ h := h.congr rfl rfl
  sent h := by
    unfold sendHead; split
    exacts [h, h.congr rfl rfl]
  classes _ h := h.congr rfl rfl
  neighbours n h := coreBlind_estopLaw.alertBlind.render (h.congr rfl rfl)
  escalateAll h := coreBlind_estopLaw.alertBlind.escalateAll h
  escalation i h := by
    unfold eventEscalation; dsimp only; repeat' split
    · exact coreBlind_estopLaw.alertBlind.alertsChanged _ (coreBlind_estopLaw.alertBlind.escalateSlot i ([], _) h)
    · exact h
    · exact h
  power h := h.congr rfl rfl
  asserted {s} h := by
    by_cases he : s.estop = true
    · rw [show assertEstop s = s from if_pos he]; exact h
    · exact fun _ => assertEstop_still (by simpa using he)
  released _ _ := .released (show (setPower _).estop = false from (keptEstop false).endCondition keyEstop rfl)
  cold n _ := estopLaw_coldReset n _
  held _ _ := estopLaw_holdReset _
  warm _ := fun _ a => by rw [axisOf_warmBlocks]; rfl

/-- A step keeps what every command keeps. -/
theorem KeptAll.step {P : Gx24 → Prop} (k : KeptAll P) {s t : State} (h : P s.part) (ht : step s = .next t) : P t.part := by
  unfold Machine.step at ht
  split at ht
  · injection ht with ht; subst ht; exact k.settle h
  · next c rest _ => exact k.exec (s := { s with pending := rest }) h ht

/-! ### MOTION_PWR under ESTOP_N (R126) -/

/-- ESTOP_N is asserted and MOTION_PWR off. -/
structure Unpowered (s : Gx24) : Prop where
  asserted : s.estop = true
  off : s.motionPower = false

namespace Unpowered

theorem powerOn_of_asserted (h : s.estop = true) : powerOn s = false := by simp [powerOn, h]

theorem setPower (h : s.estop = true) : Unpowered (setPower s) := ⟨h, powerOn_of_asserted h⟩

theorem congr (h : Unpowered s) (he : t.estop = s.estop) (hp : t.motionPower = s.motionPower) : Unpowered t :=
  ⟨he.trans h.asserted, hp.trans h.off⟩

/-- A change of the records sets MOTION_PWR from ESTOP_N (R126, R144). -/
theorem announced (ns : List UpFrame) (h : s.estop = true) : Unpowered (alertsChanged ns s) :=
  ⟨(alertsOnlyBlind s).alertsChanged ns (.refl s) |>.estop.trans h,
    (alertsChanged_power ns s).trans (powerOn_of_asserted h)⟩

theorem raise (h : Unpowered s) (key : AlertKey) : Unpowered (raise key s) := by
  have lost : ∀ {u : Gx24}, u.estop = true → Unpowered (raiseOverflow u) := fun {u} he => by
    unfold raiseOverflow; dsimp only
    cases recordAt overflowSlot u <;> simp only [recordAt_putRecord, recordAt_takeSlot, if_true]
    exacts [announced _ he, announced _ he]
  have again : ∀ i r, Unpowered (repeatRaise i r s) := fun i r => by
    unfold repeatRaise; dsimp only
    generalize AlertRecord.mk _ _ _ _ _ _ _ _ _ _ _ _ _ _ = r'
    split
    exacts [h, announced _ h.asserted]
  unfold Machine.raise loseRaise keepLostAxis; dsimp only; repeat' split
  exacts [again _ _, h, announced _ h.asserted, lost h.asserted, lost h.asserted, lost h.asserted]

theorem endCondition (h : Unpowered s) (key : AlertKey) : Unpowered (endCondition key s) := by
  have removed (i : Fin 64) (r : AlertRecord) : Unpowered (removeRecord i r s) := by
    unfold removeRecord; dsimp only
    exact announced _ ((alertsOnlyBlind s).endOverflow ((alertsOnlyBlind s).putRecord i none (.refl s)) |>.estop.trans h.asserted)
  unfold Machine.endCondition; dsimp only; repeat' split
  exacts [announced _ h.asserted, removed _ _, removed _ _, h, h, h]

theorem acknowledge (h : Unpowered s) (l : List (Fin 64)) : Unpowered (acknowledge l s).2 := by
  have b := alertsOnlyBlind s
  have acked : AlertsOnly s (forList l ackSlot (⟨[], [], false⟩, s)).2 :=
    forList_keeps (P := fun k : AckTaken × Gx24 => AlertsOnly s k.2) (fun i k => b.ackSlot i k) (.refl s)
  unfold Machine.acknowledge; dsimp only; split
  exacts [announced _ ((b.endOverflow acked).estop.trans h.asserted), announced _ (acked.estop.trans h.asserted)]

theorem render (h : Unpowered s) : Unpowered (render s) := h.congr (render_estop s) (render_motionPower s)

theorem changeMode (h : Unpowered s) (e : Fin 16) (m : Mode) : Unpowered (changeMode e m s) := by
  have shown : Unpowered (showMode e (clearStories e (modExhibit e (fun x => { x with mode := m }) s))) := by
    unfold showMode; split
    exacts [h.congr (by simp) (by simp), h.congr (by simp) (by simp)]
  unfold Machine.changeMode; dsimp only; split
  exacts [shown.render, shown]

end Unpowered

theorem keptLive_unpowered : KeptLive Unpowered where
  frame e h := h.congr e.estop e.motionPower
  missed _ h := h.congr rfl rfl
  up _ h := h.congr (sendUp_estop ..) (sendUp_motionPower ..)
  axis _ _ _ h := h.congr rfl rfl
  raise key h := h.raise key
  endCondition key h := h.endCondition key
  acknowledge l h := h.acknowledge l
  render h := h.render
  changeMode e m h := h.changeMode e m
  live _ _ _ := fun _ _ _ h => h.congr rfl rfl

/-- ESTOP_N asserted turns MOTION_PWR off. -/
theorem assertEstop_unpowered (h : s.estop = false) : Unpowered (assertEstop s) := by
  have k := keptLive_unpowered
  rw [assertEstop_of_released h]
  have cut : Unpowered s.estopRaised.drivesOff := forRows_keeps (P := Unpowered) (f := fun a s => modAxis a Axis.driveOff s)
    (fun a s h => h.congr rfl rfl) (.setPower ((keptEstop true).raise keyEstop rfl))
  exact forRows_keeps (P := Unpowered) (fun a _ h => k.faultAxis a .estop h) cut

/-! ### Axes that were still before, and ESTOP_N released (R124, R126, R134) -/

theorem driveOff_of_still {x : Axis} (h : x.still = true) : x.driveOff = x := by
  have off := (Axis.still_iff.mp h).2
  obtain ⟨⟩ := x
  rename_i setpoint _ _ _ _ _ _ _ _ _ _ _ _ _
  cases setpoint with
  | none => rfl
  | some p =>
    obtain ⟨position, enable⟩ := p
    obtain rfl : enable = false := by simpa [driveIsOff] using off
    rfl

theorem drivesOff_of_still (h : ∀ a, (axisOf a s).still = true) : s.drivesOff = s :=
  forRows_id fun a => modAxis_eq_self (driveOff_of_still (h a))

/-- Asserting ESTOP_N where every axis was still raises ESTOP and turns MOTION_PWR off, and does nothing more. -/
theorem assertEstop_of_still (he : s.estop = false) (h : ∀ a, (axisOf a s).still = true) :
    assertEstop s = { raise keyEstop { s with estop := true } with motionPower := false } := by
  have mu : s.estopRaised.mu = s.mu := ((alertsOnlyBlind { s with estop := true }).raise keyEstop (.refl _)).mu
  have still (a : Fin 8) : (axisOf a s.estopRaised).still = true := by unfold axisOf; rw [mu]; exact h a
  have faulted : forRows (n := 8) (fun a s => faultAxis a .estop s) s.estopRaised = s.estopRaised :=
    forRows_id fun a => faultAxis_standing .estop (Axis.still_iff.mp (still a)).1
  rw [assertEstop_of_released he, drivesOff_of_still still, faulted, Gx24.estopRaised, Machine.setPower,
    Unpowered.powerOn_of_asserted ((keptEstop true).raise keyEstop rfl)]

/-- ESTOP_N is released: the ESTOP condition has ended and MOTION_PWR is set, before the axes are tested (R125, R126). -/
def Gx24.estopEnded (s : Gx24) : Gx24 := setPower (endCondition keyEstop { s with estop := false })

theorem releaseEstop_of_asserted (h : s.estop = true) : releaseEstop s = forRows (n := 8) recoverTest s.estopEnded :=
  if_neg (by simp [h])

/-- With no fault acknowledged no axis recovers at the release. -/
theorem releaseEstop_of_unacked (he : s.estop = true) (h : ∀ a, (axisOf a s).acked = false) :
    releaseEstop s = s.estopEnded := by
  have mu : s.estopEnded.mu = s.mu := ((alertsOnlyBlind { s with estop := false }).endCondition keyEstop (.refl _)).mu
  rw [releaseEstop_of_asserted he]
  refine forRows_id fun a => recoverTest_unmended fun mended => ?_
  have acked : (axisOf a s).acked = true := by have := mended.2.1; unfold axisOf at this; rwa [mu] at this
  exact absurd acked (by simp [h a])

theorem endCondition_of_noRecord {key : AlertKey} (h : slotOfKey key s = none) : endCondition key s = s := by
  unfold endCondition; rw [h]

theorem noticeOf_putRecord (i : Fin 64) (r : AlertRecord) (n : NoticeState) (o : Option AlertRecord) (s : Gx24) :
    noticeOf i r n (putRecord i o s) = noticeOf i r n s := by
  unfold noticeOf putRecord; rw [tget_tmod_same]

/-- A present condition that wants acknowledgement waits for it when it ends (R134). -/
theorem endCondition_of_opened {key : AlertKey} {i : Fin 64} {r : AlertRecord} (hi : slotOfKey key s = some i)
    (hr : recordAt i s = some r) (opened : r.state = .opened) (ack : r.ackRequired = true) :
    endCondition key s = alertsChanged [noticeOf i { r with state := .waiting } .waiting s]
      (putRecord i (some { r with state := .waiting }) s) := by
  unfold endCondition; dsimp only; rw [hi]; dsimp only; rw [hr]; dsimp only; rw [opened]; dsimp only
  rw [if_pos ack]
  rw [noticeOf_putRecord]

theorem key_of_slotOfKey {key : AlertKey} {i : Fin 64} {r : AlertRecord} (hi : slotOfKey key s = some i)
    (hr : recordAt i s = some r) : r.key = key := by
  have found := firstRow_some hi
  rw [hr] at found
  simpa using (Bool.and_eq_true_iff.mp found).2

/-- MOTION_PWR already follows the records after a change of them. -/
theorem setPower_alertsChanged (ns : List UpFrame) (s : Gx24) : setPower (alertsChanged ns s) = alertsChanged ns s := by
  have b := (alertsOnlyBlind s).alertsChanged ns (.refl s)
  have power : powerOn (alertsChanged ns s) = (alertsChanged ns s).motionPower := by
    rw [alertsChanged_power]; exact powerOn_congr b.estop b.resetLow (alertsChanged_slots ns s)
  unfold setPower; rw [power]

end Sys2Proof.Machine

open Sys2Proof Sys2Proof.Machine

/-- Settles O6: an axis changes under ESTOP_N only so that a still one stays still, and the assertion itself leaves none
moving. -/
theorem estopKeepsEveryAxisStill : Obligations.EstopKeepsEveryAxisStill :=
  fun _ _ h ht => keptAll_estopLaw.step h ht

/-- Settles O60: the assertion's raise and faults leave every axis still and MOTION_PWR off; the release ends the condition,
sets MOTION_PWR and tests the axes. -/
theorem estopActsOnPowerAndAxes : Obligations.EstopActsOnPowerAndAxes := by
  intro p q quiet key
  have runs {held f : Gx24 → Gx24} : State.actOr held f ⟨p, q⟩ = .next ⟨settle (f p), q⟩ := State.actOr_released quiet.1
  have still {held f : Gx24 → Gx24} {t : Gx24} (ht : f p = t) (hw : t.work = []) :
      State.actOr held f ⟨p, q⟩ = .next ⟨t, q⟩ := by rw [runs, ht, settle_of_empty hw]
  refine ⟨fun he => still (if_pos he) quiet.2, fun he => still (if_pos (by simp [he])) quiet.2, fun he => ⟨_, runs, ?_⟩,
    fun he h => ?_, fun he => ?_, fun he unacked => ⟨fun noRecord => ?_, fun i r hi hr opened ack given => ?_⟩⟩
  · have off := keptLive_unpowered.settle (assertEstop_unpowered he)
    exact ⟨off.asserted, off.off,
      keptAll_estopLaw.settle (s := assertEstop p) (fun _ => assertEstop_still he) off.asserted⟩
  · exact runs.trans (by rw [assertEstop_of_still he h]; rfl)
  · exact runs.trans (by rw [releaseEstop_of_asserted he]; rfl)
  · refine still ?_ quiet.2
    rw [releaseEstop_of_unacked he unacked, Gx24.estopEnded,
      endCondition_of_noRecord (key := keyEstop) (s := { p with estop := false }) noRecord]
    have power : powerOn { p with estop := false } = !estopRecordStands p := by
      simp only [powerOn, quiet.1, Bool.not_false, Bool.true_and]; rfl
    unfold setPower; rw [power]
  · refine still ?_ ?_
    · rw [releaseEstop_of_unacked he unacked, Gx24.estopEnded, endCondition_of_opened (key := keyEstop)
        (s := { p with estop := false }) hi hr opened ack, setPower_alertsChanged]
      dsimp only [noticeOf]; rw [key_of_slotOfKey hi hr]
    · rw [alertsChanged_quiet]
      · exact quiet.2
      · rw [currentHeld_putRecord (s := { p with estop := false }) (r' := { r with state := .waiting }) hr rfl]
        exact (currentHeld_congr (s := p) rfl rfl).trans given

end

section
/-! The targets that axes pursue stay within the soft limits (R88, R93, R95): what the axes, the chains and the exhibits
do. -/

namespace Sys2Proof.Machine

variable {s t : Gx24} {a : Fin 8}

/-- The soft limits are in order, and an axis with a program in progress pursues a target within them (R88, R93). -/
def Axis.Limited (x : Axis) : Prop :=
  x.params.softMin ≤ x.params.softMax ∧
    (x.moves = true → x.params.softMin * 16 ≤ x.target ∧ x.target ≤ x.params.softMax * 16)

theorem targetLaw_iff : TargetLaw s ↔ ∀ a, (axisOf a s).Limited := Iff.rfl

theorem softClamp_within {p : AxisParams} (h : p.softMin ≤ p.softMax) (target : Int) :
    p.softMin ≤ softClamp p target ∧ softClamp p target ≤ p.softMax := by
  unfold softClamp; repeat' split
  all_goals omega

/-- A segment that starts has its target clamped into the soft limits (R93). -/
theorem Axis.started_limited {x : Axis} (g : Segment) (h : x.params.softMin ≤ x.params.softMax) :
    (x.started g).Limited := by
  obtain ⟨low, high⟩ := softClamp_within h g.target
  refine ⟨h, fun _ => ?_⟩
  unfold Axis.started sixteenths; dsimp only
  omega

/-- A stopped guard leaves an axis moving that moved. -/
theorem Axis.guardStopped_limited {x : Axis} (h : x.Limited) : x.guardStopped.Limited := by
  have moving {st : AxisState} (hs : x.state = st) (hm : st = .running ∨ st = .dwell ∨ st = .halting) : x.moves = true := by
    unfold Axis.moves; rw [hs]; obtain rfl | rfl | rfl := hm <;> rfl
  unfold Axis.guardStopped
  split
  · next hs => exact ⟨h.1, fun _ => h.2 (moving hs (.inl rfl))⟩
  · next hs => exact ⟨h.1, fun _ => h.2 (moving hs (.inr (.inl rfl)))⟩
  · next hs => exact ⟨h.1, fun _ => h.2 (moving hs (.inr (.inr rfl)))⟩
  all_goals exact h

namespace TargetLaw

/-! ### Changes of an axis, and of what is no axis -/

theorem frame (h : TargetLaw s) (ht : t.mu.axes = s.mu.axes) : TargetLaw t := targetLaw_iff.mpr fun b => by
  unfold axisOf; rw [ht]; exact h b

theorem ofMu (h : TargetLaw s) (ht : t.mu = s.mu) : TargetLaw t := h.frame (congrArg _ ht)

/-- An axis changed into one within its limits. -/
theorem limited (h : TargetLaw s) (a : Fin 8) (f : Axis → Axis) (hf : (f (axisOf a s)).Limited) :
    TargetLaw (modAxis a f s) := targetLaw_iff.mpr fun b => by
  rw [axisOf_modAxis]; split
  exacts [hf, h b]

/-- An axis changed in neither its parameters, its state nor its target. -/
theorem touch (h : TargetLaw s) (a : Fin 8) (f : Axis → Axis)
    (hf : ∀ x, ((f x).params, (f x).state, (f x).target) = (x.params, x.state, x.target) := by exact fun _ => rfl) :
    TargetLaw (modAxis a f s) := by
  have kept := hf (axisOf a s)
  simp only [Prod.mk.injEq] at kept
  obtain ⟨params, state, target⟩ := kept
  refine h.limited a f ⟨by rw [params]; exact (h a).1, fun moves => ?_⟩
  rw [params, target]; exact (h a).2 (by rwa [Axis.moves, state] at moves)

/-- An axis brought to a state in which it pursues nothing. -/
theorem rest (h : TargetLaw s) (a : Fin 8) (f : Axis → Axis)
    (hf : ∀ x, (f x).params = x.params ∧ (f x).moves = false := by exact fun _ => ⟨rfl, rfl⟩) :
    TargetLaw (modAxis a f s) :=
  h.limited a f ⟨by rw [(hf _).1]; exact (h a).1, fun moves => absurd moves (by simp [(hf _).2])⟩

/-- An axis that moves goes on moving to its target in whatever state. -/
theorem onward (h : TargetLaw s) (a : Fin 8) (f : Axis → Axis) (hm : (axisOf a s).moves = true)
    (hf : ∀ x, ((f x).params, (f x).target) = (x.params, x.target) := by exact fun _ => rfl) :
    TargetLaw (modAxis a f s) := by
  have kept := hf (axisOf a s)
  simp only [Prod.mk.injEq] at kept
  refine h.limited a f ?_
  unfold Axis.Limited; rw [kept.1, kept.2]; exact ⟨(h a).1, fun _ => (h a).2 hm⟩

theorem sendUp (h : TargetLaw s) (f : UpFrame) : TargetLaw (Machine.sendUp f s) := h.ofMu (sendUp_mu ..)

theorem post (h : TargetLaw s) (w : Work) : TargetLaw (Machine.post w s) := h.frame rfl

theorem modStation (h : TargetLaw s) (st : Fin 24) (f : Station → Station) : TargetLaw (Machine.modStation st f s) :=
  h.frame rfl

theorem modExhibit (h : TargetLaw s) (e : Fin 16) (f : Exhibit → Exhibit) : TargetLaw (Machine.modExhibit e f s) :=
  h.frame rfl

theorem modRunner (h : TargetLaw s) (e : Fin 16) (f : Runner → Runner) : TargetLaw (Machine.modRunner e f s) := h.frame rfl

theorem growExhibit (h : TargetLaw s) (e : Fin 16) (c : ExhibitCounter) (n : Nat) :
    TargetLaw (Machine.growExhibit e c n s) := h.frame rfl

theorem growAxis (h : TargetLaw s) (a : Fin 8) (c : AxisCounter) : TargetLaw (Machine.growAxis a c s) := h.frame rfl

theorem growStation (h : TargetLaw s) (st : Fin 24) (c : StationCounter) (n : Nat) :
    TargetLaw (Machine.growStation st c n s) := h.frame rfl

theorem branch (h : TargetLaw s) (x : Branch) : TargetLaw { s with bs := x } := h.frame rfl

theorem branchPins (h : TargetLaw s) (bytes : List Byte) : TargetLaw { s with branchOut := bytes } := h.frame rfl

theorem activity (h : TargetLaw s) (x : ActivityUnit) : TargetLaw { s with ac := x } := h.frame rfl

theorem blind : CoreBlind TargetLaw := ⟨fun e h => h.frame e.axes, fun f h => h.sendUp f⟩

theorem raise (h : TargetLaw s) (key : AlertKey) : TargetLaw (Machine.raise key s) := blind.alertBlind.raise key h

theorem endCondition (h : TargetLaw s) (key : AlertKey) : TargetLaw (Machine.endCondition key s) :=
  blind.alertBlind.endCondition key h

theorem acknowledge (h : TargetLaw s) (l : List (Fin 64)) : TargetLaw (Machine.acknowledge l s).2 :=
  blind.alertBlind.acknowledge l h

/-! ### Activity and runners (chapters 3, 4 and 8) -/

theorem maskEvent (h : TargetLaw s) (e : Fin 16) (m : IdleMask → Bool) : TargetLaw (Machine.maskEvent e m s) := by
  unfold Machine.maskEvent; split
  exacts [h.frame rfl, h]

theorem pressNotice (h : TargetLaw s) (e : Fin 16) (v : Bool) : TargetLaw (Machine.pressNotice e v s) := by
  have h := h.maskEvent e (·.anyPress)
  unfold Machine.pressNotice; dsimp only; repeat' split
  exacts [h.frame rfl, h.frame rfl, h]

theorem storePause (h : TargetLaw s) (r : Option (Fin 128)) (l : Link) : TargetLaw (Machine.storePause r l s) := by
  unfold Machine.storePause; repeat' split
  exacts [h.frame rfl, h, h, h]

theorem startIndex (h : TargetLaw s) (r : Fin 128) : TargetLaw (Machine.startIndex r s).2 := by
  rw [startIndex_eq]; exact h.frame rfl

theorem haltLoopEnd (h : TargetLaw s) (a : Fin 8) : TargetLaw (Machine.haltLoopEnd a s) := by
  unfold Machine.haltLoopEnd; split
  exacts [h.touch a _, h.touch a _, h.touch a _, h, h, h, h]

theorem loopsToEnd (h : TargetLaw s) (e : Fin 16) : TargetLaw (Machine.loopsToEnd e s) :=
  forRows_keeps (fun a _ h => by split; exacts [h.haltLoopEnd a, h]) h

theorem chainEnd (h : TargetLaw s) (e : Fin 16) : TargetLaw (Machine.chainEnd e s) :=
  ((((h.loopsToEnd e).maskEvent e _).growExhibit e _ _).modRunner e _).post _

theorem follow (h : TargetLaw s) (e : Fin 16) (l : Link) : TargetLaw (Machine.follow e l s) := by
  unfold Machine.follow; split
  exacts [h.frame rfl, h.chainEnd e]

theorem leave (h : TargetLaw s) (e : Fin 16) : TargetLaw (Machine.leave e s) := h.follow e _

theorem endCueWaits (h : TargetLaw s) (p : Fin 24 → Serial → Bool) : TargetLaw (Machine.endCueWaits p s) :=
  forRows_keeps (P := TargetLaw) (fun e _ h => by
    repeat' split
    exacts [h.leave e, h, h]) h

theorem supersedeCues (h : TargetLaw s) (st : Fin 24) : TargetLaw (Machine.supersedeCues st s) := h.endCueWaits _

theorem writeCue (h : TargetLaw s) (st : Fin 24) (n : Byte) : TargetLaw (Machine.writeCue st n s).2 := by
  by_cases absent : (stationOf st s).state = .absent
  · rw [Machine.writeCue, if_pos absent]; exact h
  · rw [Machine.writeCue, if_neg absent]; dsimp only
    exact (h.modStation st _).supersedeCues st

/-! ### Segments, programs and grants (chapters 5 and 6) -/

/-- A segment of the job in progress starts on an axis, whatever it did before (R93). -/
theorem startSegment (h : TargetLaw s) (a : Fin 8) (f : Axis → Axis) {j : Job} (hj : (f (axisOf a s)).job = some j)
    (hp : ∀ x, (f x).params = x.params) : TargetLaw (Machine.startSegment a (modAxis a f s)) := by
  have started (g : Segment) : TargetLaw (modAxis a (fun x => x.started g) (modAxis a f s)) := by
    rw [modAxis_modAxis]
    exact h.limited a _ (Axis.started_limited g (by rw [hp]; exact (h a).1))
  unfold Machine.startSegment; dsimp only
  rw [Kept.axisOf_modAxis_same, hj]; dsimp only; split
  exacts [(started _).growAxis a _, started _]

theorem startProgram (h : TargetLaw s) (a : Fin 8) (j : Job) (m : RunMode) : TargetLaw (Machine.startProgram a j m s) :=
  (h.growAxis a .programsStarted).startSegment a _ rfl fun _ => rfl

theorem claimResult (h : TargetLaw s) (a : Fin 8) (c : Claim) (r : MoveResult) (w : RefuseReason) :
    TargetLaw (Machine.claimResult a c r w s) := by
  unfold Machine.claimResult runnerGranted runnerSkipped; repeat' split
  exacts [h.frame rfl, h.leave _, h, (h.growExhibit _ _ _).leave _, h, h.sendUp _, h.sendUp _]

theorem grantAxis (h : TargetLaw s) (a : Fin 8) : TargetLaw (Machine.grantAxis a s) := by
  unfold Machine.grantAxis; split
  · exact h
  · exact ((h.touch a _).growAxis a .grants |>.startProgram a _ _).claimResult _ _ _ _

theorem endGuardHeld (h : TargetLaw s) (a : Fin 8) : TargetLaw (Machine.endGuardHeld a s) := by
  unfold Machine.endGuardHeld; dsimp only; split
  exacts [(h.touch a _).endCondition _, h.touch a _]

theorem endAxisFault (h : TargetLaw s) (a : Fin 8) : TargetLaw (Machine.endAxisFault a s) := by
  unfold Machine.endAxisFault; dsimp only; split
  exacts [(h.touch a _).endCondition _, h.touch a _]

theorem forgetStep (h : TargetLaw s) (a : Fin 8) : TargetLaw (Machine.forgetStep a s) := by
  unfold Machine.forgetStep; repeat' split
  exacts [h.frame rfl, h, h]

theorem goOff (h : TargetLaw s) (a : Fin 8) : TargetLaw (Machine.goOff a s) :=
  (((h.rest a _).forgetStep a).endGuardHeld a).endAxisFault a

theorem releaseAxis (h : TargetLaw s) (a : Fin 8) : TargetLaw (Machine.releaseAxis a s) := by
  unfold Machine.releaseAxis; dsimp only; split
  exacts [(h.touch a _).goOff a, (h.touch a _).grantAxis a]

/-! ### Halts, aborts and ends (R84, R98, R102) -/

theorem endHaltedQuietly (h : TargetLaw s) (a : Fin 8) : TargetLaw (Machine.endHaltedQuietly a s) :=
  ((h.rest a (fun x => x.ended .idle)).growAxis a .programsHalted).releaseAxis a

theorem haltNowWith (h : TargetLaw s) {fin : Fin 8 → Gx24 → Gx24} (a : Fin 8) (hf : TargetLaw (fin a s)) :
    TargetLaw (Machine.haltNowWith fin a s) := by
  unfold Machine.haltNowWith; dsimp only; split
  · next hs => split; exacts [hf, h.onward a _ (by simp [Axis.moves, hs])]
  · exact hf
  · exact h
  · split; exacts [hf, h.touch a _]
  all_goals exact h

theorem abortChain (h : TargetLaw s) (e : Fin 16) : TargetLaw (Machine.abortChain e s) := by
  have withdrawn : TargetLaw (withdrawClaims e (Machine.modRunner e Runner.freed s)) :=
    forRows_keeps (P := TargetLaw) (fun a _ h => h.touch a _) (h.modRunner e _)
  have halted : TargetLaw (haltOwned e (withdrawClaims e (Machine.modRunner e Runner.freed s))) :=
    forRows_keeps (P := TargetLaw) (fun a _ h => by split; exacts [h.haltNowWith a (h.endHaltedQuietly a), h]) withdrawn
  unfold Machine.abortChain; split
  exacts [h, halted.growExhibit e _ _]

theorem abortReported (h : TargetLaw s) (e : Fin 16) : TargetLaw (Machine.abortReported e s) := by
  unfold Machine.abortReported; split
  exacts [h, (h.abortChain e).post _]

theorem tellOwner (h : TargetLaw s) (a : Fin 8) (o : Option Owner) (j : Option Job) (r : MoveResult) :
    TargetLaw (Machine.tellOwner a o j r s) := by
  unfold Machine.tellOwner endResult; repeat' split
  exacts [h.leave _, h.abortReported _, h, h.sendUp _, h.sendUp _, h]

theorem endProgram (h : TargetLaw s) (a : Fin 8) (r : MoveResult) : TargetLaw (Machine.endProgram a r s) :=
  ((h.rest a (fun x => x.ended .idle)).growAxis a _ |>.tellOwner a _ _ r).releaseAxis a

theorem haltNow (h : TargetLaw s) (a : Fin 8) : TargetLaw (Machine.haltNow a s) := h.haltNowWith a (h.endProgram a _)

theorem haltAxis (h : TargetLaw s) (a : Fin 8) (m : Manner) : TargetLaw (Machine.haltAxis a m s) := by
  unfold Machine.haltAxis; split
  exacts [h.haltNow a, h.haltLoopEnd a]

/-! ### Claims (R108 to R113) -/

/-- A claim that has left the list comes to nothing: counted as skipped, its claimant told (R110, R113). -/
theorem claimSkipped (h : TargetLaw s) (a : Fin 8) (k : Claimant) (c : Claim) :
    TargetLaw (Machine.claimResult a c .skipped .none (Machine.growAxis a .claimsSkipped (modAxis a (fun x =>
      { x with claims := x.claims.filter (fun d => decide (d.claimant ≠ k)) }) s))) :=
  ((h.touch a _).growAxis a .claimsSkipped).claimResult a _ _ _

theorem timeOutClaim (h : TargetLaw s) (a : Fin 8) (k : Claimant) : TargetLaw (Machine.timeOutClaim a k s) := by
  unfold Machine.timeOutClaim; split
  exacts [h.claimSkipped a k _, h]

theorem replaceClaim (h : TargetLaw s) (a : Fin 8) (k : Claimant) : TargetLaw (Machine.replaceClaim a k s) := by
  unfold Machine.replaceClaim; split
  exacts [h.claimSkipped a k _, h]

theorem preempt (h : TargetLaw s) (a : Fin 8) (c : Claim) : TargetLaw (Machine.preempt a c s) := by
  unfold Machine.preempt; repeat' split
  exacts [(h.growAxis a .preemptions).haltNow a, h, h]

theorem claimAxis (h : TargetLaw s) (a : Fin 8) (c : Claim) : TargetLaw (Machine.claimAxis a c s) := by
  unfold Machine.claimAxis; dsimp only; repeat' split
  exacts [(h.growAxis a .claimsRefused).claimResult a _ _ _,
    ((h.replaceClaim a _).touch a _).grantAxis a, ((h.replaceClaim a _).touch a _).preempt a _]

theorem refuseAll (h : TargetLaw s) (a : Fin 8) (w : RefuseReason) : TargetLaw (Machine.refuseAll a w s) :=
  forList_keeps (fun _ _ h => h.claimResult a _ _ _) (h.touch a _)

/-! ### Guards, faults and recovery (R117 to R124) -/

theorem faultAxis (h : TargetLaw s) (a : Fin 8) (c : FaultCause) : TargetLaw (Machine.faultAxis a c s) := by
  have stopped : TargetLaw (Machine.refuseAll a .fault (modAxis a (fun x => { x with owner := none })
      (Machine.tellOwner a (axisOf a s).owner (axisOf a s).job .fault (modAxis a (fun x => x.driveOff.ended .fault) s)))) :=
    (((h.rest a _).tellOwner a _ _ _).touch a _).refuseAll a _
  have recorded : TargetLaw (recordFault a c (Machine.refuseAll a .fault (modAxis a (fun x => { x with owner := none })
      (Machine.tellOwner a (axisOf a s).owner (axisOf a s).job .fault (modAxis a (fun x => x.driveOff.ended .fault) s))))) :=
    ((stopped.touch a _).growAxis a c.counter).raise _
  unfold Machine.faultAxis; dsimp only; repeat' split
  exacts [h, recorded.goOff a, recorded]

theorem guardOpened (h : TargetLaw s) (a : Fin 8) : TargetLaw (Machine.guardOpened a s) := by
  have noticed : TargetLaw (guardNotices a (Machine.growAxis a .guardOpenings (modAxis a (fun x =>
      { x with guardOpen := true, settleCount := 0, guardOpenTime := 0 }) s))) :=
    forRows_keeps (P := TargetLaw) (fun e _ h => by split; exacts [h.maskEvent e _, h]) ((h.touch a _).growAxis a _)
  exact noticed.limited a _ (Axis.guardStopped_limited (noticed a))

theorem decideGuard (h : TargetLaw s) (a : Fin 8) : TargetLaw (Machine.decideGuard a s) := by
  unfold Machine.decideGuard; repeat' split
  exacts [h, h.touch a _, h.guardOpened a, (h.touch a _).endGuardHeld a]

theorem decideGuardsOf (h : TargetLaw s) (st : Fin 24) : TargetLaw (Machine.decideGuardsOf st s) :=
  forRows_keeps (P := TargetLaw) (fun a _ h => by
    repeat' split
    exacts [h.decideGuard a, h, h]) h

theorem raiseGuardHeld (h : TargetLaw s) (a : Fin 8) : TargetLaw (Machine.raiseGuardHeld a s) := (h.touch a _).raise _

theorem testFlags (h : TargetLaw s) (a : Fin 8) (d : DriveReport) : TargetLaw (Machine.testFlags a d s) := by
  unfold Machine.testFlags; dsimp only; repeat' split
  exacts [h.faultAxis a _, h.faultAxis a _, h]

theorem checkFollowing (h : TargetLaw s) (a : Fin 8) (d : DriveReport) : TargetLaw (Machine.checkFollowing a d s) := by
  have struck : TargetLaw (Machine.growAxis a .followingStrikes (modAxis a (fun x => { x with strikes := x.strikes + 1 }) s)) :=
    (h.touch a _).growAxis a _
  unfold Machine.checkFollowing; dsimp only; repeat' split
  exacts [h, h, h.touch a _, struck.faultAxis a _, struck]

theorem recoverTest (h : TargetLaw s) (a : Fin 8) : TargetLaw (Machine.recoverTest a s) := by
  unfold Machine.recoverTest; dsimp only; repeat' split
  exacts [((h.rest a _).decideGuard a).endAxisFault a, h, h]

theorem acknowledgeAll (h : TargetLaw s) (l : List (Fin 64)) : TargetLaw (Machine.acknowledgeAll l s) :=
  forList_keeps (P := TargetLaw) (fun n _ h => by
    unfold ackNotice; dsimp only; split
    exacts [(h.touch n.1 _).recoverTest _, h.recoverTest _]) (h.acknowledge l)

theorem driveReported (h : TargetLaw s) (a : Fin 8) (b : Bool) (d : DriveReport) :
    TargetLaw (Machine.driveReported a b d s) := by
  cases b
  · exact (h.testFlags a d).recoverTest a
  · exact (((h.touch a (fun x => { x with stepGood := true })).testFlags a d).checkFollowing a d).recoverTest a

/-! ### The step of an axis (5.3 to 5.9) -/

theorem completeSegment (h : TargetLaw s) (a : Fin 8) : TargetLaw (Machine.completeSegment a s) := by
  unfold Machine.completeSegment; dsimp only; split
  · exact h
  · next hj =>
    repeat' split
    exacts [h.startSegment a _ hj fun _ => rfl, h.endProgram a _, h.startSegment a _ hj fun _ => rfl]

theorem runningStep (h : TargetLaw s) (a : Fin 8) (hm : (axisOf a s).moves = true) :
    TargetLaw (Machine.runningStep a s) := by
  have ran : TargetLaw (modAxis a Axis.runMotion s) := h.touch a _
  unfold Machine.runningStep arrive; dsimp only; repeat' split
  exacts [(ran.touch a _).completeSegment a, ran.onward a _ (by rw [Kept.axisOf_modAxis_same]; exact hm), ran]

theorem dwellStep (h : TargetLaw s) (a : Fin 8) : TargetLaw (Machine.dwellStep a s) := by
  unfold Machine.dwellStep; dsimp only; split
  exacts [(h.touch a _).completeSegment a, h.touch a _]

theorem haltingStep (h : TargetLaw s) (a : Fin 8) : TargetLaw (Machine.haltingStep a s) := by
  have braked : TargetLaw (modAxis a (fun x => x.brakeMotion x.params.accel) s) := h.touch a _
  unfold Machine.haltingStep; dsimp only; split
  exacts [(braked.touch a _).endProgram a _, braked]

theorem brakingStep (h : TargetLaw s) (a : Fin 8) : TargetLaw (Machine.brakingStep a s) := by
  have braked : TargetLaw (modAxis a (fun x => x.brakeMotion (4 * x.params.accel)) s) := h.touch a _
  unfold Machine.brakingStep; dsimp only; repeat' split
  exacts [braked.touch a _, braked.endProgram a _, braked]

theorem resumeStep (h : TargetLaw s) (a : Fin 8) (hm : (axisOf a s).moves = true) : TargetLaw (Machine.resumeStep a s) := by
  unfold Machine.resumeStep; split
  · exact (h.onward a _ hm).runningStep a (by rw [Kept.axisOf_modAxis_same]; rfl)
  · exact (h.onward a _ hm).dwellStep a
  · exact (h.onward a _ hm).haltingStep a

theorem guardStep (h : TargetLaw s) (a : Fin 8) (hm : (axisOf a s).moves = true) : TargetLaw (Machine.guardStep a s) := by
  have settling : TargetLaw (modAxis a (fun x => { x with settleCount := x.settleCount + 1 }) s) := h.touch a _
  unfold Machine.guardStep; dsimp only; repeat' split
  exacts [(h.touch a _).brakingStep a, settling.resumeStep a (by rw [Kept.axisOf_modAxis_same]; exact hm),
    settling.brakingStep a]

theorem stateStep (h : TargetLaw s) (a : Fin 8) : TargetLaw (Machine.stateStep a s) := by
  unfold Machine.stateStep; split
  · exact h
  · exact h
  · exact h
  · next hs => exact h.runningStep a (by simp [Axis.moves, hs])
  · exact h.dwellStep a
  · exact h.haltingStep a
  · next hs => exact h.guardStep a (by simp [Axis.moves, hs])

theorem stepAxis (h : TargetLaw s) (a : Fin 8) : TargetLaw (Machine.stepAxis a s) := by
  have referred : TargetLaw (modAxis a Axis.referred s) := h.touch a _
  unfold Machine.stepAxis; dsimp only; repeat' split
  exacts [referred.growAxis a _, referred.stateStep a, (referred.stateStep a).touch a _]

theorem enableAxis (h : TargetLaw s) (a : Fin 8) : TargetLaw (Machine.enableAxis a s).2 := by
  unfold Machine.enableAxis; repeat' split
  exacts [h, h, h.rest a _]

theorem disableAxis (h : TargetLaw s) (a : Fin 8) : TargetLaw (Machine.disableAxis a s).2 := by
  have refused : TargetLaw (Machine.refuseAll a .disabling (modAxis a (fun x => { x with disabling := true }) s)) :=
    (h.touch a _).refuseAll a _
  unfold Machine.disableAxis; dsimp only; repeat' split
  exacts [h, refused.goOff a, refused.haltNow a]

theorem assertEstop (h : TargetLaw s) : TargetLaw (Machine.assertEstop s) := by
  have raised : TargetLaw s.estopRaised := ((h.frame (t := { s with estop := true }) rfl).raise keyEstop).frame rfl
  by_cases asserted : s.estop = true
  · rw [show Machine.assertEstop s = s from if_pos asserted]; exact h
  · rw [assertEstop_of_released (by simpa using asserted)]
    exact forRows_keeps (P := TargetLaw) (fun a _ h => h.faultAxis a _)
      (forRows_keeps (P := TargetLaw) (fun a _ h => h.touch a Axis.driveOff) raised)

theorem releaseEstop (h : TargetLaw s) : TargetLaw (Machine.releaseEstop s) := by
  have ended : TargetLaw s.estopEnded := ((h.frame (t := { s with estop := false }) rfl).endCondition keyEstop).frame rfl
  by_cases asserted : s.estop = true
  · rw [releaseEstop_of_asserted asserted]
    exact forRows_keeps (P := TargetLaw) (fun a _ h => h.recoverTest a) ended
  · rw [show Machine.releaseEstop s = s from if_pos (by simpa using asserted)]; exact h

end TargetLaw

end Sys2Proof.Machine
end

section
/-! The targets that axes pursue stay within the soft limits: exhibits, chains, the branch and the taking of notices. -/

namespace Sys2Proof.Machine.TargetLaw

variable {s t : Gx24}

/-! ### Exhibits (chapter 3) -/

theorem dropEnded (h : TargetLaw s) (e : Fin 16) : TargetLaw (Machine.dropEnded e s) := h.frame rfl

theorem reloadIdle (h : TargetLaw s) (e : Fin 16) : TargetLaw (Machine.reloadIdle e s) := h.frame rfl

theorem clearStories (h : TargetLaw s) (e : Fin 16) : TargetLaw (Machine.clearStories e s) := h.ofMu (clearStories_mu e s)

theorem changeMode (h : TargetLaw s) (e : Fin 16) (m : Mode) : TargetLaw (Machine.changeMode e m s) :=
  blind.changeMode e m h

theorem startChain (h : TargetLaw s) (e : Fin 16) (c : ChainStart) : TargetLaw (Machine.startChain e c s) := by
  rw [startChain_eq]; exact h.frame rfl

theorem raiseCrowding (h : TargetLaw s) (e : Fin 16) : TargetLaw (Machine.raiseCrowding e s) := (h.modExhibit e _).raise _

theorem advanceFlood (h : TargetLaw s) (e : Fin 16) : TargetLaw (Machine.advanceFlood e s) := by
  unfold Machine.advanceFlood; dsimp only; repeat' split
  exacts [h, h.raiseCrowding e, h.modExhibit e _]

theorem startVisitor (h : TargetLaw s) (e : Fin 16) (r : Fin 128) (i : Fin 24 × Fin 8) (w : Word) :
    TargetLaw (Machine.startVisitor e r i w s) := by
  rw [startVisitor_eq]; exact h.frame rfl

theorem serveFrom (h : TargetLaw s) (e : Fin 16) (l : List QueueEntry) : TargetLaw (Machine.serveFrom e l s) := by
  induction l generalizing s with
  | nil => exact h.modExhibit e _
  | cons q rest ih =>
    unfold Machine.serveFrom; dsimp only; split
    exacts [ih (((h.modExhibit e _).growExhibit e _ _).advanceFlood e), (h.modExhibit e _).startVisitor e _ _ _]

theorem serveQueue (h : TargetLaw s) (e : Fin 16) : TargetLaw (Machine.serveQueue e s) := h.serveFrom e _

theorem visitorRequest (h : TargetLaw s) (e : Fin 16) (r : Fin 128) (i : Fin 24 × Fin 8) :
    TargetLaw (Machine.visitorRequest e r i s) := by
  unfold Machine.visitorRequest queueVisitor; dsimp only; repeat' split
  exacts [(h.startVisitor e r i _).maskEvent e _, ((h.abortChain e).startVisitor e r i _).maskEvent e _,
    (h.growExhibit e _ _).advanceFlood e, ((h.modExhibit e _).growExhibit e _ _).maskEvent e _,
    (h.growExhibit e _ _).advanceFlood e]

theorem showRequest (h : TargetLaw s) (e : Fin 16) (a : Fin 512) (w : Word) : TargetLaw (Machine.showRequest e a w s).2 := by
  unfold Machine.showRequest; repeat' split
  exacts [h.growExhibit e _ _, h.growExhibit e _ _, ((h.abortChain e).growExhibit e _ _).startChain e _]

theorem attendantRequest (h : TargetLaw s) (e : Fin 16) (r : Fin 128) (i : Fin 24 × Fin 8) :
    TargetLaw (Machine.attendantRequest e r i s) := by
  unfold Machine.attendantRequest; split
  exacts [h.growExhibit e _ _, (((h.abortChain e).growExhibit e _ _).startIndex r).startChain e _]

theorem attractRequest (h : TargetLaw s) (e : Fin 16) : TargetLaw (Machine.attractRequest e s) := by
  unfold Machine.attractRequest; repeat' split
  exacts [(h.growExhibit e _ _).startChain e _, h.reloadIdle e, h]

theorem runnerFreed (h : TargetLaw s) (e : Fin 16) (o : Origin) : TargetLaw (Machine.runnerFreed e o s) := by
  unfold Machine.runnerFreed; dsimp only; split
  exacts [(h.modExhibit e _).modExhibit e _, (h.modExhibit e _).serveQueue e]

theorem cooldownOver (h : TargetLaw s) (e : Fin 16) : TargetLaw (Machine.cooldownOver e s) := by
  unfold Machine.cooldownOver; split
  exacts [(h.modExhibit e _).serveQueue e, h]

/-- The queue emptied and the cooldown over (R45, R47, R59). -/
theorem cleared (h : TargetLaw s) (e : Fin 16) : TargetLaw (endCooldown e (clearQueue e s)) :=
  ((h.growExhibit e _ _).modExhibit e _).modExhibit e _

theorem vacate (h : TargetLaw s) (e : Fin 16) : TargetLaw (Machine.vacate e s) :=
  ((h.abortChain e).dropEnded e).modExhibit e _

theorem closeGallery (h : TargetLaw s) : TargetLaw (Machine.closeGallery s) := by
  refine forRows_keeps (P := TargetLaw) (fun e t h => ?_) (h.frame rfl)
  unfold closeExhibit; dsimp only; split
  exacts [(h.cleared e).vacate e, h.cleared e]

theorem expireQuiet (h : TargetLaw s) : TargetLaw (Machine.expireQuiet s) := by
  have quiet : TargetLaw (quietGallery s) := by
    refine forRows_keeps (P := TargetLaw) (fun e t h => ?_) (h.frame (t := { s with ac := { s.ac with gallery := .quiet } }) rfl)
    split
    exacts [h.vacate e, h]
  unfold Machine.expireQuiet; split
  exacts [quiet, h]

theorem expireIdle (h : TargetLaw s) (e : Fin 16) : TargetLaw (Machine.expireIdle e s) := by
  unfold Machine.expireIdle; dsimp only; split
  exacts [((h.clearStories e).attractRequest e).reloadIdle e, (h.clearStories e).reloadIdle e]

theorem galleryCommand (h : TargetLaw s) (b : Bool) : TargetLaw (Machine.galleryCommand b s) := by
  have opened : TargetLaw (openGallery s) := by
    unfold openGallery; dsimp only
    obtain ⟨x, hx⟩ := reloadAllTimers_frame { s with ac := { s.ac with gallery := .opened } }
    rw [hx]; exact h.activity x
  unfold Machine.galleryCommand; repeat' split
  exacts [opened, h, h, h, h.closeGallery, h.closeGallery]

theorem holdRelease (h : TargetLaw s) (e : Fin 16) (r : Fin 128) : TargetLaw (Machine.holdRelease e r s) := by
  have tail : ∀ {t}, TargetLaw t → TargetLaw (if (runnerOf e t).state ≠ .free ∧ (runnerOf e t).row = some r then
      Machine.abortReported e t else t) := fun h => by split; exacts [h.abortReported e, h]
  unfold Machine.holdRelease; dsimp only
  refine tail ?_
  split
  exacts [(h.growExhibit e _ _).modExhibit e _, h]

theorem applyHeld (h : TargetLaw s) (set : ExhibitSet) : TargetLaw (Machine.applyHeld set s) := by
  refine forRows_keeps (P := TargetLaw) (fun e t h => ?_) h
  unfold applyHold enterHeld leaveHeld; dsimp only; repeat' split
  exacts [(((h.cleared e).vacate e).changeMode e _).reloadIdle e, ((h.cleared e).changeMode e _).reloadIdle e, h, h,
    (h.changeMode e _).reloadIdle e, h, h]

theorem leavePublic (h : TargetLaw s) (e : Fin 16) (m : Mode) : TargetLaw (Machine.leavePublic e m s) :=
  (((h.cleared e).vacate e).changeMode e m).reloadIdle e

theorem goPublic (h : TargetLaw s) (e : Fin 16) : TargetLaw (Machine.goPublic e s) :=
  ((h.modExhibit e _).changeMode e _).reloadIdle e

theorem setMode (h : TargetLaw s) (e : Fin 16) (m : Mode) : TargetLaw (Machine.setMode e m s).2.2 := by
  have closed (m : Mode) : TargetLaw (modeClosed e m s).2.2 := by
    unfold modeClosed; dsimp only; repeat' split
    exacts [h, h.leavePublic e m, h.changeMode e m]
  unfold Machine.setMode; split
  · exact h
  · unfold modePublic; repeat' split
    exacts [h, h, h.goPublic e]
  · exact closed _
  · exact closed _

/-! ### Chains (chapter 4) -/

theorem chainFault (h : TargetLaw s) (e : Fin 16) (c : AlertCause) : TargetLaw (Machine.chainFault e c s) :=
  (h.abortReported e).raise _

theorem doCue (h : TargetLaw s) (e : Fin 16) (st : Fin 24) (n : Byte) (w : Bool) (l : Link) :
    TargetLaw (Machine.doCue e st n w l s) := by
  have written := h.writeCue st n
  unfold Machine.doCue
  split <;> rename_i hc <;> rw [hc] at written
  · split
    exacts [(written.modRunner e _).modRunner e _, written.follow e l]
  · exact written.follow e l

theorem takeDefault (h : TargetLaw s) (e : Fin 16) : TargetLaw (Machine.takeDefault e s) :=
  (h.growExhibit e _ _).follow e _

theorem doRefer (h : TargetLaw s) (e : Fin 16) (tag : Byte) (n : Nat) : TargetLaw (Machine.doRefer e tag n s) := by
  unfold Machine.doRefer; split
  exacts [h.takeDefault e, (((h.modRunner e _).sendUp _).growExhibit e _ _).modRunner e _]

theorem doMove (h : TargetLaw s) (e : Fin 16) (a : Fin 8) (p : Fin 64) (m : RunMode) :
    TargetLaw (Machine.doMove e a p m s) := by
  have claimed := (h.modRunner e (fun r => r.claiming a)).claimAxis a ⟨.exhibit e, (runnerOf e s).origin, .program p, m, 0⟩
  unfold Machine.doMove; dsimp only; split
  exacts [claimed.modRunner e _, claimed]

theorem doHaltAxis (h : TargetLaw s) (e : Fin 16) (a : Fin 8) (m : Manner) (l : Link) :
    TargetLaw (Machine.doHaltAxis e a m l s) := by
  unfold Machine.doHaltAxis; split
  exacts [(h.haltAxis a m).follow e l, h.follow e l]

theorem perform (h : TargetLaw s) (e : Fin 16) (x : Action) : TargetLaw (Machine.perform e x s) := by
  unfold Machine.perform; split
  exacts [h.chainFault e _, (h.modStation _ _).follow e _, h.doCue e _ _ _ _, h.doMove e _ _ _, h.doHaltAxis e _ _ _,
    (h.modRunner e _).modRunner e _, (h.storePause _ _).chainEnd e, (h.raise _).follow e _, h.doRefer e _ _,
    (h.frame (t := growUsage _ _ s) rfl).follow e _]

theorem runStep (h : TargetLaw s) (e : Fin 16) : TargetLaw (Machine.runStep e s) := by
  unfold Machine.runStep; dsimp only; repeat' split
  exacts [h, h.chainFault e _, h.chainFault e _, (h.modRunner e _).perform e _]

theorem endWait (h : TargetLaw s) (e : Fin 16) : TargetLaw (Machine.endWait e s) := by
  unfold Machine.endWait; split
  exacts [h.leave e, h]

theorem timeOutReferral (h : TargetLaw s) (e : Fin 16) : TargetLaw (Machine.timeOutReferral e s) := by
  unfold Machine.timeOutReferral; split
  exacts [h.takeDefault e, h]

theorem takeVerdict (h : TargetLaw s) (e : Fin 16) (n : Serial) (v : Verdict) :
    TargetLaw (Machine.takeVerdict e n v s) := by
  unfold Machine.takeVerdict; dsimp only; repeat' split
  exacts [h.growExhibit e _ _, (h.growExhibit e _ _).follow e _, h.growExhibit e _ _]

theorem countMiss (h : TargetLaw s) : TargetLaw (Machine.countMiss s) := h.frame rfl

theorem runCue (h : TargetLaw s) (c : CueEntry) : TargetLaw (Machine.runCue c s) := by
  have answered := h.showRequest c.exhibit c.start c.due
  unfold Machine.runCue; dsimp only; split
  exacts [answered.sendUp _, answered.countMiss.sendUp _]

/-! ### Notices (assumption 2) -/

theorem deliver (h : TargetLaw s) (w : Work) : TargetLaw (Machine.deliver w s) := by
  cases w with
  | run e => exact h.runStep e
  | ended e o => exact h.runnerFreed e o
  | held set => exact h.applyHeld set
  | cooldownEnd e => exact h.cooldownOver e
  | waitEnd e => exact h.endWait e
  | referralTimeout e => exact h.timeOutReferral e
  | claimTimeout a c => exact h.timeOutClaim a c
  | guardHeld a => unfold Machine.deliver; dsimp only; split; exacts [h.raiseGuardHeld a, h]
  | quietExpiry => exact h.expireQuiet
  | idleExpiry e => exact h.expireIdle e
  | fireCue c => exact h.runCue c
  | gallery b => exact h.galleryCommand b

theorem settle (h : TargetLaw s) : TargetLaw (Machine.settle s) :=
  settle_keeps (fun _ _ _ h => h.frame rfl) (fun w _ h => h.deliver w) h

theorem settleSome (h : TargetLaw s) : TargetLaw (Machine.settleSome s) :=
  settleSome_keeps (fun _ _ _ h => h.frame rfl) (fun w _ h => h.deliver w) h

/-! ### Stations (chapter 1) -/

theorem endQuery (h : TargetLaw s) (r : QueryResult) (a : Option Word) : TargetLaw (Machine.endQuery r a s) := by
  unfold Machine.endQuery; split
  exacts [(h.frame (t := dropQuery s) rfl).sendUp _, h]

theorem endQueryOf (h : TargetLaw s) (st : Fin 24) : TargetLaw (Machine.endQueryOf st s) := by
  unfold Machine.endQueryOf; repeat' split
  exacts [h.endQuery _ _, h, h]

theorem endLost (h : TargetLaw s) (st : Fin 24) : TargetLaw (Machine.endLost st s) := by
  unfold Machine.endLost; dsimp only; split
  exacts [(h.modStation st _).endCondition _, h.modStation st _]

theorem raiseLost (h : TargetLaw s) (st : Fin 24) : TargetLaw (Machine.raiseLost st s) := (h.modStation st _).raise _

theorem loseStation (h : TargetLaw s) (st : Fin 24) : TargetLaw (Machine.loseStation st s) := by
  have lost := ((h.modStation st (fun x => { x with state := .lost })).raiseLost st).decideGuardsOf st
  unfold Machine.loseStation faultDriveAxis endStationWaits; dsimp only; split
  exacts [((lost.faultAxis _ _).endCueWaits _).endQueryOf st, (lost.endCueWaits _).endQueryOf st]

theorem countStationMiss (h : TargetLaw s) (st : Fin 24) (crc : Bool) : TargetLaw (Machine.countStationMiss st crc s) := by
  unfold Machine.countStationMiss; dsimp only; repeat' split
  exacts [(((h.growStation st _ _).growStation st _ _).modStation st _).loseStation st,
    ((h.growStation st _ _).growStation st _ _).modStation st _,
    ((h.growStation st _ _).modStation st _).loseStation st,
    (h.growStation st _ _).modStation st _]

theorem queryUnanswered (h : TargetLaw s) : TargetLaw (Machine.queryUnanswered s) := by
  unfold Machine.queryUnanswered; repeat' split
  exacts [h.endQuery _ _, h, h]

theorem takeAnswer (h : TargetLaw s) (st : Fin 24) (b : Bool) (a : Option Word) : TargetLaw (Machine.takeAnswer st b a s) := by
  unfold Machine.takeAnswer; repeat' split
  exacts [h.endQuery _ _, h, h.queryUnanswered, h]

theorem storeDrive (h : TargetLaw s) (st : Fin 24) (a : Option (Fin 8)) (d : Option DriveReport) :
    TargetLaw (Machine.storeDrive st a d s) := by
  unfold Machine.storeDrive; dsimp only; repeat' split
  exacts [h, (h.modStation st _).driveReported _ _ _, h.modStation st _]

/-- What a good reply carries reaches the guards, the cue waits, the query and the axis (R11). -/
theorem replyStored (h : TargetLaw s) (w : Awaiting) (r : Reply) :
    TargetLaw (Machine.settle (Machine.storeDrive w.station w.stepAxis r.drive (Machine.takeAnswer w.station w.query r.answer
      (storeCueReport w.station r.lastStarted r.playing (storeLevels w.station r.levels s))))) := by
  have levels : TargetLaw (storeLevels w.station r.levels s) := (h.modStation _ _).decideGuardsOf _
  have cues : TargetLaw (storeCueReport w.station r.lastStarted r.playing (storeLevels w.station r.levels s)) := by
    unfold storeCueReport cueReported; dsimp only; split
    exacts [levels.modStation _ _, (levels.modStation _ _).endCueWaits _]
  exact ((cues.takeAnswer _ _ _).storeDrive _ _ _).settle

theorem join (h : TargetLaw s) (st : Fin 24) (r : Reply) : TargetLaw (Machine.join st r s) := by
  have serials (n m : Serial) {t : Gx24} (h : TargetLaw t) : TargetLaw (joinSerials st n m t) := by
    unfold joinSerials; dsimp only; split
    · exact h.modStation st _
    · exact forRows_keeps (P := TargetLaw) (fun e _ h => h.modRunner e _) ((h.modStation st _).modStation st _)
  exact ((serials _ _ (h.growStation st _ _)).modStation st _).endLost st

theorem takeMiss (h : TargetLaw s) (w : Awaiting) (crc : Bool) : TargetLaw (Machine.takeMiss w crc s) := by
  have marked : TargetLaw (match w.stepAxis with
      | some a => modAxis a (fun x => { x with stepGood := false }) s
      | none => s) := by split; exacts [h.touch _ _, h]
  unfold Machine.takeMiss; dsimp only; split
  exacts [(marked.countStationMiss _ _).queryUnanswered, marked.countStationMiss _ _]

/-! ### The press path (chapter 2) -/

theorem turnKey (h : TargetLaw s) (e : Fin 16) : TargetLaw (Machine.turnKey e s) :=
  (h.frame (t := growAlert .keyAcks s) rfl).acknowledgeAll _

theorem pressVisitor (h : TargetLaw s) (e : Fin 16) (r : Fin 128) (i : Fin 24 × Fin 8) :
    TargetLaw (Machine.pressVisitor e r i s) := by
  unfold Machine.pressVisitor; split
  exacts [h.growExhibit e _ _, h.visitorRequest e r i]

theorem pressOpen (h : TargetLaw s) (e : Fin 16) (r : Fin 128) (c : RowClass) (i : Fin 24 × Fin 8) :
    TargetLaw (Machine.pressOpen e r c i s) := by
  unfold Machine.pressOpen pressAttendant pressHelp; dsimp only; repeat' split
  exacts [(h.turnKey e).attendantRequest e r i, h.turnKey e, h.growExhibit e _ _, h.pressVisitor e r i,
    h.growExhibit e _ _, (h.raise _).pressVisitor e r i, h.raise _]

theorem dispatchPublic (h : TargetLaw s) (e : Fin 16) (r : Fin 128) (row : TriggerRow) (st : Fin 24) (i : Fin 8) (g : Edge) :
    TargetLaw (Machine.dispatchPublic e r row st i g s) := by
  unfold Machine.dispatchPublic; dsimp only; split
  exacts [(h.pressNotice e _).holdRelease e r, (h.pressNotice e _).pressOpen e r _ _]

theorem inputEvent (h : TargetLaw s) (st : Fin 24) (i : Fin 8) (g : Edge) : TargetLaw (Machine.inputEvent st i g s) := by
  have unmapped : TargetLaw (unmappedEvent st i g s) := by
    unfold unmappedEvent; dsimp only; split
    exacts [(h.growStation st _ _).sendUp _, h.growStation st _ _]
  have dispatched (e : Fin 16) (r : Fin 128) (row : TriggerRow) : TargetLaw (dispatch e r row st i g s) := by
    unfold dispatch pressService; repeat' split
    exacts [h.growExhibit e _ _, h, h.turnKey e, h.sendUp _, h.dispatchPublic e r row st i g,
      h.dispatchPublic e r row st i g]
  unfold Machine.inputEvent; dsimp only; repeat' split
  exacts [unmapped, unmapped, dispatched _ _ _, h]

/-! ### Slots and sweeps (chapter 1) -/

theorem takeEvent (h : TargetLaw s) (st : Fin 24) (ev : ReplyEvent) : TargetLaw (Machine.takeEvent st ev s) := by
  unfold Machine.takeEvent; dsimp only; split
  exacts [h.growStation st _ _, (((h.growStation st _ _).modStation st _).inputEvent st _ _).settle]

theorem takeReply (h : TargetLaw s) (w : Awaiting) (r : Reply) : TargetLaw (Machine.takeReply w r s) := by
  have heard := h.modStation w.station (fun x => { x with missCount := 0 })
  unfold Machine.takeReply; dsimp only
  generalize decide ((stationOf w.station s).state = .present) = present
  cases present <;> simp only [Bool.false_eq_true, if_true, if_false]
  · exact (heard.join _ _).replyStored w r
  · exact forList_keeps (P := TargetLaw) (fun ev _ h => h.takeEvent _ ev) (heard.replyStored w r)

theorem endSlot (h : TargetLaw s) (reply : Option (List Byte)) : TargetLaw (Machine.endSlot reply s) := by
  unfold Machine.endSlot; split
  · exact h
  · have closed : TargetLaw { s with bs := { s.bs with awaiting := none } } := h.frame rfl
    unfold classify; repeat' split
    exacts [closed, closed.takeMiss _ _, closed.takeReply _ _, closed.takeMiss _ _]

theorem pollStation (h : TargetLaw s) (st : Fin 24) : TargetLaw (Machine.pollStation st s) := by
  have asked : TargetLaw (askQuery st s).2 := by
    unfold askQuery; repeat' split
    exacts [h.frame rfl, h, h]
  have stepped {t : Gx24} (h : TargetLaw t) : TargetLaw (stepPoint st t) := by
    unfold stepPoint; dsimp only; split
    exacts [((h.modStation st _).branch _).stepAxis _, h.modStation st _]
  have awaited : TargetLaw { (askQuery st s).2 with bs := { (askQuery st s).2.bs with
      awaiting := some ⟨st, none, (askQuery st s).1.isSome, false⟩ } } := asked.branch _
  unfold Machine.pollStation; dsimp only; split
  exacts [(stepped awaited).branchPins _, awaited.branchPins _]

theorem beginSlot (h : TargetLaw s) (i : Fin 32) : TargetLaw (Machine.beginSlot i s) := by
  have begun : TargetLaw { s with branchOut := [], bs := { s.bs with nextSlot := ⟨i.val + 1, by omega⟩ } } := h.frame rfl
  unfold Machine.beginSlot; dsimp only; repeat' split
  exacts [begun, begun, begun.pollStation _]

theorem startSweep (h : TargetLaw s) : TargetLaw (Machine.startSweep s) := by
  unfold Machine.startSweep; exact h.frame rfl

theorem nextSlotStart (h : TargetLaw s) : TargetLaw (Machine.nextSlotStart s) := by
  have ended := (h.endSlot none).settle
  unfold Machine.nextSlotStart; dsimp only; split
  exacts [ended.beginSlot _, ended.startSweep.beginSlot 0]

end Sys2Proof.Machine.TargetLaw
end

section
/-! The targets that axes pursue stay within the soft limits: the clock, management and every command. -/

namespace Sys2Proof.Machine.TargetLaw

variable {s t : Gx24}

/-! ### The clock (chapter 9) -/

theorem clock (h : TargetLaw s) (x : Clock) : TargetLaw { s with gc := x } := h.frame rfl

theorem tickEvent (h : TargetLaw s) (n : Word) : TargetLaw (Machine.tickEvent n s) := by
  have exhibit (e : Fin 16) (s : Gx24) (h : TargetLaw s) : TargetLaw (countExhibit e s) := by
    unfold countExhibit; dsimp only; repeat' split
    exacts [((h.modExhibit e _).modExhibit e _).post _, (h.modExhibit e _).modExhibit e _, h.modExhibit e _]
  have runner (e : Fin 16) (s : Gx24) (h : TargetLaw s) : TargetLaw (countRunner e s) := by
    unfold countRunner; dsimp only; repeat' split
    exacts [(h.modRunner e _).post _, h.modRunner e _, (h.modRunner e _).post _, h.modRunner e _, h, h, h, h, h]
  have claims (a : Fin 8) (s : Gx24) (h : TargetLaw s) : TargetLaw (countClaims a s) :=
    forList_keeps (P := TargetLaw) (fun c _ h => by split; exacts [h.post _, h]) (h.touch a _)
  have guard (a : Fin 8) (s : Gx24) (h : TargetLaw s) : TargetLaw (countGuard a s) := by
    unfold countGuard; dsimp only; repeat' split
    exacts [h, (h.touch a _).post _, h.touch a _]
  have quiet {s : Gx24} (h : TargetLaw s) : TargetLaw (countQuiet s) := by
    unfold countQuiet; dsimp only; repeat' split
    exacts [(h.activity _).post _, h.activity _, h]
  have idle (e : Fin 16) (s : Gx24) (h : TargetLaw s) : TargetLaw (countIdle e s) := by
    unfold countIdle; dsimp only; repeat' split
    exacts [(h.activity _).post _, h.activity _, h]
  unfold Machine.tickEvent; dsimp only
  exact forRows_keeps idle (quiet (blind.alertBlind.escalateAll (forRows_keeps
    (fun a s h => guard a _ (claims a s h)) (forRows_keeps runner (forRows_keeps exhibit (h.clock _))))))

theorem fireAt (h : TargetLaw s) (due : Word) : TargetLaw (Machine.fireAt due s) :=
  forList_keeps (P := TargetLaw) (fun _ _ h => h.post _) (h.clock _)

theorem fireInOrder (h : TargetLaw s) (dues : List Word) : TargetLaw (Machine.fireInOrder dues s) := by
  unfold Machine.fireInOrder; split
  exacts [h, forList_keeps (P := TargetLaw) (fun d _ h => h.settleSome.fireAt d) (h.fireAt _)]

theorem reportCue (h : TargetLaw s) (e : Byte) (d : Word) (tag : Option Byte) (r : CueResult) :
    TargetLaw (Machine.reportCue e d tag r s) := h.sendUp _

theorem takeCues (h : TargetLaw s) (p : CueEntry → Bool) : TargetLaw (Machine.takeCues p s).2 := h.clock _

theorem fireJump (h : TargetLaw s) (old new : Word) : TargetLaw (Machine.fireJump old new s) := by
  have dropped {t : Gx24} (h : TargetLaw t) (k : Nat) : TargetLaw (dropSkipped old k t) :=
    forList_keeps (P := TargetLaw) (fun _ _ h => ((h.reportCue _ _ _ _).growExhibit _ _ _).countMiss) (h.takeCues _)
  unfold Machine.fireJump; dsimp only; repeat' split
  exacts [(h.clock _).fireInOrder _, h.fireInOrder _, (dropped h.settleSome _).fireInOrder _]

theorem handleTick (h : TargetLaw s) (n : Word) (c : Byte) : TargetLaw (Machine.handleTick n c s) := by
  have locked : TargetLaw (lockClock s) := by
    unfold lockClock; dsimp only; split
    exacts [(h.clock _).endCondition _, h.clock _]
  have given (c : GalleryCommand) : TargetLaw (giveCommand c (Machine.tickEvent n (lockClock s))) := by
    have counted := locked.tickEvent n
    unfold giveCommand; repeat' split
    exacts [counted, counted.post _, counted, counted, counted.post _]
  have reported {t : Gx24} (h : TargetLaw t) : TargetLaw (sendStatus t) := (h.sendUp _).clock _
  unfold Machine.handleTick; split
  · unfold takeTick; dsimp only; split
    exacts [reported (given _).settle, reported ((given _).fireJump _ _).settle]
  · exact h.frame rfl

theorem localTick (h : TargetLaw s) : TargetLaw (Machine.localTick s) := by
  unfold Machine.localTick; exact (h.tickEvent _).fireInOrder _

theorem enterIsland (h : TargetLaw s) : TargetLaw (Machine.enterIsland s) := by
  have raised := (h.clock { s.gc with state := .island, silence := islandSilence }).raise keyTrunkLost
  have defaults : TargetLaw (islandDefaults (Machine.raise keyTrunkLost
      { s with gc := { s.gc with state := .island, silence := islandSilence } })) :=
    forRows_keeps (P := TargetLaw) (fun e _ h => by split; exacts [h.takeDefault e, h]) raised
  exact defaults.settle.localTick

theorem localExpiry (h : TargetLaw s) : TargetLaw (Machine.localExpiry s) := by
  unfold Machine.localExpiry; repeat' split
  exacts [h, h.localTick, h.enterIsland, h.clock _]

theorem takeCue (h : TargetLaw s) (d : Word) (e : Byte) (a : Word) (tag : Byte) :
    TargetLaw (Machine.takeCue d e a tag s) := by
  have scheduled (c : CueEntry) : TargetLaw (scheduleCue c s) := by
    unfold scheduleCue; dsimp only; repeat' split
    exacts [((h.clock _).reportCue _ _ _ _).reportCue _ _ _ _, h.reportCue _ _ _ _, (h.clock _).reportCue _ _ _ _]
  unfold Machine.takeCue; repeat' split
  exacts [h.reportCue _ _ _ _, h.runCue _, h.reportCue _ _ _ _, scheduled _, h.reportCue _ _ _ _]

theorem cancelCue (h : TargetLaw s) (e : Byte) (d : Word) : TargetLaw (Machine.cancelCue e d s) := by
  unfold Machine.cancelCue; repeat' split
  exacts [h.reportCue _ _ _ _, h.reportCue _ _ _ _, (h.clock _).reportCue _ _ _ _]

/-! ### Table writes (chapters 1, 2 and 5) -/

theorem writeStationRow (h : TargetLaw s) (w : Word) (c : List Byte) : TargetLaw (Machine.writeStationRow w c s).2 := by
  have withdrawn (st : Fin 24) {t : Gx24} (h : TargetLaw t) : TargetLaw (stationWithdrawn st t) := by
    have lost : TargetLaw (Machine.endLost st (discardAwaited st t)) := (h.branch _).endLost st
    have discarded : TargetLaw (discardCue st (Machine.decideGuardsOf st (Machine.endLost st (discardAwaited st t)))) := by
      unfold discardCue endStationWaits
      exact ((lost.decideGuardsOf st).modStation st _).endCueWaits _
    unfold stationWithdrawn; exact discarded.endQueryOf st
  have moved (st : Fin 24) (old new : StationRow) {t : Gx24} (h : TargetLaw t) : TargetLaw (moveStation st old new t) := by
    unfold moveStation; repeat' split
    exacts [(h.modStation st _).decideGuardsOf st, withdrawn st (h.modStation st _), withdrawn st (h.modStation st _), h]
  have shown (st : Fin 24) (old new : StationRow) {t : Gx24} (h : TargetLaw t) : TargetLaw (beaconRowWritten st old new t) := by
    unfold beaconRowWritten; split
    exacts [h.modStation st _, h]
  unfold Machine.writeStationRow; dsimp only; repeat' split
  exacts [h, shown _ _ _ (moved _ _ _ (h.branch _)), h]

theorem writeSchedule (h : TargetLaw s) (w : Word) (c : List Byte) : TargetLaw (Machine.writeSchedule w c s).2 := by
  have slots (st : Option (Fin 24)) (b : Bool) {t : Gx24} (h : TargetLaw t) : TargetLaw (slotsChanged st b t) := by
    unfold slotsChanged; dsimp only; repeat' split
    exacts [h, h, (h.decideGuardsOf _).endQueryOf _, h.decideGuardsOf _]
  have pick {p : Prop} [Decidable p] {t : Gx24} (ht : TargetLaw t) :
      TargetLaw (if p then (ReplyCode.live, s) else (.ok, t)).2 := by split; exacts [h, ht]
  unfold Machine.writeSchedule; dsimp only; split
  · split
    · exact h
    · exact pick (slots _ _ (slots _ _ (h.branch _)))
  · exact h

theorem writeAxisParams (h : TargetLaw s) (w : Word) (c : List Byte) : TargetLaw (Machine.writeAxisParams w c s).2 := by
  unfold Machine.writeAxisParams; split
  · next a new _ _ =>
    repeat' split
    · exact h
    · exact h
    · next off valid =>
      have ordered : new.softMin ≤ new.softMax := by
        simp only [Bool.or_eq_true, decide_eq_true_eq, not_or] at valid; omega
      exact h.limited a _ ⟨ordered, fun moves => absurd moves (by simp [Axis.moves, not_not.mp off])⟩
  · exact h

theorem writeExhibitConfig (h : TargetLaw s) (w : Word) (c : List Byte) : TargetLaw (Machine.writeExhibitConfig w c s).2 := by
  have shown (e : Fin 16) {t : Gx24} (h : TargetLaw t) : TargetLaw (showMode e t) := by
    unfold showMode; split
    exacts [h.modStation _ _, h]
  unfold Machine.writeExhibitConfig; dsimp only; repeat' split
  exacts [h, h, h.modExhibit _ _, shown _ (h.modExhibit _ _), h]

theorem writeSettings (h : TargetLaw s) (w : Word) (c : List Byte) : TargetLaw (Machine.writeSettings w c s).2 := by
  unfold Machine.writeSettings; dsimp only; repeat' split
  exacts [h, h, h.frame rfl, h.frame rfl]

theorem ownerWrite (h : TargetLaw s) (i : Nat) (w : Word) (c : List Byte) {r : ReplyCode × Gx24}
    (hr : Machine.ownerWrite i w c s = some r) : TargetLaw r.2 := by
  have input : TargetLaw (writeInputMap w c s).2 := by
    unfold writeInputMap; repeat' split
    exacts [h, h, h.frame rfl, h]
  have trigger : TargetLaw (writeTriggerRow w c s).2 := by
    unfold writeTriggerRow; repeat' split
    exacts [h, h.frame rfl, h]
  have action : TargetLaw (writeAction w c s).2 := by
    unfold writeAction; repeat' split
    exacts [h, h, h.frame rfl, h]
  have program : TargetLaw (writeProgram w c s).2 := by
    unfold writeProgram; repeat' split
    exacts [h, h.frame rfl, h]
  have segment : TargetLaw (writeSegment w c s).2 := by
    unfold writeSegment; repeat' split
    exacts [h, h.frame rfl, h]
  have classes : TargetLaw (writeAlertClass w c s).2 := by
    unfold writeAlertClass; repeat' split
    exacts [h, h, h.frame rfl]
  have neighbours : TargetLaw (writeNeighbours w c s).2 := by
    unfold writeNeighbours; repeat' split
    exacts [h, blind.alertBlind.render (blind.alertBlind.alerts _ h), h]
  unfold Machine.ownerWrite at hr
  split at hr <;> first | (cases hr; done) | (injection hr with hr; subst hr)
  exacts [h.writeStationRow _ _, h.writeSchedule _ _, input, trigger, action, h.writeExhibitConfig _ _,
    h.writeAxisParams _ _, program, segment, classes, neighbours, h.writeSettings _ _]

/-! ### Management and resets (chapter 10) -/

theorem replyWrite {r : ReplyCode × Gx24} (h : TargetLaw r.2) (tag : Byte) (i : Nat) (w : Word) :
    TargetLaw (Machine.replyWrite tag i w r) := h.sendUp _

theorem readTable (h : TargetLaw s) (tag : Byte) (b : List Byte) : TargetLaw (Machine.readTable tag b s) := by
  unfold Machine.readTable; dsimp only; split
  exacts [h.sendUp _, h.sendUp _]

theorem writeTable (h : TargetLaw s) (tag : Byte) (b : List Byte) : TargetLaw (Machine.writeTable tag b s) := by
  unfold Machine.writeTable; dsimp only; split
  · split
    · exact h.sendUp _
    · split
      · next hr => exact (h.ownerWrite _ _ _ hr).replyWrite _ _ _
      · exact h.sendUp _
  · exact h.sendUp _
  · exact h.sendUp _

theorem manageMode (h : TargetLaw s) (tag : Byte) (b : List Byte) : TargetLaw (Machine.manageMode tag b s) := by
  unfold Machine.manageMode; dsimp only; repeat' split
  exacts [(h.setMode _ _).sendUp _, h.sendUp _, h.sendUp _]

theorem manageAxis (h : TargetLaw s) (tag : Byte) (b : List Byte) : TargetLaw (Machine.manageAxis tag b s) := by
  unfold Machine.manageAxis; dsimp only; repeat' split
  exacts [(h.enableAxis _).sendUp _, (h.disableAxis _).sendUp _, h.sendUp _, h.sendUp _]

theorem manageSnapshot (h : TargetLaw s) (tag : Byte) (b : List Byte) : TargetLaw (Machine.manageSnapshot tag b s) := by
  have taken (clear : Bool) : TargetLaw (takeSnapshot clear s) := h.frame rfl
  unfold Machine.manageSnapshot; split
  exacts [(taken _).sendUp _, h.sendUp _]

theorem manageClearCold (h : TargetLaw s) (tag : Byte) (b : List Byte) : TargetLaw (Machine.manageClearCold tag b s) := by
  have cleared : TargetLaw { s with tp := { s.tp with coldFlag := false } } := h.frame rfl
  unfold Machine.manageClearCold; split
  exacts [cleared.sendUp _, h.sendUp _]

theorem warmBlocks (h : TargetLaw s) : TargetLaw (Machine.warmBlocks s) := targetLaw_iff.mpr fun a => by
  rw [axisOf_warmBlocks]
  exact ⟨(h a).1, fun moves => absurd moves (by simp [Axis.moves, Axis.warm])⟩

theorem raiseAgain (h : TargetLaw s) : TargetLaw (Machine.raiseAgain s) := by
  have last {t : Gx24} (h : TargetLaw t) : TargetLaw (if t.gc.state = .island then Machine.raise keyTrunkLost t else t) := by
    split
    exacts [h.raise _, h]
  unfold Machine.raiseAgain; dsimp only
  refine last (forRows_keeps (P := TargetLaw) (fun st _ h => ?_) ?_)
  · split
    exacts [h.raiseLost st, h]
  · split
    exacts [blind.alertBlind.setPower (h.raise _), h]

theorem manageReset (h : TargetLaw s) (tag : Byte) (b : List Byte) : TargetLaw (Machine.manageReset tag b s) := by
  unfold Machine.manageReset; split
  exacts [TargetLaw.raiseAgain (h.warmBlocks.sendUp _), h.sendUp _]

theorem coldBlocks (n : Serial) (s : Gx24) : TargetLaw (Machine.coldBlocks n s) := targetLaw_iff.mpr fun a => by
  rw [axisOf_coldBlocks]
  exact ⟨by decide, fun moves => absurd moves (by decide)⟩

theorem holdReset (s : Gx24) : TargetLaw (Machine.holdReset s) := (coldBlocks s.tp.node s).frame rfl

theorem coldReset (n : Option Serial) (s : Gx24) : TargetLaw (Machine.coldReset n s) := by
  unfold Machine.coldReset releaseReset; dsimp only; repeat' split
  exacts [holdReset s, blind.alertBlind.setPower ((coldBlocks _ s).raise _), blind.alertBlind.setPower (coldBlocks _ s)]

/-! ### Frames of the trunk (10.2) -/

theorem growTrunk (h : TargetLaw s) (c : TrunkCounter) : TargetLaw (Machine.growTrunk c s) := h.frame rfl

theorem frameError (h : TargetLaw s) : TargetLaw (Machine.frameError s) := h.growTrunk _

theorem takeFrame {f : Gx24 → Gx24} (hf : ∀ {s}, TargetLaw s → TargetLaw (f s)) (h : TargetLaw s) :
    TargetLaw (Machine.takeFrame f s) := by
  unfold Machine.takeFrame; split
  exacts [h.growTrunk _, hf (h.growTrunk _)]

theorem handleMove (h : TargetLaw s) (a p m : Byte) : TargetLaw (Machine.handleMove a p m s) := by
  unfold Machine.handleMove; split
  exacts [h.claimAxis _ _, h.frameError]

theorem handleHalt (h : TargetLaw s) (a m : Byte) : TargetLaw (Machine.handleHalt a m s) := by
  unfold Machine.handleHalt; split
  exacts [h.haltAxis _ _, h.frameError]

theorem handleJog (h : TargetLaw s) (a : Byte) (x y : Word) : TargetLaw (Machine.handleJog a x y s) := by
  unfold Machine.handleJog; split
  exacts [h.claimAxis _ _, h.frameError]

theorem handleAck (h : TargetLaw s) (i g : Byte) : TargetLaw (Machine.handleAck i g s) := by
  have counted (c : AlertCounter) {t : Gx24} (h : TargetLaw t) : TargetLaw (growAlert c t) := h.frame rfl
  unfold Machine.handleAck; repeat' split
  exacts [h.frameError, counted _ (h.acknowledgeAll _), counted _ h]

theorem handleVerdict (h : TargetLaw s) (e n v : Byte) : TargetLaw (Machine.handleVerdict e n v s) := by
  unfold Machine.handleVerdict; split
  exacts [h.takeVerdict _ _ _, h.frameError]

theorem handleOutput (h : TargetLaw s) (st x l v : Byte) : TargetLaw (Machine.handleOutput st x l v s) := by
  unfold Machine.handleOutput; repeat' split
  exacts [h.modStation _ _, h.frameError, h.writeCue _ _, h.frameError]

theorem takeQuery (h : TargetLaw s) (st : Byte) (p : Word) : TargetLaw (Machine.takeQuery st p s) := by
  unfold Machine.takeQuery; repeat' split
  exacts [h.sendUp _, h.sendUp _, h.sendUp _, h.sendUp _, h.branch _]

theorem discardFrame (h : TargetLaw s) (l : List Byte) : TargetLaw (Machine.discardFrame l s) := by
  unfold Machine.discardFrame; split
  exacts [h.growTrunk _, h]

theorem sendHead (h : TargetLaw s) : TargetLaw (Machine.sendHead s) := by
  unfold Machine.sendHead; split
  exacts [h, h.frame rfl]

/-! ### Events inside the part (assumption 5) -/

theorem eventSweepStart (h : TargetLaw s) : TargetLaw (Machine.eventSweepStart s) := by
  unfold Machine.eventSweepStart; split
  exacts [(h.endSlot none).settle.startSweep, h]

theorem eventDwellEnd (h : TargetLaw s) (a : Fin 8) : TargetLaw (Machine.eventDwellEnd a s) := by
  unfold Machine.eventDwellEnd; dsimp only; split
  exacts [h.stepAxis a, h]

theorem eventGuardSettle (h : TargetLaw s) (a : Fin 8) : TargetLaw (Machine.eventGuardSettle a s) := by
  unfold Machine.eventGuardSettle; dsimp only; split
  exacts [h.stepAxis a, h]

theorem eventStationLost (h : TargetLaw s) (st : Fin 24) : TargetLaw (Machine.eventStationLost st s) := by
  have missed : TargetLaw (missAwaited st s) := by
    unfold missAwaited; repeat' split
    exacts [h.endSlot none, h, h]
  unfold Machine.eventStationLost; dsimp only; repeat' split
  exacts [h.loseStation st, missed, h, h]

theorem eventQueryTimeout (h : TargetLaw s) : TargetLaw (Machine.eventQueryTimeout s) := by
  unfold Machine.eventQueryTimeout; repeat' split
  exacts [h.endQuery _ _, h, h]

theorem eventChainFaultLoop (h : TargetLaw s) (e : Fin 16) : TargetLaw (Machine.eventChainFaultLoop e s) := by
  unfold Machine.eventChainFaultLoop; split
  exacts [h.chainFault _ _, h]

theorem eventCrowding (h : TargetLaw s) (e : Fin 16) : TargetLaw (Machine.eventCrowding e s) := by
  unfold Machine.eventCrowding; dsimp only; split
  exacts [h.raiseCrowding e, h]

theorem eventGuardHeld (h : TargetLaw s) (a : Fin 8) : TargetLaw (Machine.eventGuardHeld a s) := by
  unfold Machine.eventGuardHeld; dsimp only; split
  exacts [(h.touch a _).raiseGuardHeld a, h]

theorem eventClaimTimeout (h : TargetLaw s) (a : Fin 8) (c : Claimant) : TargetLaw (Machine.eventClaimTimeout a c s) := by
  unfold Machine.eventClaimTimeout; repeat' split
  exacts [(h.touch a _).timeOutClaim a c, h, h]

theorem eventEscalation (h : TargetLaw s) (i : Fin 64) : TargetLaw (Machine.eventEscalation i s) := by
  unfold Machine.eventEscalation; dsimp only; repeat' split
  exacts [blind.alertBlind.alertsChanged _ (blind.alertBlind.escalateSlot i ([], _) h), h, h]

theorem eventCooldownEnd (h : TargetLaw s) (e : Fin 16) : TargetLaw (Machine.eventCooldownEnd e s) := by
  unfold Machine.eventCooldownEnd; split
  exacts [(h.modExhibit e _).cooldownOver e, h]

theorem eventWaitTicksEnd (h : TargetLaw s) (e : Fin 16) : TargetLaw (Machine.eventWaitTicksEnd e s) := by
  unfold Machine.eventWaitTicksEnd; split
  exacts [(h.modRunner e _).endWait e, h]

theorem eventReferralTimeout (h : TargetLaw s) (e : Fin 16) : TargetLaw (Machine.eventReferralTimeout e s) := by
  unfold Machine.eventReferralTimeout; split
  exacts [(h.modRunner e _).timeOutReferral e, h]

theorem eventQuietExpiry (h : TargetLaw s) : TargetLaw (Machine.eventQuietExpiry s) := by
  unfold Machine.eventQuietExpiry; split
  exacts [(h.activity _).expireQuiet, h]

theorem eventIdleExpiry (h : TargetLaw s) (e : Fin 16) : TargetLaw (Machine.eventIdleExpiry e s) := by
  unfold Machine.eventIdleExpiry; split
  exacts [h.expireIdle e, h]

theorem eventIslandEntry (h : TargetLaw s) : TargetLaw (Machine.eventIslandEntry s) := by
  unfold Machine.eventIslandEntry; split
  exacts [h.enterIsland, h]

theorem eventCueFire (h : TargetLaw s) (e : Fin 16) (d : Word) : TargetLaw (Machine.eventCueFire e d s) := by
  unfold Machine.eventCueFire; repeat' split
  exacts [(h.takeCues _).runCue _, h, h]

/-! ### Every command -/

theorem actOr {held f : Gx24 → Gx24} {s t : State} (hl : ∀ {p}, TargetLaw p → TargetLaw (held p))
    (hf : ∀ {p}, TargetLaw p → TargetLaw (f p)) (h : TargetLaw s.part) (ht : s.actOr held f = .next t) :
    TargetLaw t.part := by
  rw [State.actOr_eq] at ht
  injection ht with ht
  subst ht
  dsimp only; split
  exacts [hl h, (hf h).settle]

theorem act {f : Gx24 → Gx24} {s t : State} (hf : ∀ {p}, TargetLaw p → TargetLaw (f p)) (h : TargetLaw s.part)
    (ht : s.act f = .next t) : TargetLaw t.part := actOr (fun h => h) hf h ht

theorem frameAct {f : Gx24 → Gx24} {s t : State} (hf : ∀ {p}, TargetLaw p → TargetLaw (f p)) (h : TargetLaw s.part)
    (ht : s.act (Machine.takeFrame f) = .next t) : TargetLaw t.part := act (fun h => takeFrame hf h) h ht

/-- Every command keeps the targets within the limits. -/
theorem exec {i : Instr} {s t : State} (h : TargetLaw s.part) (ht : Machine.exec i s = .next t) : TargetLaw t.part := by
  cases i
  case coldReset => exact actOr (fun _ => (coldReset _ _).settle) (fun _ => coldReset _ _) h ht
  case estopAsserted => exact actOr (fun _ => holdReset _) assertEstop h ht
  case estopReleased => exact actOr (fun _ => holdReset _) releaseEstop h ht
  case sweepStart => exact act eventSweepStart h ht
  case slotStart => exact act nextSlotStart h ht
  case dwellEnd => exact act (·.eventDwellEnd _) h ht
  case guardSettle => exact act (·.eventGuardSettle _) h ht
  case slotEnd => exact act (·.endSlot _) h ht
  case stationLost => exact act (·.eventStationLost _) h ht
  case queryTimeout => exact act eventQueryTimeout h ht
  case chainFaultLoop => exact act (·.eventChainFaultLoop _) h ht
  case crowding => exact act (·.eventCrowding _) h ht
  case guardHeld => exact act (·.eventGuardHeld _) h ht
  case claimTimeout => exact act (·.eventClaimTimeout _ _) h ht
  case escalation => exact act (·.eventEscalation _) h ht
  case cooldownEnd => exact act (·.eventCooldownEnd _) h ht
  case waitTicksEnd => exact act (·.eventWaitTicksEnd _) h ht
  case referralTimeout => exact act (·.eventReferralTimeout _) h ht
  case quietTimerExpiry => exact act eventQuietExpiry h ht
  case idleExpiry => exact act (·.eventIdleExpiry _) h ht
  case localTimerExpiry => exact act localExpiry h ht
  case islandEntry => exact act eventIslandEntry h ht
  case tick => exact act (fun h => (h.growTrunk _).handleTick _ _) h ht
  case cueFire => exact act (·.eventCueFire _ _) h ht
  case downFrameDiscarded => exact act (·.discardFrame _) h ht
  case cueFrame => exact frameAct (·.takeCue _ _ _ _) h ht
  case cueCancel => exact frameAct (·.cancelCue _ _) h ht
  case moveFrame => exact frameAct (·.handleMove _ _ _) h ht
  case halt => exact frameAct (·.handleHalt _ _) h ht
  case jog => exact frameAct (·.handleJog _ _ _) h ht
  case ackAlert => exact frameAct (·.handleAck _ _) h ht
  case verdict => exact frameAct (·.handleVerdict _ _ _) h ht
  case query => exact frameAct (·.takeQuery _ _) h ht
  case outputLamp => exact frameAct (·.handleOutput _ _ _ _) h ht
  case outputCue => exact frameAct (·.handleOutput _ _ _ _) h ht
  case tableRead => exact frameAct (·.readTable _ _) h ht
  case tableWrite => exact frameAct (·.writeTable _ _) h ht
  case stationRowWrite => exact frameAct (fun h => (h.ownerWrite 1 _ _ rfl).replyWrite _ _ _) h ht
  case sweepScheduleWrite => exact frameAct (fun h => (h.ownerWrite 2 _ _ rfl).replyWrite _ _ _) h ht
  case inputMapWrite => exact frameAct (fun h => (h.ownerWrite 3 _ _ rfl).replyWrite _ _ _) h ht
  case triggerRowWrite => exact frameAct (fun h => (h.ownerWrite 4 _ _ rfl).replyWrite _ _ _) h ht
  case actionEntryWrite => exact frameAct (fun h => (h.ownerWrite 6 _ _ rfl).replyWrite _ _ _) h ht
  case exhibitConfigWrite => exact frameAct (fun h => (h.ownerWrite 7 _ _ rfl).replyWrite _ _ _) h ht
  case axisParameterWrite => exact frameAct (fun h => (h.ownerWrite 8 _ _ rfl).replyWrite _ _ _) h ht
  case programWrite => exact frameAct (fun h => (h.ownerWrite 9 _ _ rfl).replyWrite _ _ _) h ht
  case segmentWrite => exact frameAct (fun h => (h.ownerWrite 10 _ _ rfl).replyWrite _ _ _) h ht
  case alertClassWrite => exact frameAct (fun h => (h.ownerWrite 11 _ _ rfl).replyWrite _ _ _) h ht
  case zoneNeighbourWrite => exact frameAct (fun h => (h.ownerWrite 12 _ _ rfl).replyWrite _ _ _) h ht
  case settingsWrite => exact frameAct (fun h => (h.ownerWrite 15 _ _ rfl).replyWrite _ _ _) h ht
  case exhibitMode => exact frameAct (·.manageMode _ _) h ht
  case axisEnable => exact frameAct (·.manageAxis _ _) h ht
  case axisDisable => exact frameAct (·.manageAxis _ _) h ht
  case snapshot => exact frameAct (·.manageSnapshot _ _) h ht
  case resetWarm => exact frameAct (·.manageReset _ _) h ht
  case clearCold => exact frameAct (·.manageClearCold _ _) h ht
  case upFrameSent => exact act sendHead h ht
  case mgmtUnknownOperation => exact frameAct (fun h => h.sendUp _) h ht

theorem step {s t : State} (h : TargetLaw s.part) (ht : Machine.step s = .next t) : TargetLaw t.part := by
  unfold Machine.step at ht
  split at ht
  · injection ht with ht; subst ht; exact h.settle
  · next c rest _ => exact exec (s := { s with pending := rest }) h ht

end Sys2Proof.Machine.TargetLaw

open Sys2Proof Sys2Proof.Machine

/-- Settles O12: a target is only set by a segment that starts, clamped, and the limits change only on an axis that is OFF. -/
theorem targetsStayWithinTheSoftLimits : Obligations.TargetsStayWithinTheSoftLimits := fun _ _ h ht => h.step ht

end

section
/-! The step of an axis (5.3 to 5.9), the ends of a dwell and of a guard's settle, and halts. -/

namespace Sys2Proof.Machine

variable {s t p : Gx24} {a : Fin 8} {x : Axis} {f : Axis → Axis} {j : Job} {c : Claimant} {o : Origin}

/-! ### Motion toward the target (R94, R99) -/

theorem landingCap_runSpeed (A C v d : Nat) : landingCap (runSpeed A C v d) d = stepSpeed A C v d := Nat.min_comm ..

theorem stepSpeed_le (A C v d : Nat) : stepSpeed A C v d ≤ d := Nat.min_le_left ..

/-- How far the running step moves the axis (R94). -/
def Axis.runLength (x : Axis) : Nat :=
  stepSpeed x.params.accel x.cruise x.velocity.natAbs (x.target - x.position).natAbs

theorem Axis.runMotion_eq (x : Axis) : x.runMotion = x.advanced x.runLength := by
  unfold Axis.runMotion Axis.runLength; dsimp only; rw [landingCap_runSpeed]; rfl

/-- How far a braking step at deceleration `b` moves the axis (R99, R100). -/
def Axis.brakeLength (x : Axis) (b : Nat) : Nat := min (x.velocity.natAbs - b) (x.target - x.position).natAbs

theorem Axis.brakeMotion_eq (x : Axis) (b : Nat) : x.brakeMotion b = x.advanced (x.brakeLength b) := rfl

theorem Axis.distance_eq_zero : x.distance = 0 ↔ x.position = x.target := by unfold Axis.distance; omega

/-- A move that does not pass the target reaches it exactly when it is the whole distance. -/
theorem Axis.advanced_reaches_iff {n : Nat} (h : n ≤ (x.target - x.position).natAbs) :
    (x.advanced n).position = x.target ↔ n = (x.target - x.position).natAbs := by
  have reached : (x.advanced n).position = x.target ↔ (x.target - x.position).sign * n = x.target - x.position := by
    unfold Axis.advanced; dsimp only; omega
  rw [reached]
  refine ⟨fun whole => ?_, fun hn => by rw [hn, Int.sign_mul_natAbs]⟩
  by_cases here : x.target - x.position = 0
  · rw [here] at h ⊢; exact Nat.le_zero.mp h
  · have lengths := congrArg Int.natAbs whole
    rwa [Int.natAbs_mul, Int.natAbs_sign_of_ne_zero here, Nat.one_mul, Int.natAbs_natCast] at lengths

/-! ### The parts of a step (R91, R103, R122) -/

theorem driveEnable_of_on {st : AxisState} (h : st ≠ .off) (b : Bool) : driveEnable st b = (decide (st ≠ .fault) && !b) := by
  simp [driveEnable, h]

/-- A held step is counted and the reference taken (R91, R122). -/
theorem stepAxis_of_missed (h : (axisOf a s).stepGood = false) :
    stepAxis a s = growAxis a .heldSteps (modAxis a Axis.referred s) := by
  have missed : (axisOf a (modAxis a Axis.referred s)).stepGood = false := by rw [Kept.axisOf_modAxis_same]; exact h
  unfold stepAxis; dsimp only; rw [missed]; rfl

theorem stepAxis_of_good (h : (axisOf a s).stepGood = true) (hu : stateStep a (modAxis a Axis.referred s) = t) :
    stepAxis a s = if (axisOf a t).state = .off then t else buildSetpoint a t := by
  have good : (axisOf a (modAxis a Axis.referred s)).stepGood = true := by rw [Kept.axisOf_modAxis_same]; exact h
  unfold stepAxis; dsimp only; rw [good, hu]; rfl

/-- The axis with the setpoint built from it (R103). -/
def Axis.stored (estop : Bool) (x : Axis) : Axis :=
  { x with setpoint := some ⟨x.position, driveEnable x.state estop⟩ }

theorem Axis.stored_of_state {st : AxisState} (h : x.state = st) (b : Bool) :
    x.stored b = { x with setpoint := some ⟨x.position, driveEnable st b⟩ } := by unfold Axis.stored; rw [h]

theorem buildSetpoint_eq (a : Fin 8) (s : Gx24) : buildSetpoint a s = modAxis a (Axis.stored s.estop) s := rfl

/-- A good step that leaves the axis on stores the setpoint of what the step made of it. -/
theorem stepAxis_of_on (h : (axisOf a s).stepGood = true) (hu : stateStep a (modAxis a Axis.referred s) = modAxis a f t)
    (on : (f (axisOf a t)).state ≠ .off) :
    stepAxis a s = modAxis a (fun x => (f x).stored t.estop) t := by
  rw [stepAxis_of_good h hu, Kept.axisOf_modAxis_same, if_neg on, buildSetpoint_eq, modAxis_modAxis]; rfl

theorem axisOf_referred (a : Fin 8) (s : Gx24) :
    axisOf a (modAxis a Axis.referred s) = { axisOf a s with reference := referenceBefore (axisOf a s) } :=
  Kept.axisOf_modAxis_same ..

theorem stateStep_of_running (h : (axisOf a s).state = .running) : stateStep a s = runningStep a s := by
  unfold stateStep; rw [h]

theorem stateStep_of_dwell (h : (axisOf a s).state = .dwell) : stateStep a s = dwellStep a s := by
  unfold stateStep; rw [h]

theorem stateStep_of_halting (h : (axisOf a s).state = .halting) : stateStep a s = haltingStep a s := by
  unfold stateStep; rw [h]

theorem stateStep_of_guardStop (h : (axisOf a s).state = .guardStop) : stateStep a s = guardStep a s := by
  unfold stateStep; rw [h]

/-! ### Segments (R93, R96, R97) -/

theorem jobCount_modAxis (j : Job) (a : Fin 8) (f : Axis → Axis) (s : Gx24) : jobCount j (modAxis a f s) = jobCount j s := by
  cases j <;> rfl

theorem jobSegment_modAxis (j : Job) (i : Nat) (a : Fin 8) (f : Axis → Axis) (s : Gx24) :
    jobSegment j i (modAxis a f s) = jobSegment j i s := by
  cases j <;> rfl

theorem currentDwell_modAxis (x : Axis) (a : Fin 8) (f : Axis → Axis) (s : Gx24) :
    currentDwell x (modAxis a f s) = currentDwell x s := by
  unfold currentDwell; split
  · rw [jobSegment_modAxis]
  · rfl

/-- A segment with a target outside the soft limits is counted (R93). -/
def Gx24.clampCounted (a : Fin 8) (p : AxisParams) (g : Segment) (s : Gx24) : Gx24 :=
  if softClamp p g.target ≠ g.target then growAxis a .clamps s else s

theorem clampCounted_estop (a : Fin 8) (p : AxisParams) (g : Segment) (s : Gx24) :
    (s.clampCounted a p g).estop = s.estop := by unfold Gx24.clampCounted; split <;> rfl

theorem clampCounted_work (a : Fin 8) (p : AxisParams) (g : Segment) (s : Gx24) :
    (s.clampCounted a p g).work = s.work := by unfold Gx24.clampCounted; split <;> rfl

theorem axisOf_clampCounted (b a : Fin 8) (p : AxisParams) (g : Segment) (s : Gx24) :
    axisOf b (s.clampCounted a p g) = axisOf b s := by unfold Gx24.clampCounted; split <;> rfl

theorem clampCounted_modAxis (a : Fin 8) (p : AxisParams) (g : Segment) (b : Fin 8) (f : Axis → Axis) (s : Gx24) :
    Gx24.clampCounted a p g (modAxis b f s) = modAxis b f (s.clampCounted a p g) := by
  unfold Gx24.clampCounted; split <;> rfl

/-- A segment that starts on a changed axis (R93). -/
theorem startSegment_modAxis {g : Segment} (hj : (f (axisOf a s)).job = some j)
    (hg : jobSegment j (f (axisOf a s)).segIndex s = g) :
    startSegment a (modAxis a f s) =
      modAxis a (fun x => (f x).started g) (s.clampCounted a (f (axisOf a s)).params g) := by
  unfold startSegment; dsimp only
  rw [Kept.axisOf_modAxis_same, hj]; dsimp only
  rw [jobSegment_modAxis, hg, modAxis_modAxis]
  unfold Gx24.clampCounted; split <;> rfl

theorem Axis.started_of_moving (h : x.state ≠ .guardStop) (g : Segment) :
    x.started g = { x with
      state := .running, cruise := g.cruise * 16, target := softClamp x.params g.target * 16
      clamped := x.clamped || decide (softClamp x.params g.target ≠ g.target) } := by
  unfold Axis.started; rw [if_neg h]; rfl

/-- A completed segment that is not its program's last: the next starts (R97). -/
theorem completeSegment_next {g : Segment} (hj : (axisOf a s).job = some j) (more : (axisOf a s).segIndex + 1 < jobCount j s)
    (hg : jobSegment j ((axisOf a s).segIndex + 1) s = g) :
    completeSegment a s = modAxis a (fun x => { x with segIndex := x.segIndex + 1 }.started g)
      (s.clampCounted a (axisOf a s).params g) := by
  unfold completeSegment; dsimp only; rw [hj]; dsimp only; rw [if_pos more]
  exact startSegment_modAxis hj hg

theorem completeSegment_last (hj : (axisOf a s).job = some j) (last : jobCount j s ≤ (axisOf a s).segIndex + 1)
    (once : (axisOf a s).mode = .once) : completeSegment a s = endProgram a .done s := by
  unfold completeSegment; dsimp only; rw [hj]; dsimp only
  rw [if_neg (by omega), if_pos (.inl once)]

/-! ### The running, dwell and halting steps (R94, R96, R99) -/

theorem runningStep_short (h : (axisOf a s).runLength < ((axisOf a s).target - (axisOf a s).position).natAbs) :
    runningStep a s = modAxis a Axis.runMotion s := by
  have short : ¬(axisOf a s).runMotion.distance = 0 := fun arrived => by
    rw [Axis.distance_eq_zero, Axis.runMotion_eq] at arrived
    exact absurd ((Axis.advanced_reaches_iff (stepSpeed_le ..)).mp arrived) (Nat.ne_of_lt h)
  unfold runningStep; dsimp only; rw [Kept.axisOf_modAxis_same, if_neg short]

theorem runningStep_dwells (h : (axisOf a s).runLength = ((axisOf a s).target - (axisOf a s).position).natAbs)
    (hd : 0 < currentDwell (axisOf a s) s) :
    runningStep a s = modAxis a (fun x => { x.runMotion with
      velocity := 0, state := .dwell, dwell := currentDwell (axisOf a s) s }) s := by
  have arrived : (axisOf a s).runMotion.distance = 0 := by
    rw [Axis.distance_eq_zero, Axis.runMotion_eq]
    exact (Axis.advanced_reaches_iff (stepSpeed_le ..)).mpr h
  have dwell : currentDwell (axisOf a s).runMotion (modAxis a Axis.runMotion s) = currentDwell (axisOf a s) s :=
    currentDwell_modAxis ..
  unfold runningStep; dsimp only; rw [Kept.axisOf_modAxis_same, if_pos arrived]
  unfold arrive; dsimp only
  rw [Kept.axisOf_modAxis_same, dwell, if_neg (by omega), modAxis_modAxis]; rfl

theorem dwellStep_onward (h : 1 < (axisOf a s).dwell) :
    dwellStep a s = modAxis a (fun x => { x with dwell := x.dwell - 1 }) s := by
  unfold dwellStep; dsimp only; rw [Kept.axisOf_modAxis_same, if_neg (by dsimp only; omega)]

theorem dwellStep_over (h : (axisOf a s).dwell ≤ 1) :
    dwellStep a s = completeSegment a (modAxis a (fun x => { x with dwell := 0 }) s) := by
  have none_left : (axisOf a s).dwell - 1 = 0 := by omega
  unfold dwellStep; dsimp only; rw [Kept.axisOf_modAxis_same, if_pos none_left]
  exact congrArg _ (modAxis_congr (by rw [none_left]))

/-- How far the halting step moves the axis (R99). -/
abbrev Axis.haltLength (x : Axis) : Nat := x.brakeLength x.params.accel

theorem haltingStep_onward (moving : ((axisOf a s).advanced (axisOf a s).haltLength).velocity ≠ 0)
    (short : ((axisOf a s).advanced (axisOf a s).haltLength).position ≠ (axisOf a s).target) :
    haltingStep a s = modAxis a (fun x => x.advanced x.haltLength) s := by
  unfold haltingStep; dsimp only
  rw [Kept.axisOf_modAxis_same, Axis.brakeMotion_eq]
  exact if_neg (not_or.mpr ⟨moving, fun arrived => short (Axis.distance_eq_zero.mp arrived)⟩)

theorem haltingStep_ends (h : ((axisOf a s).advanced (axisOf a s).haltLength).velocity = 0 ∨
      ((axisOf a s).advanced (axisOf a s).haltLength).position = (axisOf a s).target) :
    haltingStep a s = endProgram a .halted (modAxis a (fun x => { x.advanced x.haltLength with velocity := 0 }) s) := by
  unfold haltingStep; dsimp only
  rw [Kept.axisOf_modAxis_same, Axis.brakeMotion_eq, modAxis_modAxis]
  exact if_pos (h.imp_right Axis.distance_eq_zero.mpr)

/-! ### The end of a program that a frame began (R102, R114) -/

theorem growAxis_modAxis (b : Fin 8) (k : AxisCounter) (a : Fin 8) (f : Axis → Axis) (s : Gx24) :
    growAxis b k (modAxis a f s) = modAxis a f (growAxis b k s) := rfl

/-- With no claim pending an axis that is not disabling is released (R102). -/
theorem releaseAxis_of_unclaimed (hc : (axisOf a s).claims = []) (hd : (axisOf a s).disabling = false) :
    releaseAxis a s = modAxis a (fun x => { x with owner := none }) s := by
  have stays : ¬(axisOf a (modAxis a (fun x => { x with owner := none }) s)).disabling = true := by
    rw [Kept.axisOf_modAxis_same]; simp [hd]
  unfold releaseAxis; dsimp only; rw [if_neg stays]
  unfold grantAxis; rw [winner_of_nil (by rw [Kept.axisOf_modAxis_same]; exact hc)]

/-- A program that HEAD-END or MAINTENANCE began ends: the axis is at rest without owner, and the owner is told. -/
theorem endProgram_of_frame {r : MoveResult} (frame : c = .headEnd ∨ c = .maintenance) (hj : (axisOf a s).job = some j)
    (ho : (axisOf a s).owner = some ⟨c, o⟩) (hc : (axisOf a s).claims = []) (hd : (axisOf a s).disabling = false) :
    endProgram a r s = sendUp (moveReplyOf a c j r .none) (modAxis a Axis.released
      (growAxis a (if r = .done then .programsDone else .programsHalted) s)) := by
  unfold endProgram; dsimp only
  rw [hj, ho, tellOwner_reply frame]
  have told (k : Claimant) (c : AxisCounter) : axisOf a (sendUp (moveReplyOf a k j r .none) (growAxis a c (modAxis a (fun x => x.ended .idle) s))) =
      (axisOf a s).ended .idle := by
    unfold axisOf; rw [sendUp_mu]; exact Kept.axisOf_modAxis_same ..
  rw [releaseAxis_of_unclaimed (by rw [told]; exact hc) (by rw [told]; exact hd), ← sendUp_modAxis, growAxis_modAxis, modAxis_modAxis]
  rfl

/-- A command that comes to a part without notices leaves it so. -/
theorem Gx24.Quiet.runs_still_as {f : Gx24 → Gx24} (h : p.Quiet) (q : List Instr) (ht : f p = t) (hw : t.work = []) :
    State.act f ⟨p, q⟩ = .next ⟨t, q⟩ := by rw [h.runs, ht, settle_of_empty hw]

/-! ### Guards that settle (R101, R119) -/

theorem guardStep_resumes (closed : (axisOf a s).guardOpen = false)
    (settled : (axisOf a s).params.guardSettle ≤ (axisOf a s).settleCount + 1) :
    guardStep a s = resumeStep a (modAxis a (fun x => { x with settleCount := x.settleCount + 1 }) s) := by
  unfold guardStep; dsimp only
  rw [closed, Kept.axisOf_modAxis_same]
  exact if_pos settled

theorem resumeStep_of_running (h : (axisOf a s).resume = .running) :
    resumeStep a s = runningStep a (modAxis a (fun x => { x with state := .running }) s) := by unfold resumeStep; rw [h]

theorem resumeStep_of_dwell (h : (axisOf a s).resume = .dwell) :
    resumeStep a s = dwellStep a (modAxis a (fun x => { x with state := .dwell }) s) := by unfold resumeStep; rw [h]

/-! ### Halts (R98) -/

theorem haltNow_of_resting (h : (axisOf a s).state = .dwell ∨
      ((axisOf a s).state = .running ∨ (axisOf a s).state = .guardStop) ∧ (axisOf a s).velocity = 0) :
    haltNow a s = endProgram a .halted s := by
  unfold haltNow haltNowWith; dsimp only
  obtain hs | ⟨hs | hs, hv⟩ := h
  · rw [hs]
  · rw [hs]; exact if_pos hv
  · rw [hs]; exact if_pos hv

theorem haltNow_of_running (hs : (axisOf a s).state = .running) (hv : (axisOf a s).velocity ≠ 0) :
    haltNow a s = modAxis a (fun x => { x with state := .halting }) s := by
  unfold haltNow haltNowWith; dsimp only; rw [hs]; exact if_neg hv

theorem haltNow_of_guardStop (hs : (axisOf a s).state = .guardStop) (hv : (axisOf a s).velocity ≠ 0) :
    haltNow a s = modAxis a (fun x => { x with resume := .halting }) s := by
  unfold haltNow haltNowWith; dsimp only; rw [hs]; exact if_neg hv

/-- A halt of either manner leaves an axis without a program in progress, or halting already, as it is. -/
theorem haltAxis_of_ended (h : (axisOf a s).state = .idle ∨ (axisOf a s).state = .off ∨ (axisOf a s).state = .fault ∨
    (axisOf a s).state = .halting) (m : Manner) : haltAxis a m s = s := by
  cases m
  · show haltNow a s = s
    unfold haltNow haltNowWith; dsimp only; obtain hs | hs | hs | hs := h <;> rw [hs]
  · show haltLoopEnd a s = s
    unfold haltLoopEnd; obtain hs | hs | hs | hs := h <;> rw [hs]

theorem haltLoopEnd_of_going (h : (axisOf a s).state = .running ∨ (axisOf a s).state = .dwell ∨
    (axisOf a s).state = .guardStop) : haltLoopEnd a s = modAxis a (fun x => { x with stopAtLoopEnd := true }) s := by
  unfold haltLoopEnd; obtain hs | hs | hs := h <;> rw [hs]

theorem indexOf_byteOf_small {n : Nat} (hn : n ≤ 256) (i : Fin n) : indexOf n (byteOf i.val) = some i := by
  have small : (byteOf i.val).toNat = i.val := toNat_byteOf (by omega)
  unfold indexOf; rw [dif_pos (by omega)]; exact congrArg some (Fin.ext small)

theorem manner_ofCode_of_le {b : Byte} (h : 2 ≤ b.toNat) : Manner.ofCode b = none := by
  obtain ⟨k, hk⟩ := Nat.exists_eq_add_of_le' h
  unfold Manner.ofCode; rw [hk]; rfl

theorem handleHalt_of_axis {m : Manner} {b : Byte} (hm : Manner.ofCode b = some m) (a : Fin 8) (s : Gx24) :
    handleHalt (byteOf a.val) b s = haltAxis a m s := by
  unfold handleHalt; rw [indexOf_byteOf_small (by decide), hm]

theorem handleHalt_of_range {axis manner : Byte} (h : 8 ≤ axis.toNat ∨ 2 ≤ manner.toNat) (s : Gx24) :
    handleHalt axis manner s = frameError s := by
  unfold handleHalt; split
  · next hi hm =>
    obtain h | h := h
    · rw [indexOf_of_le h] at hi; nomatch hi
    · rw [manner_ofCode_of_le h] at hm; nomatch hm
  · rfl

end Sys2Proof.Machine

open Sys2Proof Sys2Proof.Machine

/-- Settles O34: the running step is its motion, and on the target the arrival. -/
theorem runningStepMovesTowardTheTarget : Obligations.RunningStepMovesTowardTheTarget := by
  intro p a x running good n
  have referred := axisOf_referred a p
  have step := stateStep_of_running (a := a) (s := modAxis a Axis.referred p) (by rw [referred]; exact running)
  refine ⟨stepSpeed_le .., fun short => ?_, fun whole => ?_⟩
  · have moved := runningStep_short (a := a) (s := modAxis a Axis.referred p) (by rw [referred]; exact short)
    have on : x.referred.runMotion.state ≠ .off := fun off => by cases running.symm.trans off
    rw [stepAxis_of_on good (step.trans (moved.trans (modAxis_modAxis ..))) on]
    refine modAxis_congr ((Axis.stored_of_state (x := x.referred.runMotion) running _).trans ?_)
    rw [Axis.runMotion_eq]
    rfl
  · have there := (Axis.advanced_reaches_iff (x := x) (n := n) (stepSpeed_le ..)).mpr whole
    refine ⟨there, fun hd => ?_⟩
    have dwells := runningStep_dwells (a := a) (s := modAxis a Axis.referred p) (by rw [referred]; exact whole) (by
      rw [referred, currentDwell_modAxis]; exact hd)
    have dwell : currentDwell (axisOf a (modAxis a Axis.referred p)) (modAxis a Axis.referred p) = currentDwell x p := by
      rw [referred, currentDwell_modAxis]; rfl
    rw [dwell] at dwells
    rw [stepAxis_of_on good (step.trans (dwells.trans (modAxis_modAxis ..))) nofun]
    refine modAxis_congr ?_
    rw [← there, Axis.runMotion_eq]
    rfl

/-- Settles O35: the halting step is its motion, and at rest or on the target the end of the program. -/
theorem haltingStepBrakesToRest : Obligations.HaltingStepBrakesToRest := by
  intro p a x n y
  have referred := axisOf_referred a p
  refine ⟨fun moving short => (haltingStep_onward moving short).trans (modAxis_congr rfl), fun h =>
    (haltingStep_ends h).trans (congrArg _ (modAxis_congr rfl)), fun halting good => ?_, stepAxis_of_missed⟩
  have step := stateStep_of_halting (a := a) (s := modAxis a Axis.referred p) (by rw [referred]; exact halting)
  refine ⟨fun moving short => ?_, fun h => ?_⟩
  · have braked := haltingStep_onward (a := a) (s := modAxis a Axis.referred p) (by rw [referred]; exact moving)
      (by rw [referred]; exact short)
    have on : (x.referred.advanced x.referred.haltLength).state ≠ .off := fun off => by cases halting.symm.trans off
    rw [stepAxis_of_on good (step.trans (braked.trans (modAxis_modAxis ..))) on]
    exact modAxis_congr (Axis.stored_of_state (x := x.referred.advanced x.referred.haltLength) halting _)
  · have ends := haltingStep_ends (a := a) (s := modAxis a Axis.referred p) (by rw [referred]; exact h)
    rw [modAxis_modAxis] at ends
    intro u
    have ended : stateStep a (modAxis a Axis.referred p) = u := step.trans (ends.trans (congrArg _ (modAxis_congr rfl)))
    rw [stepAxis_of_good good ended]
    by_cases off : (axisOf a u).state = .off
    · rw [if_pos off, if_pos off]
    · rw [if_neg off, if_neg off]
      exact modAxis_congr (by rw [driveEnable_of_on off])

/-- Settles O36: the dwell that ends completes its segment, and the guard that settles resumes the axis. -/
theorem dwellEndAndGuardSettleGoOn : Obligations.DwellEndAndGuardSettleGoOn := by
  refine ⟨fun p q a quiet => ?_, fun p q a quiet => ?_⟩
  · intro x
    refine ⟨fun elsewhere => quiet.unchanged q (if_neg elsewhere), fun j dwelling hd good hj => ?_⟩
    have goes {u : Gx24} (hu : stepAxis a p = u) (hw : u.work = []) : exec (.dwellEnd a) ⟨p, q⟩ = .next ⟨u, q⟩ :=
      quiet.runs_still_as q ((if_pos ⟨dwelling, hd, good⟩).trans hu) hw
    have referred := axisOf_referred a p
    have completes : stateStep a (modAxis a Axis.referred p) =
        completeSegment a (modAxis a (fun x => { x.referred with dwell := 0 }) p) := by
      rw [stateStep_of_dwell (by rw [referred]; exact dwelling), dwellStep_over (by rw [referred]; exact hd), modAxis_modAxis]
    have stopped : axisOf a (modAxis a (fun x => { x.referred with dwell := 0 }) p) = { x.referred with dwell := 0 } :=
      Kept.axisOf_modAxis_same ..
    refine ⟨fun more => ?_, fun c o last once ho frame hc hdis => ?_⟩
    · intro g
      have next := completeSegment_next (a := a) (s := modAxis a (fun x => { x.referred with dwell := 0 }) p) (j := j) (g := g)
        (by rw [stopped]; exact hj) (by rw [stopped, jobCount_modAxis]; exact more)
        (by rw [stopped, jobSegment_modAxis]; rfl)
      rw [stopped, clampCounted_modAxis, modAxis_modAxis] at next
      have begun := Axis.started_of_moving (x := { x.referred with dwell := 0, segIndex := x.segIndex + 1 })
        (fun stop => by cases dwelling.symm.trans stop) g
      have stepped := stepAxis_of_on good (completes.trans next) (by
        rw [axisOf_clampCounted]; exact fun off => by cases (congrArg Axis.state begun).symm.trans off)
      refine goes (stepped.trans ?_) ((clampCounted_work ..).trans quiet.2)
      rw [clampCounted_estop]
      refine modAxis_congr ?_
      rw [axisOf_clampCounted]
      exact congrArg (Axis.stored p.estop) begun
    · have ends := endProgram_of_frame (a := a) (s := modAxis a (fun x => { x.referred with dwell := 0 }) p) (r := .done) frame
        (by rw [stopped]; exact hj) (by rw [stopped]; exact ho) (by rw [stopped]; exact hc) (by rw [stopped]; exact hdis)
      rw [growAxis_modAxis, modAxis_modAxis, sendUp_modAxis] at ends
      have done := completeSegment_last (a := a) (s := modAxis a (fun x => { x.referred with dwell := 0 }) p) (j := j)
        (by rw [stopped]; exact hj) (by rw [stopped, jobCount_modAxis]; exact last) (by rw [stopped]; exact once)
      have stepped := stepAxis_of_on good (completes.trans (done.trans ends)) nofun
      rw [sendUp_estop, ← sendUp_modAxis] at stepped
      exact goes stepped ((sendUp_work ..).trans quiet.2)
  · intro x due
    have referred := axisOf_referred a p
    have goes {u : Gx24} (hdue : due) (hu : stepAxis a p = u) (hw : u.work = []) :
        exec (.guardSettle a) ⟨p, q⟩ = .next ⟨u, q⟩ := by
      obtain ⟨stopped, closed, settled, good⟩ := hdue
      exact quiet.runs_still_as q ((if_pos ⟨stopped, congrArg Bool.not closed, settled, good⟩).trans hu) hw
    have resumes (hdue : due) : stateStep a (modAxis a Axis.referred p) =
        resumeStep a (modAxis a (fun x => { x.referred with settleCount := x.settleCount + 1 }) p) := by
      obtain ⟨stopped, closed, settled, good⟩ := hdue
      rw [stateStep_of_guardStop (by rw [referred]; exact stopped), guardStep_resumes (by rw [referred]; exact closed)
        (by rw [referred]; exact settled), modAxis_modAxis]
      rfl
    refine ⟨fun early => quiet.unchanged q (if_neg fun ⟨stopped, closed, settled, good⟩ =>
      early ⟨stopped, (Bool.not_eq_true' _).mp closed, settled, good⟩), fun hdue hr hd => ?_, fun hdue hr short => ?_⟩
    · have dwells := dwellStep_onward (a := a) (s := modAxis a (fun x => { x.referred with
        settleCount := x.settleCount + 1, state := .dwell }) p) (by rw [Kept.axisOf_modAxis_same]; exact hd)
      have step := resumes hdue
      rw [resumeStep_of_dwell (by rw [Kept.axisOf_modAxis_same]; exact hr), modAxis_modAxis, dwells, modAxis_modAxis] at step
      exact goes hdue (stepAxis_of_on hdue.2.2.2 step nofun) quiet.2
    · have runs := runningStep_short (a := a) (s := modAxis a (fun x => { x.referred with
        settleCount := x.settleCount + 1, state := .running }) p) (by rw [Kept.axisOf_modAxis_same]; exact short)
      have step := resumes hdue
      rw [resumeStep_of_running (by rw [Kept.axisOf_modAxis_same]; exact hr), modAxis_modAxis, runs, modAxis_modAxis] at step
      refine goes hdue ((stepAxis_of_on hdue.2.2.2 step nofun).trans (modAxis_congr ?_)) quiet.2
      rw [Axis.runMotion_eq]
      rfl

/-- Settles O38: a halt acts by the axis's state, and a program at rest ends. -/
theorem haltActsOnTheAxisState : Obligations.HaltActsOnTheAxisState := by
  intro p q axis manner quiet own t
  refine ⟨fun range => quiet.takes_still_as own q (handleHalt_of_range range t) quiet.2, ?_⟩
  rintro a rfl x
  have takes {m : Manner} {b : Byte} {u : Gx24} (hb : Manner.ofCode b = some m) (hu : haltAxis a m t = u)
      (hw : u.work = []) : exec (.halt (byteOf a.val) b) ⟨p, q⟩ = .next ⟨u, q⟩ :=
    quiet.takes_still_as own q ((handleHalt_of_axis hb a t).trans hu) hw
  refine ⟨fun ended manners => ?_, fun going now => ?_, fun running moving now => ?_, fun stopped moving now => ?_,
    fun c o j resting now hj ho frame hc hd => ?_⟩
  · obtain rfl | rfl := manners
    exacts [takes rfl (haltAxis_of_ended (s := t) ended _) quiet.2, takes rfl (haltAxis_of_ended (s := t) ended _) quiet.2]
  · subst now; exact takes rfl (haltLoopEnd_of_going (s := t) going) quiet.2
  · subst now; exact takes rfl (haltNow_of_running (s := t) running moving) quiet.2
  · subst now; exact takes rfl (haltNow_of_guardStop (s := t) stopped moving) quiet.2
  · subst now
    exact takes rfl ((haltNow_of_resting (s := t) resting).trans (endProgram_of_frame frame hj ho hc hd))
      ((sendUp_work ..).trans quiet.2)

end

section
/-! Claims that frames make (R92, R110, R111, R115, R116), and disables (R108). -/

namespace Sys2Proof.Machine

variable {s t p : Gx24} {a : Fin 8} {x : Axis} {f : Axis → Axis} {j : Job} {m : RunMode} {c : Claimant} {o : Origin} {d : Claim}

/-! ### Refusals (R110, R116) -/

theorem listedInUse_iff :
    listedInUse a s = true ↔ ∃ e, lists e a s = true ∧ ((exhibitOf e s).mode = .pub ∨ (exhibitOf e s).mode = .held) := by
  simp [listedInUse, anyRow_iff]

theorem listedInUse_false_of_closed (h : ∀ e, lists e a s = true → (exhibitOf e s).mode = .dark ∨ (exhibitOf e s).mode = .service) :
    listedInUse a s = false := by
  rw [Bool.eq_false_iff, ne_eq, listedInUse_iff]
  rintro ⟨e, listed, inUse⟩
  obtain closed | closed := h e listed <;> simp [closed] at inUse

theorem refusal_jog_of_listed (h : listedInUse a s = true) : refusal a .maintenance s = some .live := if_pos ⟨rfl, h⟩

/-- The claims that only the axis's state can have refused. -/
def ofFrame (a : Fin 8) (c : Claimant) (s : Gx24) : Prop := c = .headEnd ∨ c = .maintenance ∧ listedInUse a s = false

theorem refusal_of_frame (frame : ofFrame a c s) : refusal a c s =
    if (axisOf a s).state = .off then some .off else if (axisOf a s).state = .fault then some .fault
    else if (axisOf a s).disabling then some .disabling else none := by
  obtain rfl | ⟨rfl, unlisted⟩ := frame
  · rfl
  · unfold refusal; dsimp only; rw [if_neg (by simp [unlisted])]

/-- The axis can be claimed: neither OFF, in FAULT nor disabling. -/
structure Axis.Claimable (x : Axis) : Prop where
  on : x.state ≠ .off
  well : x.state ≠ .fault
  staying : x.disabling = false

theorem Axis.Claimable.of_idle (idle : x.state = .idle) (staying : x.disabling = false) : x.Claimable :=
  ⟨by rw [idle]; decide, by rw [idle]; decide, staying⟩

theorem refusal_of_claimable (frame : ofFrame a c s) (h : (axisOf a s).Claimable) : refusal a c s = none := by
  rw [refusal_of_frame frame, if_neg h.on, if_neg h.well, if_neg (by simp [h.staying])]

theorem claimAxis_refused {why : RefuseReason} (hr : refusal a d.claimant s = some why)
    (frame : d.claimant = .headEnd ∨ d.claimant = .maintenance) :
    claimAxis a d s = sendUp (moveReplyOf a d.claimant d.job .refused why) (growAxis a .claimsRefused s) := by
  unfold claimAxis; rw [hr]; exact claimResult_reply rfl frame ..

/-! ### Grants (R92, R93, R111) -/

theorem segmentNumber_zero (first : Fin 256) : segmentNumber first 0 = first := Fin.ext (Nat.mod_eq_of_lt first.isLt)

theorem replaceClaim_of_new (h : ∀ d ∈ (axisOf a s).claims, d.claimant ≠ c) : replaceClaim a c s = s := by
  have none_found : (axisOf a s).claims.find? (fun d => decide (d.claimant = c)) = none :=
    List.find?_eq_none.mpr fun d hd => by simpa using h d hd
  unfold replaceClaim; rw [none_found]

/-- The axis with a claim put at the end of its list, its time set (R110, R113). -/
def Axis.joinedBy (d : Claim) (x : Axis) : Axis :=
  { x with claims := x.claims ++ [{ d with timeLeft := x.params.claimTimeout }] }

/-- A claim that is not refused joins the list, to be granted at once or to preempt (R110). -/
theorem claimAxis_joins (hr : refusal a d.claimant s = none) (new : ∀ b ∈ (axisOf a s).claims, b.claimant ≠ d.claimant) :
    claimAxis a d s = if (axisOf a s).owner.isSome then
        preempt a { d with timeLeft := (axisOf a s).params.claimTimeout } (modAxis a (Axis.joinedBy d) s)
      else grantAxis a (modAxis a (Axis.joinedBy d) s) := by
  have joined : modAxis a (fun x => { x with claims := x.claims ++ [{ d with timeLeft := (axisOf a s).params.claimTimeout }] }) s =
      modAxis a (Axis.joinedBy d) s := modAxis_congr rfl
  have owner : (axisOf a (modAxis a (Axis.joinedBy d) s)).owner = (axisOf a s).owner := by
    rw [Kept.axisOf_modAxis_same]; rfl
  unfold claimAxis; rw [hr]; dsimp only
  rw [replaceClaim_of_new new, joined, owner]
  cases (axisOf a s).owner <;> rfl

theorem claimAxis_free (hr : refusal a d.claimant s = none) (unclaimed : (axisOf a s).claims = [])
    (unowned : (axisOf a s).owner = none) : claimAxis a d s = grantAxis a (modAxis a (Axis.joinedBy d) s) := by
  rw [claimAxis_joins hr (by simp [unclaimed]), unowned]; rfl

/-- A claim of no higher origin than the owner's waits (R110, R112). -/
theorem claimAxis_waits {w : Owner} (hr : refusal a d.claimant s = none)
    (new : ∀ b ∈ (axisOf a s).claims, b.claimant ≠ d.claimant) (owned : (axisOf a s).owner = some w)
    (behind : d.origin.rank ≤ w.origin.rank) : claimAxis a d s = modAxis a (Axis.joinedBy d) s := by
  have owner : (axisOf a (modAxis a (Axis.joinedBy d) s)).owner = some w := by
    rw [Kept.axisOf_modAxis_same]; exact owned
  rw [claimAxis_joins hr new, if_pos (by rw [owned]; rfl)]
  unfold preempt; rw [owner]
  exact if_neg (Nat.not_lt.mpr behind)

/-- The state in which a program begins: in GUARD-STOP when the guard is open (R92). -/
theorem Axis.begun_eq (x : Axis) (j : Job) (m : RunMode) (g : Segment) :
    { x with
      job := some j, mode := m, segIndex := 0, stopAtLoopEnd := false, resume := .running, clamped := false
      velocity := 0, state := if x.guardOpen then .guardStop else .running }.started g = x.begun j m g := by
  unfold Axis.started Axis.begun sixteenths
  cases x.guardOpen <;> rfl

/-- A program begins on a changed axis (R92, R93). -/
theorem startProgram_modAxis {g : Segment} (hg : jobSegment j 0 s = g) :
    startProgram a j m (modAxis a f s) = modAxis a (fun x => (f x).begun j m g)
      ((growAxis a .programsStarted s).clampCounted a (f (axisOf a s)).params g) := by
  unfold startProgram; dsimp only
  rw [modAxis_modAxis, growAxis_modAxis, startSegment_modAxis (j := j) (g := g) rfl (by cases j <;> exact hg)]
  exact modAxis_congr (Axis.begun_eq ..)

/-- The only claim of an axis that a frame made is granted (R111). -/
theorem grantAxis_only {g : Segment} (frame : d.claimant = .headEnd ∨ d.claimant = .maintenance)
    (hc : (f (axisOf a s)).claims = [d]) (hg : jobSegment d.job 0 s = g) :
    grantAxis a (modAxis a f s) = sendUp (moveReplyOf a d.claimant d.job .granted .none) (modAxis a (fun x =>
      { f x with
        claims := (f x).claims.filter (fun b => decide (b.claimant ≠ d.claimant))
        owner := some ⟨d.claimant, d.origin⟩, lastOwner := some d.claimant }.begun d.job d.mode g)
      ((growAxis a .programsStarted (growAxis a .grants s)).clampCounted a (f (axisOf a s)).params g)) := by
  unfold grantAxis
  rw [winner_of_cons (b := d) (l := []) (by rw [Kept.axisOf_modAxis_same]; exact hc)]; dsimp only [List.foldl_nil]
  rw [modAxis_modAxis, growAxis_modAxis, startProgram_modAxis (g := g) (by cases h : d.job <;> rw [← hg, h] <;> rfl)]
  exact claimResult_reply rfl frame ..

/-- A claim of a frame on a free axis without claims: granted, its program begun (R92, R111). -/
theorem claimAxis_granted {g : Segment} (frame : ofFrame a d.claimant s) (ready : (axisOf a s).Claimable)
    (unclaimed : (axisOf a s).claims = []) (unowned : (axisOf a s).owner = none) (hg : jobSegment d.job 0 s = g) :
    claimAxis a d s = sendUp (moveReplyOf a d.claimant d.job .granted .none)
      (Gx24.claimGranted a d.claimant d.origin d.job d.mode g s) := by
  rw [claimAxis_free (refusal_of_claimable frame ready) unclaimed unowned,
    grantAxis_only (d := { d with timeLeft := (axisOf a s).params.claimTimeout }) (frame.imp_right And.left)
      (by unfold Axis.joinedBy; rw [unclaimed]; rfl) hg]
  have left : ((axisOf a s).claims ++ [{ d with timeLeft := (axisOf a s).params.claimTimeout }]).filter
      (fun b : Claim => decide (b.claimant ≠ d.claimant)) = [] := by simp [unclaimed]
  refine congrArg _ (modAxis_congr ?_)
  rw [axisOf_clampCounted]
  exact congrArg (fun l => { (axisOf a s).begun d.job d.mode g with
    claims := l, owner := some ⟨d.claimant, d.origin⟩, lastOwner := some d.claimant }) left

theorem claimGranted_work (a : Fin 8) (c : Claimant) (o : Origin) (j : Job) (m : RunMode) (g : Segment) (s : Gx24) :
    (Gx24.claimGranted a c o j m g s).work = s.work := by unfold Gx24.claimGranted; dsimp only; split <;> rfl

/-! ### MOVE and JOG frames (R115, R116) -/

theorem runMode_ofCode_code (m : RunMode) : RunMode.ofCode m.code = some m := by cases m <;> rfl

theorem runMode_ofCode_of_le {b : Byte} (h : 2 ≤ b.toNat) : RunMode.ofCode b = none := by
  obtain ⟨k, hk⟩ := Nat.exists_eq_add_of_le' h
  unfold RunMode.ofCode; rw [hk]; rfl

theorem handleMove_of_range {axis program mode : Byte} (h : 8 ≤ axis.toNat ∨ 64 ≤ program.toNat ∨ 2 ≤ mode.toNat)
    (s : Gx24) : handleMove axis program mode s = frameError s := by
  unfold handleMove; split
  · next hi hp hm =>
    obtain h | h | h := h
    · rw [indexOf_of_le h] at hi; nomatch hi
    · rw [indexOf_of_le h] at hp; nomatch hp
    · rw [runMode_ofCode_of_le h] at hm; nomatch hm
  · rfl

theorem handleMove_of_axis (a : Fin 8) (n : Fin 64) (m : RunMode) (s : Gx24) :
    handleMove (byteOf a.val) (byteOf n.val) m.code s = claimAxis a ⟨.headEnd, .showCue, .program n, m, 0⟩ s := by
  unfold handleMove
  rw [indexOf_byteOf_small (by decide), indexOf_byteOf_small (by decide), runMode_ofCode_code]

theorem handleJog_of_axis (a : Fin 8) (target cruise : Word) (s : Gx24) :
    handleJog (byteOf a.val) target cruise s =
      claimAxis a ⟨.maintenance, .attendant, .jog (jogSegment target cruise), .once, 0⟩ s := by
  unfold handleJog; rw [indexOf_byteOf_small (by decide)]

theorem handleJog_of_range {axis : Byte} (h : 8 ≤ axis.toNat) (target cruise : Word) (s : Gx24) :
    handleJog axis target cruise s = frameError s := by unfold handleJog; rw [indexOf_of_le h]

/-! ### Disables (R108) -/

theorem refuseAll_of_unclaimed {why : RefuseReason} (h : (axisOf a s).claims = []) : refuseAll a why s = s := by
  unfold refuseAll; dsimp only; rw [h]
  exact modAxis_eq_self (by rw [← h])

theorem forgetStep_of_idleBranch (h : s.bs.awaiting = none) : forgetStep a s = s := by unfold forgetStep; rw [h]

theorem endAxisFault_of_none (h : (axisOf a s).faultKey = none) : endAxisFault a s = s := by
  unfold endAxisFault; dsimp only; rw [h]
  exact modAxis_eq_self (by rw [← h])

/-- An axis with no condition held, and no reply awaited, goes OFF with drive-enable off (R103, R108). -/
theorem goOff_of_clear (guard : (axisOf a s).guardHeldKey = none) (fault : (axisOf a s).faultKey = none)
    (awaiting : s.bs.awaiting = none) :
    goOff a s = modAxis a (fun x => { x.driveOff with
      state := .off, velocity := 0, disabling := false, owner := none, guardOpen := false, guardOpenTime := 0 }) s := by
  unfold goOff; dsimp only
  rw [forgetStep_of_idleBranch (by exact awaiting), endGuardHeld_of_none (by rw [Kept.axisOf_modAxis_same]; exact guard),
    modAxis_modAxis, endAxisFault_of_none (by rw [Kept.axisOf_modAxis_same]; exact fault)]

theorem disableAxis_of_off (h : (axisOf a s).state = .off) : disableAxis a s = (.ok, s) := if_pos h

/-- An unclaimed axis that is on is disabling, and then goes OFF or is halted by its state (R108). -/
theorem disableAxis_of_unclaimed (on : (axisOf a s).state ≠ .off) (unclaimed : (axisOf a s).claims = []) :
    disableAxis a s = (.ok, if (axisOf a s).state = .idle ∨ (axisOf a s).state = .fault
      then goOff a (modAxis a (fun x => { x with disabling := true }) s)
      else haltNow a (modAxis a (fun x => { x with disabling := true }) s)) := by
  unfold disableAxis; dsimp only
  rw [if_neg on, refuseAll_of_unclaimed (by rw [Kept.axisOf_modAxis_same]; exact unclaimed), Kept.axisOf_modAxis_same]
  split <;> rfl

theorem disableAxis_of_idle (idle : (axisOf a s).state = .idle) (unclaimed : (axisOf a s).claims = [])
    (guard : (axisOf a s).guardHeldKey = none) (fault : (axisOf a s).faultKey = none) (awaiting : s.bs.awaiting = none) :
    disableAxis a s = (.ok, modAxis a (fun x => { x.driveOff with
      state := .off, velocity := 0, disabling := false, owner := none, guardOpen := false, guardOpenTime := 0 }) s) := by
  rw [disableAxis_of_unclaimed (fun off => by cases idle.symm.trans off) unclaimed, if_pos (.inl idle),
    goOff_of_clear (by rw [Kept.axisOf_modAxis_same]; exact guard) (by rw [Kept.axisOf_modAxis_same]; exact fault)
      (by exact awaiting),
    modAxis_modAxis]
  rfl

theorem disableAxis_of_running (running : (axisOf a s).state = .running) (moving : (axisOf a s).velocity ≠ 0)
    (unclaimed : (axisOf a s).claims = []) :
    disableAxis a s = (.ok, modAxis a (fun x => { x with state := .halting, disabling := true }) s) := by
  have going : ¬((axisOf a s).state = .idle ∨ (axisOf a s).state = .fault) := by
    rintro (h | h) <;> cases running.symm.trans h
  rw [disableAxis_of_unclaimed (fun off => by cases running.symm.trans off) unclaimed, if_neg going,
    haltNow_of_running (by rw [Kept.axisOf_modAxis_same]; exact running) (by rw [Kept.axisOf_modAxis_same]; exact moving),
    modAxis_modAxis]

theorem manageAxis_of_range {tag : Byte} {body : List Byte} (h : ∀ x y, body = [x, y] → 8 ≤ x.toNat) (s : Gx24) :
    manageAxis tag body s = replyPlain tag opAxisEnable .range [] s := by
  unfold manageAxis; dsimp only; split
  · rw [indexOf_of_le (h _ _ rfl)]
  · rfl

theorem manageAxis_disables {flag : Byte} (tag : Byte) (h : flagOf flag = false) (a : Fin 8) (s : Gx24) :
    manageAxis tag [byteOf a.val, flag] s = replyPlain tag opAxisEnable (disableAxis a s).1 [] (disableAxis a s).2 := by
  unfold manageAxis; dsimp only
  rw [indexOf_byteOf_small (by decide), h]; rfl

end Sys2Proof.Machine

open Sys2Proof Sys2Proof.Machine

/-- Settles O37: a claim by frame is refused, granted at once, or waits behind an owner of no lower origin. -/
theorem moveAndJogClaimTheAxis : Obligations.MoveAndJogClaimTheAxis := by
  refine ⟨fun p q axis program mode quiet own => ?_, fun p q axis target cruise quiet own => ?_⟩
  · intro t
    refine ⟨fun range => quiet.takes_still_as own q (handleMove_of_range range t) quiet.2, ?_⟩
    rintro a n m rfl rfl rfl x
    have takes {u : Gx24} (hu : claimAxis a ⟨.headEnd, .showCue, .program n, m, 0⟩ t = u) (hw : u.work = []) :
        exec (.moveFrame (byteOf a.val) (byteOf n.val) m.code) ⟨p, q⟩ = .next ⟨u, q⟩ :=
      quiet.takes_still_as own q ((handleMove_of_axis a n m t).trans hu) hw
    refine ⟨fun why unfit => ?_, fun idle staying unowned unclaimed => ?_, fun o on well staying owned high new => ?_⟩
    · refine takes (claimAxis_refused ?_ (.inl rfl)) ((sendUp_work ..).trans quiet.2)
      rw [refusal_of_frame (.inl rfl)]
      obtain ⟨off, rfl⟩ | ⟨fault, rfl⟩ | ⟨on, well, leaving, rfl⟩ := unfit
      · exact if_pos off
      · exact (if_neg fun off => by cases fault.symm.trans off).trans (if_pos fault)
      · exact (if_neg on).trans ((if_neg well).trans (if_pos leaving))
    · have ready : (axisOf a t).Claimable := .of_idle idle staying
      exact takes (claimAxis_granted (.inl rfl) ready unclaimed unowned
        (congrArg (tget p.mu.segments) (segmentNumber_zero (tget p.mu.programs n).first)))
        ((sendUp_work ..).trans ((claimGranted_work ..).trans quiet.2))
    · exact takes (claimAxis_waits (refusal_of_claimable (.inl rfl) ⟨on, well, staying⟩) new owned (by
        obtain h | h := high <;> simp [h, Origin.rank])) quiet.2
  · intro t
    refine ⟨fun range => quiet.takes_still_as own q (handleJog_of_range range target cruise t) quiet.2, ?_⟩
    rintro a rfl x g
    have takes {u : Gx24} (hu : claimAxis a ⟨.maintenance, .attendant, .jog g, .once, 0⟩ t = u) (hw : u.work = []) :
        exec (.jog (byteOf a.val) target cruise) ⟨p, q⟩ = .next ⟨u, q⟩ :=
      quiet.takes_still_as own q ((handleJog_of_axis a target cruise t).trans hu) hw
    refine ⟨fun listed => ?_, fun closed idle staying unowned unclaimed => ?_⟩
    · exact takes (claimAxis_refused (refusal_jog_of_listed (listedInUse_iff.mpr listed)) (.inr rfl))
        ((sendUp_work ..).trans quiet.2)
    · exact takes (claimAxis_granted (.inr ⟨rfl, listedInUse_false_of_closed closed⟩) (.of_idle idle staying) unclaimed
        unowned rfl) ((sendUp_work ..).trans ((claimGranted_work ..).trans quiet.2))

/-- Settles O41: an axis that is on is disabling, and goes OFF where it is at rest or halts first. -/
theorem disableTakesTheAxisOff : Obligations.DisableTakesTheAxisOff := by
  intro p q tag quiet own t reply
  have replied {u : Gx24} (code : ReplyCode) (hw : u.work = []) : (reply code u).work = [] := (sendUp_work ..).trans hw
  refine ⟨fun body range => ?_, fun a flag clear => ?_⟩
  · have answered : manageAxis tag body t = reply .range t := manageAxis_of_range range t
    exact ⟨quiet.takes_still_as own q answered (replied _ quiet.2), quiet.takes_still_as own q answered (replied _ quiet.2)⟩
  · intro x
    have takes {u : Gx24} (hu : disableAxis a t = (.ok, u)) (hw : u.work = []) :
        exec (.axisDisable tag [byteOf a.val, flag]) ⟨p, q⟩ = .next ⟨reply .ok u, q⟩ :=
      quiet.takes_still_as own q ((manageAxis_disables tag clear a t).trans (by rw [hu]; rfl)) (replied _ hw)
    exact ⟨fun off => takes (disableAxis_of_off off) quiet.2,
      fun idle unclaimed guard fault awaiting =>
        takes (disableAxis_of_idle (s := t) idle unclaimed guard fault awaiting) quiet.2,
      fun running moving unclaimed => takes (disableAxis_of_running (s := t) running moving unclaimed) quiet.2⟩

end

section
/-! The tables of motion, alerts and settings (R88, R89, R90, R130, R138, R186): a row's bytes read back as the row, and
what a write of each does. -/

namespace Sys2Proof.Machine

variable {s t p : Gx24} {a : Fin 8} {n : Nat}

/-! ### Fields (11.2) -/

theorem byteOf_ne_absent (h : n < 255) : byteOf n ≠ 0xFF#8 := fun absent => by
  have value := congrArg BitVec.toNat absent
  rw [toNat_byteOf (by omega)] at value
  exact absurd value (Nat.ne_of_lt h)

theorem optIndexOf_optByte (hn : n ≤ 255) (o : Option (Fin n)) : optIndexOf n (optByte (o.map (·.val))) = some o := by
  cases o with
  | none => rfl
  | some i =>
    show optIndexOf n (byteOf i.val) = _
    unfold optIndexOf; rw [if_neg (byteOf_ne_absent (by omega)), indexOf_byteOf_small (by omega)]; rfl

theorem clampTo_of_within {lo hi : Nat} (h : within lo hi n = true) : clampTo lo hi n = n := by
  simp only [within, Bool.and_eq_true, decide_eq_true_eq] at h
  unfold clampTo; omega

theorem within_le {lo hi : Nat} (h : within lo hi n = true) : n ≤ hi := by
  simp only [within, Bool.and_eq_true, decide_eq_true_eq] at h; exact h.2

/-- A number within its bounds is read back from its two bytes. -/
theorem clampTo_wordOf {lo hi : Nat} (hh : hi ≤ 65535) (h : within lo hi n = true) :
    clampTo lo hi (wordOf ((BitVec.ofNat 16 n).extractLsb' 8 8) ((BitVec.ofNat 16 n).extractLsb' 0 8)).toNat = n := by
  rw [wordOf_natBytes (by have := within_le h; omega), clampTo_of_within h]

/-- A number within its bounds is read back from its byte. -/
theorem clampTo_byte {lo hi : Nat} (hh : hi ≤ 255) (h : within lo hi n = true) : clampTo lo hi (byteOf n).toNat = n := by
  rw [toNat_byteOf (by have := within_le h; omega), clampTo_of_within h]

/-- A signed number is read back from its two bytes (R190). -/
theorem wordOf_intBytes {i : Int} (h : isInt16 i = true) :
    (wordOf ((BitVec.ofInt 16 i).extractLsb' 8 8) ((BitVec.ofInt 16 i).extractLsb' 0 8)).toInt = i := by
  simp only [isInt16, Bool.and_eq_true, decide_eq_true_eq] at h
  rw [wordOf_extract, BitVec.toInt_ofInt, Int.bmod_eq_of_le] <;> omega

/-! ### Rows -/

theorem guardInputOf_bytes (g : GuardInput) :
    guardInputOf (byteOf g.station.val) (byteOf g.input.val) (flagByte g.openLevel) = some (some g) := by
  obtain ⟨st, i, b⟩ := g
  unfold guardInputOf
  rw [if_neg (byteOf_ne_absent (by omega)), indexOf_byteOf_small (by decide), indexOf_byteOf_small (by decide)]
  cases b <;> rfl

theorem arbitration_ofCode_code (r : Arbitration) : Arbitration.ofCode r.code = some r := by cases r <;> rfl

theorem axisRowOf_bytes {r : AxisParams} (h : r.loadable = true) : axisRowOf r.bytes = some r := by
  obtain ⟨drive, accel, softMin, softMax, follow, guard, settle, timeout, claim, arbitration⟩ := r
  simp only [AxisParams.loadable, Bool.and_eq_true] at h
  obtain ⟨⟨⟨⟨⟨⟨ha, hmin⟩, hmax⟩, hf⟩, hs⟩, ht⟩, hc⟩ := h
  have read (gs gi gl : Byte) (hg : guardInputOf gs gi gl = some guard) :
      axisParamsOf [optByte (drive.map (·.val)), (BitVec.ofNat 16 accel).extractLsb' 8 8, (BitVec.ofNat 16 accel).extractLsb' 0 8,
        (BitVec.ofInt 16 softMin).extractLsb' 8 8, (BitVec.ofInt 16 softMin).extractLsb' 0 8,
        (BitVec.ofInt 16 softMax).extractLsb' 8 8, (BitVec.ofInt 16 softMax).extractLsb' 0 8,
        (BitVec.ofNat 16 follow).extractLsb' 8 8, (BitVec.ofNat 16 follow).extractLsb' 0 8, gs, gi, gl, byteOf settle,
        byteOf timeout, byteOf claim, arbitration.code] =
      some ⟨drive, accel, softMin, softMax, follow, guard, settle, timeout, claim, arbitration⟩ := by
    unfold axisParamsOf; dsimp only
    rw [optIndexOf_optByte (by decide), hg, arbitration_ofCode_code]; dsimp only
    rw [clampTo_wordOf (by decide) ha, wordOf_intBytes hmin, wordOf_intBytes hmax, clampTo_wordOf (by decide) hf,
      clampTo_byte (by decide) hs, toNat_byteOf (within_le ht), clampTo_byte (by decide) hc]
  cases guard with
  | none => exact (axisRowOf_whole rfl).trans (read _ _ _ rfl)
  | some g => exact (axisRowOf_whole rfl).trans (read _ _ _ (guardInputOf_bytes g))

theorem programOf_bytes {r : Program} (h : within 1 16 r.count = true) : programOf r.bytes = some r := by
  obtain ⟨first, count⟩ := r
  have counted : (byteOf count).toNat = count := toNat_byteOf ((within_le h).trans (by decide))
  simp only [within, Bool.and_eq_true, decide_eq_true_eq] at h
  have begins : (byteOf first.val).toFin = first := Fin.ext (toNat_byteOf (by omega))
  unfold programOf Program.bytes; dsimp only
  rw [counted, if_pos h, begins]

theorem segmentOf_bytes {r : Segment} (h : r.loadable = true) : segmentOf r.bytes = some r := by
  obtain ⟨target, cruise, dwell⟩ := r
  simp only [Segment.loadable, Bool.and_eq_true] at h
  obtain ⟨⟨ht, hc⟩, hd⟩ := h
  show some _ = _
  rw [wordOf_intBytes ht, clampTo_wordOf (by decide) hc, toNat_byteOf (within_le hd)]

theorem zoneOverride_ofCode_code (z : ZoneOverride) : ZoneOverride.ofCode z.code = some z := by
  cases z with
  | zone z =>
    have single : byteOf z.val ≠ 4#8 := fun all => by
      have value := congrArg BitVec.toNat all
      rw [toNat_byteOf (by omega)] at value
      exact absurd value (Nat.ne_of_lt z.isLt)
    show ZoneOverride.ofCode (byteOf z.val) = _
    unfold ZoneOverride.ofCode
    rw [if_neg (byteOf_ne_absent (by omega)), if_neg single, indexOf_byteOf_small (by decide)]; rfl
  | all => rfl
  | none => rfl

theorem alertClassOf_bytes {cls : Fin 16} {r : AlertClass} (h : r.loadable cls = true) : alertClassOf cls r.bytes = some r := by
  obtain ⟨severity, hold, ack, interval, tier, zone⟩ := r
  simp only [AlertClass.loadable, Bool.and_eq_true] at h
  obtain ⟨⟨⟨⟨hs, hi⟩, ht⟩, hh⟩, ha⟩ := h
  have severity_read : (byteOf severity).toNat = severity := toNat_byteOf ((within_le hs).trans (by decide))
  have tier_read : (byteOf tier).toNat = tier := toNat_byteOf ((within_le ht).trans (by decide))
  simp only [within, Bool.and_eq_true, decide_eq_true_eq] at hs ht
  have held : (hold || forcedClass cls) = hold := by revert hh; cases hold <;> cases forcedClass cls <;> decide
  have acked : (ack || momentary cls || forcedClass cls) = ack := by
    revert ha; cases ack <;> cases momentary cls <;> cases forcedClass cls <;> decide
  show alertClassOf cls [byteOf severity, flagByte hold, flagByte ack, (BitVec.ofNat 16 interval).extractLsb' 8 8,
    (BitVec.ofNat 16 interval).extractLsb' 0 8, byteOf tier, zone.code] = _
  unfold alertClassOf; dsimp only
  rw [zoneOverride_ofCode_code, severity_read, tier_read]; dsimp only
  rw [if_pos ⟨hs.1, hs.2, ht.1, ht.2⟩, flagOf_flagByte, flagOf_flagByte, held, acked, clampTo_wordOf (by decide) hi]

/-- The zones of a mask are read back from its bits (R138). -/
theorem bitTable_bitsOf_four (r : ZoneSet) :
    (byteOf (bitsOf r)).toNat < 16 ∧ bitTable 4 (byteOf (bitsOf r)).toNat = r := by
  match r with
  | ⟨⟨[b0, b1, b2, b3]⟩, rfl⟩ => cases b0 <;> cases b1 <;> cases b2 <;> cases b3 <;> decide

theorem settingsOf_bytes (period : Fin 4) (h : n ≤ 65535) : settingsOf (byteOf period.val :: natBytes n) = some (period, n) := by
  unfold settingsOf natBytes wordBytes; dsimp only
  rw [if_pos (.inl rfl), indexOf_byteOf_small (by decide), wordOf_natBytes h]; rfl

/-! ### Writes (R88, R89, R90, R130, R138, R186) -/

/-- Another axis names the drive (R88). -/
theorem driveTaken_iff {d : Option (Fin 24)} :
    driveTaken a d s = true ↔ ∃ b st, b ≠ a ∧ d = some st ∧ (axisOf b s).params.drive = some st := by
  unfold driveTaken
  rw [Bool.and_eq_true, anyRow_iff]
  simp only [Bool.and_eq_true, decide_eq_true_eq]
  refine ⟨fun ⟨named, b, other, same⟩ => ?_, fun ⟨b, st, other, named, same⟩ => ⟨by rw [named]; rfl, b, other, by rw [same, named]⟩⟩
  obtain ⟨st, rfl⟩ := Option.isSome_iff_exists.mp named
  exact ⟨b, st, other, rfl, same⟩

/-- A write to one of the axis tables whose row and contents are read. -/
theorem writeAxisParams_of_row {r : AxisParams} (h : r.loadable = true) (a : Fin 8) (s : Gx24) :
    writeAxisParams (BitVec.ofNat 16 a.val) r.bytes s =
      if (axisOf a s).state ≠ .off then (.live, s)
      else if r.softMax < r.softMin || driveTaken a r.drive s then (.invalid, s)
      else (.ok, modAxis a (fun x => { x with params := r }) s) := by
  unfold writeAxisParams; rw [indexOfWord_ofNat (by decide), axisRowOf_bytes h]

theorem writeProgram_of_row {r : Program} (h : within 1 16 r.count = true) (i : Fin 64) (s : Gx24) :
    writeProgram (BitVec.ofNat 16 i.val) r.bytes s = if programActive i s then (.live, s)
      else (.ok, { s with mu := { s.mu with programs := tput s.mu.programs i r } }) := by
  unfold writeProgram; rw [indexOfWord_ofNat (by decide), programOf_bytes h]

theorem writeSegment_of_row {r : Segment} (h : r.loadable = true) (i : Fin 256) (s : Gx24) :
    writeSegment (BitVec.ofNat 16 i.val) r.bytes s = if segmentActive i s then (.live, s)
      else (.ok, { s with mu := { s.mu with segments := tput s.mu.segments i r } }) := by
  unfold writeSegment; rw [indexOfWord_ofNat (by decide), segmentOf_bytes h]

theorem writeAlertClass_of_row {i : Fin 16} {r : AlertClass} (h : r.loadable i = true) (s : Gx24) :
    writeAlertClass (BitVec.ofNat 16 i.val) r.bytes s =
      (.ok, { s with au := { s.au with classes := tput s.au.classes i r } }) := by
  unfold writeAlertClass; rw [indexOfWord_ofNat (by decide)]; dsimp only; rw [alertClassOf_bytes h]

theorem writeNeighbours_of_row (z : Fin 4) (r : ZoneSet) (s : Gx24) :
    writeNeighbours (BitVec.ofNat 16 z.val) [byteOf (bitsOf r)] s =
      (.ok, render { s with au := { s.au with neighbours := tput s.au.neighbours z r } }) := by
  obtain ⟨small, read⟩ := bitTable_bitsOf_four r
  unfold writeNeighbours; rw [indexOfWord_ofNat (by decide)]; dsimp only
  rw [if_neg (by omega), read]

/-- A settings write reloads the quiet timer when the reload changes (R157, R186). -/
theorem writeSettings_of_row (period : Fin 4) (h : n ≤ 65535) (s : Gx24) :
    writeSettings 0#16 (byteOf period.val :: natBytes n) s = (.ok, { s with
      tp := { s.tp with period := period, quietReload := n }
      ac := if n = s.tp.quietReload then s.ac else { s.ac with quiet := n } }) := by
  unfold writeSettings; rw [settingsOf_bytes period h]; dsimp only
  rw [if_neg (by simp)]
  by_cases same : n = s.tp.quietReload <;> simp [same, reloadQuiet]

/-- A row's write is answered with the owner's code and the row as it then stands (R185). -/
theorem Gx24.Quiet.writes {write : Gx24 → ReplyCode × Gx24} {code : ReplyCode} (h : p.Quiet) (own : p.Addressed)
    (q : List Instr) (tag : Byte) (id : Nat) (row : Word) (hw : write (growTrunk .framesTaken p) = (code, t))
    (work : t.work = []) : State.act (takeFrame (fun s => replyWrite tag id row (write s))) ⟨p, q⟩ =
      .next ⟨replyTable tag 2#8 code id row t, q⟩ :=
  h.takes_still_as own q (by rw [hw]; rfl) ((sendUp_work ..).trans work)

end Sys2Proof.Machine

open Sys2Proof Sys2Proof.Machine

/-- Settles O53: each row is read back from its bytes, and each write is its checks and then the row replaced. -/
theorem motionAlertAndSettingsTablesAreWritten : Obligations.MotionAlertAndSettingsTablesAreWritten := by
  intro p q tag quiet own t answer
  refine ⟨fun a r h => ?_, fun i r h => ?_, fun i r h => ?_, fun i r h => ?_, fun z r => ?_, fun period n h => ?_⟩
  · intro done senseless
    have writes {code : ReplyCode} {u : Gx24} (hu : writeAxisParams (BitVec.ofNat 16 a.val) r.bytes t = (code, u))
        (hw : u.work = []) : done = .next ⟨answer 8 a.val code u, q⟩ := quiet.writes own q tag 8 _ hu hw
    have row := writeAxisParams_of_row h a t
    have refused : (decide (r.softMax < r.softMin) || driveTaken a r.drive t) = true ↔ senseless := by
      rw [Bool.or_eq_true, decide_eq_true_eq, driveTaken_iff]; rfl
    refine ⟨fun on => writes (row.trans (if_pos on)) quiet.2, fun off h => ?_, fun off h => ?_⟩
    · exact writes (row.trans ((if_neg (not_not.mpr off)).trans (if_pos (refused.mpr h)))) quiet.2
    · exact writes (row.trans ((if_neg (not_not.mpr off)).trans (if_neg fun r => h (refused.mp r)))) quiet.2
  · intro done
    have row := writeProgram_of_row h i t
    exact ⟨fun active => quiet.writes own q tag 9 _ (row.trans (if_pos active)) quiet.2, fun still =>
      quiet.writes own q tag 9 _ (row.trans (if_neg (Bool.eq_false_iff.mp still))) quiet.2⟩
  · intro done
    have row := writeSegment_of_row h i t
    exact ⟨fun active => quiet.writes own q tag 10 _ (row.trans (if_pos active)) quiet.2, fun still =>
      quiet.writes own q tag 10 _ (row.trans (if_neg (Bool.eq_false_iff.mp still))) quiet.2⟩
  · exact quiet.writes own q tag 11 _ (writeAlertClass_of_row h t) quiet.2
  · exact quiet.writes own q tag 12 _ (writeNeighbours_of_row z r t) ((render_work _).trans quiet.2)
  · exact quiet.writes own q tag 15 _ (writeSettings_of_row period h t) quiet.2

end

section
/-! MOTION_PWR as the function of the pins and the records that R126 and R187 make it: every change of the records sets
it, and what changes neither pins nor records leaves it alone. -/

namespace Sys2Proof.Machine

variable {s t : Gx24}

/-! ### Changes of the records that are announced (R131) -/

/-- The part is as it was, or a change of the records has been announced. -/
def Announced (s t : Gx24) : Prop := t = s ∨ ∃ ns u, t = alertsChanged ns u

theorem Announced.of (ns : List UpFrame) (u : Gx24) : Announced s (alertsChanged ns u) := .inr ⟨ns, u, rfl⟩

theorem repeatRaise_announced (i : Fin 64) (r : AlertRecord) (s : Gx24) : Announced s (repeatRaise i r s) := by
  unfold repeatRaise; dsimp only
  generalize AlertRecord.mk _ _ _ _ _ _ _ _ _ _ _ _ _ _ = again
  split
  exacts [.inl rfl, .of _ _]

/-- The overflow record stands after its raise, so its change is announced (R146). -/
theorem raiseOverflow_announced (u : Gx24) : Announced s (raiseOverflow u) := by
  unfold raiseOverflow; dsimp only
  cases recordAt overflowSlot u <;> simp only [recordAt_putRecord, recordAt_takeSlot, if_true]
  exacts [.of _ _, .of _ _]

theorem raise_announced (key : AlertKey) (s : Gx24) : Announced s (raise key s) := by
  unfold raise; dsimp only; repeat' split
  exacts [repeatRaise_announced .., .inl rfl, .of _ _, raiseOverflow_announced _]

theorem endCondition_announced (key : AlertKey) (s : Gx24) : Announced s (endCondition key s) := by
  unfold endCondition removeRecord; dsimp only; repeat' split
  exacts [.of _ _, .of _ _, .of _ _, .inl rfl, .inl rfl, .inl rfl]

theorem acknowledge_announced (slots : List (Fin 64)) (s : Gx24) : Announced s (acknowledge slots s).2 := .of _ _

/-! ### The law (R126, R187) -/

theorem estopRecordStands_congr (h : t.au.slots = s.au.slots) : estopRecordStands t = estopRecordStands s := by
  unfold estopRecordStands recordAt; rw [h]

/-- A record replaced by one of the same key is of ESTOP class as before. -/
theorem estopRecordStands_putRecord {i : Fin 64} {r r' : AlertRecord} (hr : recordAt i s = some r) (hk : r'.key = r.key) :
    estopRecordStands (putRecord i (some r') s) = estopRecordStands s := by
  unfold estopRecordStands
  refine congrArg anyRow (funext fun j => ?_)
  rw [recordAt_putRecord]
  by_cases hj : i = j
  · rw [if_pos hj, ← hj, hr]; dsimp only; rw [hk]
  · rw [if_neg hj]

namespace MotionPowerLaw

/-- The output, the pins and the records are as they were. -/
theorem congr (h : MotionPowerLaw s) (hp : t.motionPower = s.motionPower) (he : t.estop = s.estop)
    (hl : t.resetLow = s.resetLow) (hs : t.au.slots = s.au.slots) : MotionPowerLaw t :=
  hp.trans (h.trans (powerOn_congr he hl hs).symm)

theorem setPower (s : Gx24) : MotionPowerLaw (setPower s) := rfl

theorem alertsChanged (ns : List UpFrame) (s : Gx24) : MotionPowerLaw (alertsChanged ns s) :=
  setPower_alertsChanged ns s ▸ setPower (Machine.alertsChanged ns s)

theorem announced (h : MotionPowerLaw s) (k : Announced s t) : MotionPowerLaw t := by
  obtain rfl | ⟨ns, u, rfl⟩ := k
  exacts [h, alertsChanged ns u]

theorem render (h : MotionPowerLaw s) : MotionPowerLaw (render s) :=
  h.congr (render_motionPower s) (render_estop s) (render_resetLow s) (render_slots s)

theorem sendUp (h : MotionPowerLaw s) (f : UpFrame) : MotionPowerLaw (sendUp f s) :=
  h.congr (sendUp_motionPower ..) (sendUp_estop ..) (sendUp_resetLow ..) (by rw [sendUp_au])

theorem changeMode (h : MotionPowerLaw s) (e : Fin 16) (m : Mode) : MotionPowerLaw (changeMode e m s) := by
  have shown : MotionPowerLaw (showMode e (clearStories e (modExhibit e (fun x => { x with mode := m }) s))) := by
    unfold showMode; split
    exacts [h.congr (by simp) (by simp) (by simp) (by simp), h.congr (by simp) (by simp) (by simp) (by simp)]
  unfold Machine.changeMode; dsimp only; split
  exacts [shown.render, shown]

/-- A countdown and a rise of the tier leave the record its key (R140). -/
theorem escalateSlot (i : Fin 64) (k : List UpFrame × Gx24) (h : MotionPowerLaw k.2) :
    MotionPowerLaw (escalateSlot i k).2 := by
  have put {r : AlertRecord} (r' : AlertRecord) (hr : recordAt i k.2 = some r) (hk : r'.key = r.key) :
      MotionPowerLaw (putRecord i (some r') k.2) := by
    unfold MotionPowerLaw powerOn
    rw [estopRecordStands_putRecord hr hk]; exact h
  unfold Machine.escalateSlot; dsimp only; repeat' split
  · exact h
  · exact h
  · next hr _ _ => exact put _ hr rfl
  · next hr _ _ => exact put _ hr rfl

theorem escalateAll (h : MotionPowerLaw s) : MotionPowerLaw (escalateAll s) := by
  have counted : MotionPowerLaw (forRows (n := 64) Machine.escalateSlot ([], s)).2 :=
    forRows_keeps (P := fun k : List UpFrame × Gx24 => MotionPowerLaw k.2) (fun i k h => escalateSlot i k h) h
  unfold Machine.escalateAll; dsimp only; split
  exacts [counted, alertsChanged ..]

theorem scheduleCue (h : MotionPowerLaw s) (c : CueEntry) : MotionPowerLaw (scheduleCue c s) := by
  have scheduled (cs : List CueEntry) : MotionPowerLaw { s with gc := { s.gc with schedule := cs } } :=
    h.congr rfl rfl rfl rfl
  unfold Machine.scheduleCue; dsimp only; repeat' split
  exacts [((scheduled _).sendUp _).sendUp _, h.sendUp _, (scheduled _).sendUp _]

theorem coldReset (n : Option Serial) (s : Gx24) : MotionPowerLaw (coldReset n s) := by
  unfold Machine.coldReset releaseReset; dsimp only; repeat' split
  exacts [setPower _, setPower _, setPower _]

end MotionPowerLaw

theorem keptLive_motionPowerLaw : KeptLive MotionPowerLaw where
  frame e h := h.congr e.motionPower e.estop e.resetLow (congrArg (·.slots) e.au)
  missed _ h := h.congr rfl rfl rfl rfl
  up f h := h.sendUp f
  axis _ _ _ h := h.congr rfl rfl rfl rfl
  raise key h := h.announced (raise_announced key _)
  endCondition key h := h.announced (endCondition_announced key _)
  acknowledge l h := h.announced (acknowledge_announced l _)
  render h := h.render
  changeMode e m h := h.changeMode e m
  live _ _ _ := fun _ _ _ h => h.congr rfl rfl rfl rfl

/-- ESTOP_N asserted sets MOTION_PWR, and the axes that then fault leave it following the records (R125, R126). -/
theorem MotionPowerLaw.assertEstop (h : MotionPowerLaw s) : MotionPowerLaw (assertEstop s) := by
  by_cases asserted : s.estop = true
  · rw [show Machine.assertEstop s = s from if_pos asserted]; exact h
  · rw [assertEstop_of_released (by simpa using asserted)]
    have cut : MotionPowerLaw s.estopRaised.drivesOff :=
      forRows_keeps (P := MotionPowerLaw) (f := fun a s => modAxis a Axis.driveOff s)
        (fun _ _ h => h.congr rfl rfl rfl rfl) (.setPower _)
    exact forRows_keeps (P := MotionPowerLaw) (fun a _ h => keptLive_motionPowerLaw.faultAxis a .estop h) cut

theorem keptAll_motionPowerLaw : KeptAll MotionPowerLaw where
  toKeptLive := keptLive_motionPowerLaw
  clock _ _ h := h.congr rfl rfl rfl rfl
  cues _ _ h := h.congr rfl rfl rfl rfl
  cueTaken c h := h.scheduleCue c
  trunk _ _ h := h.congr rfl rfl rfl rfl
  sent h := by
    unfold sendHead; split
    exacts [h, h.congr rfl rfl rfl rfl]
  classes _ h := h.congr rfl rfl rfl rfl
  neighbours _ h := MotionPowerLaw.render (h.congr rfl rfl rfl rfl)
  escalateAll h := h.escalateAll
  escalation i h := by
    unfold eventEscalation; dsimp only; repeat' split
    exacts [.alertsChanged .., h, h]
  power _ := .setPower _
  asserted h := h.assertEstop
  released _ _ := .setPower _
  cold n _ := .coldReset n _
  held _ _ := .setPower _
  warm _ := .setPower _

end Sys2Proof.Machine

open Sys2Proof Sys2Proof.Machine

/-- Settles O5: each command sets MOTION_PWR after it has changed a pin or the records, and otherwise leaves all three
alone. -/
theorem motionPowerFollowsEstop : Obligations.MotionPowerFollowsEstop :=
  fun _ _ h ht => keptAll_motionPowerLaw.step h ht

end

section
/-! AXIS-ENABLE (R107): the checks of an OFF axis's drive station, and the axis placed at the drive's position. -/

namespace Sys2Proof.Machine

variable {s : Gx24} {a : Fin 8} {st : Fin 24}

/-- The drive station can carry an axis: ESTOP_N is released, and a PRESENT station with a slot reports ready and no
fault (R107). -/
structure Gx24.Carries (s : Gx24) (st : Fin 24) : Prop where
  released : s.estop = false
  present : (stationOf st s).state = .present
  slot : hasSlot st s = true
  ready : (stationOf st s).drive.ready = true
  sound : (stationOf st s).drive.fault = false

theorem Gx24.Carries.fit (h : s.Carries st) : driveFit st s = true := driveFit_iff.mpr ⟨h.present, h.ready, h.sound⟩

theorem enableCheck_undriven (h : (axisOf a s).params.drive = none) : enableCheck a s = .inl .invalid := by
  unfold enableCheck; rw [h]

theorem enableCheck_otherKind (h : (axisOf a s).params.drive = some st) (kind : (rowOf st s).kind ≠ .drive) :
    enableCheck a s = .inl .invalid := by
  unfold enableCheck; rw [h]; exact if_pos kind

theorem enableCheck_carried (h : (axisOf a s).params.drive = some st) (kind : (rowOf st s).kind = .drive)
    (fit : s.Carries st) : enableCheck a s = .inr st := by
  unfold enableCheck; rw [h]; dsimp only
  rw [if_neg (not_not.mpr kind), if_neg (by simp [fit.released]), if_neg (not_not.mpr fit.present),
    if_neg (by simp [fit.slot]), if_neg (by simp [fit.fit])]

/-- Whichever of the checks after the kind fails, the answer is LIVE. -/
theorem enableCheck_unfit (h : (axisOf a s).params.drive = some st) (kind : (rowOf st s).kind = .drive)
    (unfit : ¬ s.Carries st) : enableCheck a s = .inl .live := by
  unfold enableCheck; rw [h]; dsimp only
  rw [if_neg (not_not.mpr kind)]
  split
  · rfl
  split
  · rfl
  split
  · rfl
  split
  · rfl
  · next released present slot fit =>
    obtain ⟨-, ready, sound⟩ := driveFit_iff.mp (by simpa using fit)
    exact absurd ⟨by simpa using released, not_not.mp present, by simpa using slot, ready, sound⟩ unfit

theorem enableAxis_of_on (h : (axisOf a s).state ≠ .off) : enableAxis a s = (.ok, s) := if_pos h

theorem enableAxis_refused {code : ReplyCode} (off : (axisOf a s).state = .off) (h : enableCheck a s = .inl code) :
    enableAxis a s = (code, s) := by
  unfold enableAxis; rw [if_neg (not_not.mpr off), h]

/-- An OFF axis whose drive passes the checks is IDLE at the position the drive reports (R107). -/
theorem enableAxis_placed {n : Word} (off : (axisOf a s).state = .off) (h : enableCheck a s = .inr st)
    (hn : (stationOf st s).drive.position = some n) :
    enableAxis a s = (.ok, modAxis a (fun x => x.enabled (n.toInt * 16) (guardIsOpen a s)) s) := by
  have position : reportedPosition st s = n.toInt * 16 := by unfold reportedPosition; rw [hn]; rfl
  unfold enableAxis; rw [if_neg (not_not.mpr off), h]; dsimp only; rw [position]

theorem manageAxis_enables {flag : Byte} (tag : Byte) (h : flagOf flag = true) (a : Fin 8) (s : Gx24) :
    manageAxis tag [byteOf a.val, flag] s = replyPlain tag opAxisEnable (enableAxis a s).1 [] (enableAxis a s).2 := by
  unfold manageAxis; dsimp only
  rw [indexOf_byteOf_small (by decide), h]; rfl

end Sys2Proof.Machine

open Sys2Proof Sys2Proof.Machine

/-- Settles O40: an axis that is on is left alone, a failing check names the reply, and an axis whose drive can carry it
is placed. -/
theorem enablePlacesTheAxisAtItsDrive : Obligations.EnablePlacesTheAxisAtItsDrive := by
  intro p q tag flag a quiet own set t x reply answers
  have takes {u : Gx24} {code : ReplyCode} (hu : enableAxis a t = (code, u)) (hw : u.work = []) :
      exec (.axisEnable tag [byteOf a.val, flag]) ⟨p, q⟩ = .next ⟨reply code u, q⟩ :=
    quiet.takes_still_as own q ((manageAxis_enables tag set a t).trans (by rw [hu]; rfl)) ((sendUp_work ..).trans hw)
  refine ⟨fun on => takes (enableAxis_of_on on) quiet.2,
    fun off undriven => takes (enableAxis_refused off (enableCheck_undriven undriven)) quiet.2,
    fun st off driven => ⟨fun kind => ?_, fun kind unfit => ?_, fun kind released present slot ready sound n hn => ?_⟩⟩
  · exact takes (enableAxis_refused off (enableCheck_otherKind (s := t) driven kind)) quiet.2
  · refine takes (enableAxis_refused off (enableCheck_unfit (s := t) driven kind fun fit => ?_)) quiet.2
    obtain ⟨released, present, slot, ready, sound⟩ := fit
    obtain h | h | h | h | h := unfit
    exacts [Bool.noConfusion (h.symm.trans released), h present, Bool.noConfusion (h.symm.trans slot),
      Bool.noConfusion (h.symm.trans ready), Bool.noConfusion (h.symm.trans sound)]
  · have fit : t.Carries st := ⟨released, present, slot, ready, sound⟩
    exact takes (enableAxis_placed off (enableCheck_carried driven kind fit) hn) quiet.2

end

section
/-! ACK-ALERT (R124, R135, R137): what the acknowledgement of one record changes, and what of it reaches the axis of a
fault. -/

namespace Sys2Proof.Machine

variable {s t p : Gx24} {i : Fin 64} {r : AlertRecord}

/-! ### Outputs that already follow the records -/

theorem renderZone_shown {z : Fin 4} (h : tget s.au.patterns z = zonePattern z s) : renderZone z s = s := if_pos h.symm

theorem render_of_law (h : RenderLaw s) : render s = s := by
  obtain ⟨supervisor, patterns, -⟩ := h
  have zones : forRows (n := 4) renderZone s = s := forRows_id fun z => renderZone_shown (patterns z)
  unfold render; dsimp only; rw [zones, ← supervisor]

theorem setPower_of_law (h : MotionPowerLaw s) : setPower s = s := by
  unfold setPower; rw [← show s.motionPower = powerOn s from h]

/-- Announcing no change leaves outputs that follow the records alone. -/
theorem alertsChanged_nothing (given : s.HoldsGiven) (power : MotionPowerLaw s) (shown : RenderLaw s) :
    alertsChanged [] s = s := by
  unfold alertsChanged sendAll
  rw [giveHeld_given given, setPower_of_law power, render_of_law shown, forList_nil]

/-! ### One record acknowledged (R135) -/

theorem ackSlot_opened (k : AckTaken) (hr : recordAt i s = some r) (opened : r.state = .opened) :
    ackSlot i (k, s) = ({ k with
      notices := k.notices ++ [noticeOf i { r with state := .owned } .owned s], axes := k.axes ++ ackAxes i r s },
      putRecord i (some { r with state := .owned }) s) := by
  unfold ackSlot; dsimp only; rw [hr]; dsimp only; rw [opened]; dsimp only; rw [noticeOf_putRecord]

theorem ackSlot_owned (k : AckTaken) (hr : recordAt i s = some r) (owned : r.state = .owned) :
    ackSlot i (k, s) = ({ k with axes := k.axes ++ ackAxes i r s }, s) := by
  unfold ackSlot; dsimp only; rw [hr]; dsimp only; rw [owned]

theorem ackSlot_waiting (k : AckTaken) (hr : recordAt i s = some r) (waiting : r.state = .waiting)
    (general : i ≠ overflowSlot) : ackSlot i (k, s) =
      (⟨k.notices ++ [noticeOf i r .removed s], k.axes ++ ackAxes i r s, true⟩, putRecord i none s) := by
  unfold ackSlot; dsimp only; rw [hr]; dsimp only; rw [waiting]; exact if_neg general

/-- A record replaced by one of the same hold target gives no new held set (R143). -/
theorem holdsGiven_putRecord {r' : AlertRecord} (hr : recordAt i s = some r) (ht : r'.target = r.target)
    (given : s.HoldsGiven) : (putRecord i (some r') s).HoldsGiven := (currentHeld_putRecord hr ht).trans given

theorem acknowledge_opened (hr : recordAt i s = some r) (opened : r.state = .opened) :
    acknowledge [i] s = (ackAxes i r s, alertsChanged [noticeOf i { r with state := .owned } .owned s]
      (putRecord i (some { r with state := .owned }) s)) := by
  unfold acknowledge; rw [forList_cons, ackSlot_opened _ hr opened]; rfl

theorem acknowledge_owned (hr : recordAt i s = some r) (owned : r.state = .owned) :
    acknowledge [i] s = (ackAxes i r s, alertsChanged [] s) := by
  unfold acknowledge; rw [forList_cons, ackSlot_owned _ hr owned]; rfl

theorem endOverflow_of_none (h : recordAt overflowSlot s = none) : endOverflow s = ([], s) := by
  unfold endOverflow; rw [h]

/-- A removed record frees its slot, which ends no overflow condition where none is (R147). -/
theorem acknowledge_waiting (hr : recordAt i s = some r) (waiting : r.state = .waiting)
    (noOverflow : recordAt overflowSlot s = none) :
    acknowledge [i] s = (ackAxes i r s, alertsChanged [noticeOf i r .removed s] (putRecord i none s)) := by
  have general : i ≠ overflowSlot := fun h => by rw [← h, hr] at noOverflow; nomatch noOverflow
  have freed : endOverflow (putRecord i none s) = ([], putRecord i none s) :=
    endOverflow_of_none (by rw [recordAt_putRecord, if_neg general, noOverflow])
  unfold acknowledge; rw [forList_cons, ackSlot_waiting _ hr waiting general, forList_nil]; dsimp only
  rw [if_pos rfl, freed]; rfl

/-! ### What the acknowledgement tells the Motion Unit (R124) -/

theorem ackAxes_of_other (general : i ≠ overflowSlot) (other : r.key.cls ≠ clsAxisFault) : ackAxes i r s = [] := by
  unfold ackAxes; rw [if_neg general, if_neg other]

theorem ackAxes_of_fault {a : Fin 8} (general : i ≠ overflowSlot) (fault : r.key.cls = clsAxisFault)
    (axis : r.key.axis = some a) : ackAxes i r s = [(a, r.key)] := by
  unfold ackAxes; rw [if_neg general, if_pos fault, axis]

/-- The key of the axis's present FAULT marks it acknowledged, and the axis is tested for recovery (R124). -/
theorem ackNotice_of_mu (h : t.mu = p.mu) (a : Fin 8) (key : AlertKey) : ackNotice a key t = recoverTest a
    (if (axisOf a p).faultKey = some key then t.withAxis a (fun x => { x with acked := true }) else t) := by
  have axis : axisOf a t = axisOf a p := by unfold axisOf; rw [h]
  unfold ackNotice; rw [axis]; rfl

theorem acknowledgeAll_quietly (h : acknowledge [i] s = ([], t)) : acknowledgeAll [i] s = t := by
  unfold acknowledgeAll; rw [h]; rfl

theorem acknowledgeAll_of_axis {a : Fin 8} {key : AlertKey} (h : acknowledge [i] s = ([(a, key)], t)) :
    acknowledgeAll [i] s = ackNotice a key t := by
  unfold acknowledgeAll; rw [h]; rfl

/-! ### ACK-ALERT frames (R137) -/

theorem handleAck_of_range {slot : Byte} (h : 64 ≤ slot.toNat) (generation : Byte) (s : Gx24) :
    handleAck slot generation s = frameError s := by
  unfold handleAck; rw [indexOf_of_le h]

theorem handleAck_stray {generation : Byte}
    (h : recordAt i s = none ∨ (tget s.au.slots i).generation ≠ generation.extractLsb' 0 4) :
    handleAck (byteOf i.val) generation s = growAlert .strayAcks s := by
  unfold handleAck; rw [indexOf_byteOf_small (by decide)]
  refine if_neg fun ⟨stands, same⟩ => ?_
  obtain h | h := h
  exacts [by simp [h] at stands, h same]

theorem handleAck_matching {generation : Byte} (hr : recordAt i s = some r)
    (same : (tget s.au.slots i).generation = generation.extractLsb' 0 4) :
    handleAck (byteOf i.val) generation s = growAlert .headEndAcks (acknowledgeAll [i] s) := by
  unfold handleAck; rw [indexOf_byteOf_small (by decide)]
  exact if_pos ⟨by rw [hr]; rfl, same⟩

end Sys2Proof.Machine

open Sys2Proof Sys2Proof.Machine

/-- Settles O24: the record's state says what its acknowledgement changes, and its class whether an axis hears of it. -/
theorem ackAlertActsOnTheRecord : Obligations.AckAlertActsOnTheRecord := by
  intro p q slot generation quiet own given s
  refine ⟨fun range => quiet.takes_still_as own q (handleAck_of_range range generation s) quiet.2, ?_⟩
  rintro i rfl
  refine ⟨fun stray => quiet.takes_still_as own q (handleAck_stray (s := s) stray) quiet.2, ?_⟩
  intro r hr same noOverflow done notice owned removed
  have general : i ≠ overflowSlot := fun h => by rw [← h, hr] at noOverflow; nomatch noOverflow
  have takes {t : Gx24} (ht : acknowledgeAll [i] s = t) : done = .next ⟨settle (growAlert .headEndAcks t), q⟩ :=
    quiet.takes_as own q ((handleAck_matching (s := s) hr same).trans (by rw [ht]))
  have takes_still {t : Gx24} (ht : acknowledgeAll [i] s = t) (hw : t.work = []) :
      done = .next ⟨growAlert .headEndAcks t, q⟩ := (takes ht).trans (by rw [settle_of_empty (by exact hw)])
  have opens (h : r.state = .opened) : acknowledge [i] s = (ackAxes i r s, owned) := acknowledge_opened hr h
  have waits (h : r.state = .waiting) : acknowledge [i] s = (ackAxes i r s, removed) :=
    acknowledge_waiting hr h noOverflow
  have owns (h : r.state = .owned) (shown : RenderLaw p) (power : MotionPowerLaw p) :
      acknowledge [i] s = (ackAxes i r s, s) :=
    (acknowledge_owned (s := s) hr h).trans (by rw [alertsChanged_nothing (s := s) given power shown])
  refine ⟨fun other => ?_, ?_⟩
  · have none : ackAxes i r s = [] := ackAxes_of_other general other
    rw [none] at opens waits owns
    have still : owned.work = s.work := alertsChanged_quiet _ (holdsGiven_putRecord (s := s) hr rfl given)
    exact ⟨fun h => takes_still (acknowledgeAll_quietly (opens h)) (still.trans quiet.2),
      fun h => takes (acknowledgeAll_quietly (waits h)),
      fun h shown power => takes_still (acknowledgeAll_quietly (owns h shown power)) quiet.2⟩
  · intro a fault axis acked
    have one : ackAxes i r s = [(a, r.key)] := ackAxes_of_fault general fault axis
    rw [one] at opens waits owns
    have hears {t : Gx24} (h : acknowledge [i] s = ([(a, r.key)], t)) (mu : t.mu = p.mu) :
        done = .next ⟨settle (acked t), q⟩ := takes ((acknowledgeAll_of_axis h).trans (ackNotice_of_mu mu a r.key))
    exact ⟨fun h => hears (opens h) (alertsChanged_mu ..), fun h => hears (waits h) (alertsChanged_mu ..),
      fun h shown power => hears (owns h shown power) rfl⟩

end

section
/-! The cold reset (R187): the cold values that RESET_N holds, and the ESTOP that its release raises while ESTOP_N is
asserted (R125). -/

namespace Sys2Proof.Machine

variable {s p : Gx24}

/-! ### While RESET_N is asserted (R187) -/

/-- RESET_N is asserted with ESTOP_N at this level: every block cold, both outputs deasserted (R187). -/
theorem holdReset_eq (s : Gx24) : holdReset s = { Gx24.cold s.tp.node with
    resetLow := true, motionPower := false, estop := s.estop, choices := s.choices, choicePoint := s.choicePoint } := by
  have off : powerOn { coldBlocks s.tp.node s with resetLow := true } = false := by simp [powerOn]
  unfold holdReset setPower; rw [off]; rfl

/-- What a pin's command does while RESET_N is asserted is all it does. -/
theorem State.actOr_held {hold f : Gx24 → Gx24} {s : State} (low : s.part.resetLow = true) :
    s.actOr hold f = .next { s with part := hold s.part } := by rw [State.actOr_eq, if_pos low]

/-- Every command but the pins' own has no effect while RESET_N is asserted. -/
theorem exec_of_resetLow {c : Instr} (low : p.resetLow = true) (q : List Instr) (cold : ∀ straps, c ≠ .coldReset straps)
    (assert : c ≠ .estopAsserted) (release : c ≠ .estopReleased) : exec c ⟨p, q⟩ = .next ⟨p, q⟩ := by
  cases c with
  | coldReset straps => exact absurd rfl (cold straps)
  | estopAsserted => exact absurd rfl assert
  | estopReleased => exact absurd rfl release
  | _ => exact State.act_held low

/-- A cold reset is its effect and the notices it gives, whatever the level of RESET_N before. -/
theorem exec_coldReset (straps : Option Serial) (p : Gx24) (q : List Instr) :
    exec (.coldReset straps) ⟨p, q⟩ = .next ⟨settle (coldReset straps p), q⟩ := by
  show State.actOr (fun p => settle (coldReset straps p)) (coldReset straps) ⟨p, q⟩ = _
  rw [State.actOr_eq]; dsimp only; split <;> rfl

/-! ### The release of RESET_N (R125, R128, R187) -/

theorem powerOn_coldBlocks (h : s.estop = false) (n : Serial) : powerOn (coldBlocks n s) = true := by
  have noRecord : estopRecordStands (coldBlocks n s) = false :=
    anyRow_false.mpr fun i => by rw [recordAt_coldBlocks]
  have released : (coldBlocks n s).estop = false := h
  unfold powerOn; rw [noRecord, released]; rfl

theorem releaseReset_of_released (h : s.estop = false) (n : Serial) : releaseReset n s =
    { Gx24.cold n with choices := s.choices, choicePoint := s.choicePoint } := by
  unfold releaseReset; dsimp only
  rw [if_neg (by simp [h]), setPower, powerOn_coldBlocks h, coldBlocks, h]; rfl

/-! ### A raise where no record stands (R131) -/

theorem slotOfKey_of_noRecords (h : ∀ i, recordAt i s = none) (key : AlertKey) : slotOfKey key s = none :=
  firstRow_none.mpr fun i => by rw [h i, Bool.and_false]

theorem freeSlot_of_noRecords (h : ∀ i, recordAt i s = none) : freeSlot s = some 0 := by
  unfold freeSlot firstRow
  rw [List.finRange_succ, List.find?_cons_of_pos]
  rw [h]; rfl

/-- The first record takes slot 0. -/
theorem raise_of_noRecords (h : ∀ i, recordAt i s = none) (key : AlertKey) :
    let r := newRecord key (tget s.au.classes key.cls) s
    raise key s = alertsChanged [noticeOf 0 r r.state.notice (takeSlot 0 r s)] (takeSlot 0 r s) := by
  unfold raise; rw [slotOfKey_of_noRecords h, freeSlot_of_noRecords h]

/-! ### Rendering (R141) -/

/-- Rendering a zone of a branch without BEACON stations changes that zone's pattern alone. -/
theorem renderZone_of_noBeacon (h : ∀ st, (rowOf st s).kind ≠ .beacon) (z : Fin 4) :
    renderZone z s = { s with au := { s.au with patterns := tput s.au.patterns z (zonePattern z s) } } := by
  unfold renderZone; dsimp only; split
  · next same => rw [same, tput_tget]
  · exact forRows_id fun st => if_neg fun beacon => h st beacon.1

/-- The part with these zone patterns last computed. -/
def Gx24.withPatterns (s : Gx24) (x : Tbl 4 BeaconPattern) : Gx24 := { s with au := { s.au with patterns := x } }

theorem renderZone_withPatterns (h : ∀ st, (rowOf st s).kind ≠ .beacon) (z : Fin 4) (x : Tbl 4 BeaconPattern) :
    renderZone z (s.withPatterns x) = s.withPatterns (tput x z (zonePattern z s)) :=
  renderZone_of_noBeacon (s := s.withPatterns x) h z

/-- A walk that writes every row of a table makes the table anew. -/
theorem forRows_tput {α : Type} {n : Nat} (g : Fin n → α) (x : Tbl n α) :
    forRows (fun i x => tput x i (g i)) x = tmake g :=
  tbl_ext fun i => by
    rw [tget_tmake]
    refine forRows_reaches (P := fun _ => True) (Q := fun i x => tget x i = g i) (f := fun i x => tput x i (g i))
      (fun _ _ _ => trivial) (fun i x _ => tget_tput_same x i (g i)) (fun i j x _ hi => ?_) trivial i
    rw [tget_tput]; split
    · next same => rw [same]
    · exact hi

/-- With no BEACON station rendering gives the zones their patterns and SUPERVISOR its level, and no more. -/
theorem render_of_noBeacon (h : ∀ st, (rowOf st s).kind ≠ .beacon) : render s =
    { s.withPatterns (tmake (fun z => zonePattern z s)) with supervisor := supervisorCall s } := by
  have zones : forRows (n := 4) renderZone (s.withPatterns s.au.patterns) =
      s.withPatterns (forRows (n := 4) (fun z x => tput x z (zonePattern z s)) s.au.patterns) :=
    List.foldl_hom (f := s.withPatterns) (g₂ := fun s z => renderZone z s) fun x z => renderZone_withPatterns h z x
  unfold render; dsimp only
  rw [show s = s.withPatterns s.au.patterns from rfl, zones, forRows_tput]; rfl

/-! ### ESTOP raised at the release (R125, R131, R132, R141 to R143) -/

/-- The ESTOP record that the cold class table makes, with no exhibit to hold (R131, R132). -/
def coldEstopRecord : AlertRecord where
  key := keyEstop
  state := .opened
  tier := 1
  countdown := 300
  repeats := 1
  saturated := false
  raiseTick := 0#16
  severity := 3
  hold := true
  ackRequired := true
  interval := 300
  maxTier := 3
  zones := allZones
  target := noExhibits

/-- The ALERT-NOTICE of that record in slot 0 (R148). -/
def coldEstopNotice : UpFrame := .alertNotice 0 1#4 keyEstop .opened 1 1 false 0#16 0#16

/-- The cold blocks with the ESTOP record in slot 0, before its effects (R131). -/
def estopCold (n : Serial) (s : Gx24) : Gx24 := takeSlot 0 coldEstopRecord (coldBlocks n s)

theorem newRecord_keyEstop_cold (n : Serial) (s : Gx24) :
    newRecord keyEstop (tget (coldBlocks n s).au.classes keyEstop.cls) (coldBlocks n s) = coldEstopRecord := by
  have unheld : holdTargetFor keyEstop true (coldBlocks n s) = noExhibits := by
    show tmake _ = _
    exact tbl_ext fun e => by
      rw [tget_tmake, exhibitOf_coldBlocks]
      simp [Exhibit.cold, ExhibitRecord.cold, noExhibits, tget]
  show { coldEstopRecord with target := holdTargetFor keyEstop true (coldBlocks n s) } = _
  rw [unheld]; rfl

theorem slots_estopCold (n : Serial) (s : Gx24) (i : Fin 64) :
    tget (estopCold n s).au.slots i = if 0 = i then ⟨1#4, some coldEstopRecord⟩ else ⟨0#4, none⟩ := by
  have cold (i : Fin 64) : tget (coldBlocks n s).au.slots i = ⟨0#4, none⟩ := by
    simp [coldBlocks, Gx24.cold, Alerts.cold, tget]
  unfold estopCold takeSlot; dsimp only
  rw [tget_tmod, cold, cold]; rfl

theorem recordAt_estopCold (n : Serial) (s : Gx24) (i : Fin 64) :
    recordAt i (estopCold n s) = if 0 = i then some coldEstopRecord else none := by
  unfold recordAt; rw [slots_estopCold]; split <;> rfl

theorem holdsGiven_estopCold (n : Serial) (s : Gx24) : (estopCold n s).HoldsGiven := by
  have nobody (e : Fin 16) : tget noExhibits e = false := by simp [noExhibits, tget]
  refine tbl_ext fun e => ?_
  have unheld : tget (estopCold n s).au.overflowHeld e = false := nobody e
  show tget (currentHeld _) e = tget noExhibits e
  unfold currentHeld; rw [tget_tmake, unheld, nobody, Bool.false_or]
  refine anyRow_false.mpr fun i => ?_
  rw [recordAt_estopCold]
  by_cases first : 0 = i
  · rw [if_pos first]; exact nobody e
  · rw [if_neg first]

theorem supervisorCall_estopCold (n : Serial) (s : Gx24) : supervisorCall (estopCold n s) = false :=
  anyRow_false.mpr fun i => by rw [recordAt_estopCold]; by_cases h : 0 = i <;> simp [h, coldEstopRecord]

/-- An unacknowledged ESTOP is of severity 3 and reaches every zone. -/
theorem zonePattern_estopCold (n : Serial) (s : Gx24) (z : Fin 4) : zonePattern z (estopCold n s) = .red := by
  have reached : tget allZones z = true := by simp [allZones, tget]
  have shown : shows coldEstopRecord z (estopCold n s) = true := by
    simp [shows, reaches, coldEstopRecord, reached, exhibitDark, keyEstop]
  unfold zonePattern
  exact if_pos (anyRow_iff.mpr ⟨0, by rw [recordAt_estopCold, if_pos rfl]; dsimp only; rw [shown]; rfl⟩)

/-- An asserted ESTOP_N at the release: the cold blocks, the ESTOP record and its effects, MOTION_PWR off (R125, R187). -/
theorem releaseReset_of_asserted (h : s.estop = true) (n : Serial) : releaseReset n s =
    { (estopCold n s).withPatterns (tmake fun _ => .red) with
      motionPower := false, tp := { Trunk.cold n with upQueue := [coldEstopNotice] } } := by
  have off : setPower (estopCold n s) = { estopCold n s with motionPower := false } := by
    unfold setPower; rw [Unpowered.powerOn_of_asserted (s := estopCold n s) h]
  have noBeacon (st : Fin 24) : (rowOf st (estopCold n s)).kind ≠ .beacon := by
    simp [rowOf, estopCold, takeSlot, coldBlocks, Gx24.cold, Branch.cold, StationRow.cold, tget]
  have rendered : render { estopCold n s with motionPower := false } =
      { (estopCold n s).withPatterns (tmake fun _ => .red) with motionPower := false, supervisor := false } := by
    rw [render_of_noBeacon (s := { estopCold n s with motionPower := false }) noBeacon]
    rw [show supervisorCall { estopCold n s with motionPower := false } = false from supervisorCall_estopCold n s,
      show (fun z => zonePattern z { estopCold n s with motionPower := false }) = fun _ => .red from
        funext fun z => zonePattern_estopCold n s z]
    rfl
  have notice : noticeOf 0 coldEstopRecord .opened (estopCold n s) = coldEstopNotice := by
    unfold noticeOf; rw [slots_estopCold, if_pos rfl]; rfl
  have raised := raise_of_noRecords (fun i => recordAt_coldBlocks i n s) keyEstop
  dsimp only at raised
  rw [newRecord_keyEstop_cold] at raised
  unfold releaseReset; dsimp only
  rw [if_pos h, raised, setPower_alertsChanged]
  show alertsChanged [noticeOf 0 coldEstopRecord .opened (estopCold n s)] (estopCold n s) = _
  unfold alertsChanged sendAll
  rw [giveHeld_given (holdsGiven_estopCold n s), off, rendered, notice, forList_cons, forList_nil]
  exact sendUp_room _ (show 0 < 64 by decide)

end Sys2Proof.Machine

open Sys2Proof Sys2Proof.Machine

/-- Settles O59: RESET_N holds the cold values; its release leaves them, with ESTOP raised where ESTOP_N is asserted. -/
theorem coldResetGivesTheColdValues : Obligations.ColdResetGivesTheColdValues := by
  intro p q low
  have reset {straps : Option Serial} {t : Gx24} (ht : coldReset straps p = t) (hw : t.work = []) :
      exec (.coldReset straps) ⟨p, q⟩ = .next ⟨t, q⟩ := by rw [exec_coldReset, ht, settle_of_empty hw]
  have held (b : Bool) : estopHeld b p = low p.tp.node b := holdReset_eq { p with estop := b }
  have follows {hold f : Gx24 → Gx24} {t : Gx24} (asserted : p.resetLow = true) (ht : hold p = t) :
      State.actOr hold f ⟨p, q⟩ = .next ⟨t, q⟩ := (State.actOr_held asserted).trans (by rw [← ht])
  refine ⟨reset (holdReset_eq p) rfl, fun asserted =>
    ⟨follows asserted (held true), follows asserted (held false), fun c => exec_of_resetLow asserted q⟩,
    fun straps => ⟨fun released => reset (releaseReset_of_released released straps) rfl, fun estop => ?_⟩⟩
  · have slots := slots_estopCold straps p
    refine ⟨_, reset (releaseReset_of_asserted estop straps) rfl, estop, rfl, rfl, rfl, fun z => tget_tmake _ z,
      ⟨coldEstopRecord, slots 0, rfl, rfl⟩, fun i hi => (slots i).trans (if_neg (Ne.symm hi)), rfl, ?_,
      rfl, rfl, rfl, rfl, rfl, rfl, rfl, rfl⟩
    exact ⟨rfl, rfl, rfl, rfl, rfl, fun _ => rfl, fun _ => rfl, rfl, rfl, rfl, rfl, rfl, rfl, rfl, rfl⟩

end

section
/-! The outputs after a change of the records (R126, R131, R141 to R143), and what a change of the records leaves alone. -/

namespace Sys2Proof.Machine

variable {s t : Gx24}

/-! ### The zone patterns (R141) -/

/-- A zone's pattern is a matter of the records, the zones' neighbours and the exhibits' modes. -/
theorem zonePattern_congr (hs : t.au.slots = s.au.slots) (hn : t.au.neighbours = s.au.neighbours)
    (he : t.exhibits = s.exhibits) (z : Fin 4) : zonePattern z t = zonePattern z s := by
  unfold zonePattern someShown shows reaches recordAt exhibitDark exhibitOf; rw [hs, hn, he]

/-- Rendering a zone gives it its pattern, and beyond that changes beacon images alone. -/
theorem renderZone_frame (z : Fin 4) (s : Gx24) : ∃ x, renderZone z s =
    { s.withPatterns (tput s.au.patterns z (zonePattern z s)) with bs := { s.bs with stations := x } } := by
  unfold renderZone; dsimp only; split
  · next same => exact ⟨s.bs.stations, by rw [same, tput_tget]; rfl⟩
  · refine forRows_keeps (P := fun t : Gx24 => ∃ x, t =
      { s.withPatterns (tput s.au.patterns z (zonePattern z s)) with bs := { s.bs with stations := x } })
      (fun st t h => ?_) ⟨s.bs.stations, rfl⟩
    obtain ⟨x, rfl⟩ := h
    split
    exacts [⟨_, rfl⟩, ⟨x, rfl⟩]

/-- Rendering gives every zone the pattern of the records, whichever zone is rendered first. -/
theorem render_patterns (s : Gx24) (z : Fin 4) : tget (render s).au.patterns z = zonePattern z s := by
  unfold render; dsimp only
  refine forRows_reaches (P := fun t : Gx24 => ∀ z, zonePattern z t = zonePattern z s)
    (Q := fun z t => tget t.au.patterns z = zonePattern z s) (f := renderZone)
    (fun y t same z => ?_) (fun z t same => ?_) (fun z y t same shown => ?_) (fun _ => rfl) z
  · obtain ⟨st, h⟩ := renderZone_frame y t
    rw [h, ← same z]; exact zonePattern_congr rfl rfl rfl z
  · obtain ⟨st, h⟩ := renderZone_frame z t
    rw [h, ← same z]; exact tget_tput_same ..
  · obtain ⟨st, h⟩ := renderZone_frame y t
    rw [h]; dsimp only [Gx24.withPatterns]; rw [tget_tput]; split
    · next here => rw [here, same]
    · exact shown

theorem render_au (s : Gx24) : (render s).au = { s.au with patterns := tmake fun z => zonePattern z s } := by
  obtain ⟨p, st, b, h⟩ := render_frame s
  have given : p = tmake fun z => zonePattern z s :=
    tbl_ext fun z => by rw [tget_tmake, ← render_patterns s z, h]
  rw [h, given]

/-! ### A change of the records (R131) -/

theorem giveHeld_au (s : Gx24) : (giveHeld s).au = { s.au with heldGiven := currentHeld s } := by
  unfold giveHeld; split
  · next same => rw [same]
  · rfl

/-- Of the Alert Unit's own state a change of the records moves the zone patterns and the held set last given. -/
theorem alertsChanged_au (ns : List UpFrame) (s : Gx24) : (alertsChanged ns s).au = { s.au with
    patterns := tmake fun z => zonePattern z s, heldGiven := currentHeld s } := by
  have patterns (z : Fin 4) : zonePattern z (setPower (giveHeld s)) = zonePattern z s :=
    zonePattern_congr (s := s) (t := setPower (giveHeld s)) (by rw [setPower_au, giveHeld_au])
      (by rw [setPower_au, giveHeld_au]) (by rw [setPower_exhibits, giveHeld_exhibits]) z
  unfold alertsChanged
  rw [sendAll_au, render_au, setPower_au, giveHeld_au, funext patterns]

/-- The Alert Unit's counters do not count what follows a change of the records. -/
theorem alertsChanged_alertCounters (ns : List UpFrame) (s : Gx24) :
    (alertsChanged ns s).counters.alert = s.counters.alert := by
  have held : (giveHeld s).counters = s.counters := by unfold giveHeld; split <;> rfl
  unfold alertsChanged
  refine sendAll_keeps (P := fun t => t.counters.alert = s.counters.alert) (fun f t h => ?_) ns ?_
  · obtain ⟨q, c, hf⟩ := sendUp_frame f t
    rw [hf]; exact h
  · rw [render_counters, setPower_counters, held]

/-- After a change of the records every output follows them (R126, R141 to R143). -/
theorem alertsChanged_outputsFollow (ns : List UpFrame) (s : Gx24) : (alertsChanged ns s).OutputsFollow := by
  have rest : AlertsOnly s (alertsChanged ns s) := (alertsOnlyBlind s).alertsChanged ns (.refl s)
  have au := alertsChanged_au ns s
  have slots := alertsChanged_slots ns s
  refine ⟨?_, ?_, fun z => ?_, ?_⟩
  · rw [alertsChanged_power, powerOn_congr rest.estop rest.resetLow slots]
  · rw [alertsChanged_supervisor, supervisorCall_congr slots rest.exhibits]
  · rw [zonePattern_congr slots (by rw [au]) rest.exhibits, au]; exact tget_tmake ..
  · rw [currentHeld_congr (s := s) (by rw [au]) slots, au]

/-- What moves the Alert Unit, its outputs and the up queue alone moves nothing of the other blocks. -/
theorem AlertsOnly.onlyAlertsMoved (h : AlertsOnly s t) : s.OnlyAlertsMoved t :=
  ⟨h.estop, h.resetLow, h.gc, h.pd, h.exhibits, h.cr, h.mu, h.ac, h.bs, h.stations, h.tp⟩

theorem raise_onlyAlertsMoved (key : AlertKey) (s : Gx24) : s.OnlyAlertsMoved (raise key s) :=
  ((alertsOnlyBlind s).raise key (.refl s)).onlyAlertsMoved

end Sys2Proof.Machine

end

section
/-! Lost raises (R146): no general slot is free, so the raise is counted and kept in the overflow record. -/

namespace Sys2Proof.Machine

variable {s : Gx24}

/-- A raise that matches no record and finds no general slot FREE is lost. -/
theorem raise_of_noFreeSlot {key : AlertKey} (unmatched : slotOfKey key s = none)
    (taken : ∀ i : Fin 64, i.val < 63 → recordAt i s ≠ none) : raise key s = loseRaise key s := by
  have full : freeSlot s = none := firstRow_none.mpr fun i => by
    by_cases general : i.val < 63
    · rw [Option.isNone_eq_false_iff.mpr (Option.isSome_iff_ne_none.mpr (taken i general)), Bool.and_false]
    · rw [show isGeneral i = false from decide_eq_false general, Bool.false_and]
  unfold raise; rw [unmatched, full]

/-- The lost axes with the axis of a lost AXIS-FAULT raise, and its key, among them (R146). -/
def lostAxesWith (key : AlertKey) (s : Gx24) : Tbl 8 (Option AlertKey) :=
  tmake fun a => if key.cls = clsAxisFault ∧ key.axis = some a then some key else tget s.au.lostAxes a

theorem lostAxesWith_of_fault {key : AlertKey} {a : Fin 8} (fault : key.cls = clsAxisFault) (axis : key.axis = some a) :
    lostAxesWith key s = tput s.au.lostAxes a (some key) :=
  tbl_ext fun b => by simp [lostAxesWith, tget_tput, fault, axis]

theorem lostAxesWith_of_other {key : AlertKey} (h : ∀ a, ¬(key.cls = clsAxisFault ∧ key.axis = some a)) :
    lostAxesWith key s = s.au.lostAxes :=
  tbl_ext fun a => by rw [lostAxesWith, tget_tmake, if_neg (h a)]

theorem keepLostAxis_eq (key : AlertKey) (s : Gx24) :
    keepLostAxis key s = { s with au := { s.au with lostAxes := lostAxesWith key s } } := by
  unfold keepLostAxis
  cases axis : key.axis with
  | none => rw [lostAxesWith_of_other fun a h => nomatch axis.symm.trans h.2]
  | some a =>
    dsimp only; split
    · next fault => rw [lostAxesWith_of_fault fault axis]
    · next other => rw [lostAxesWith_of_other fun _ h => other h.1]

/-- Raising the overflow condition leaves its record OPEN in slot 63 with the overflow held set, and announces it; where none
stood the record is new (R146). -/
theorem raiseOverflow_spec (s : Gx24) : ∃ ns g r,
    raiseOverflow s =
      alertsChanged ns { s with au := { s.au with slots := tput s.au.slots overflowSlot ⟨g, some r⟩ } } ∧
    r.state = .opened ∧ r.target = s.au.overflowHeld ∧
    (recordAt overflowSlot s = none → r.key = overflowKey ∧ r.repeats = 1 ∧ r.tier = 1) := by
  unfold raiseOverflow; dsimp only
  cases recordAt overflowSlot s <;> simp only [recordAt_putRecord, recordAt_takeSlot, if_true]
  case none => exact ⟨_, _, _, rfl, rfl, rfl, fun _ => ⟨rfl, rfl, rfl⟩⟩
  case some r => exact ⟨_, _, _, rfl, rfl, rfl, fun empty => nomatch empty⟩

/-- What a lost raise leaves of itself before the overflow condition is raised: its count, its hold target and its axis. -/
def Gx24.lossKept (key : AlertKey) (s : Gx24) : Gx24 :=
  { growAlert .raisesLost s with au := { s.au with
    overflowHeld := joinSets s.au.overflowHeld (holdTargetFor key (tget s.au.classes key.cls).hold s)
    lostAxes := lostAxesWith key s } }

theorem loseRaise_eq (key : AlertKey) (s : Gx24) : loseRaise key s = raiseOverflow (s.lossKept key) := by
  unfold loseRaise; dsimp only; rw [keepLostAxis_eq]; rfl

end Sys2Proof.Machine

open Sys2Proof Sys2Proof.Machine

/-- Settles O23: a lost raise is the loss kept, then the overflow record put in slot 63 and announced. -/
theorem lostRaiseOpensTheOverflowRecord : Obligations.LostRaiseOpensTheOverflowRecord := by
  intro p key unmatched taken t
  obtain ⟨ns, g, r, raised, opened, target, fresh⟩ := raiseOverflow_spec (p.lossKept key)
  have lost : t = alertsChanged ns { p.lossKept key with au := { (p.lossKept key).au with
      slots := tput p.au.slots overflowSlot ⟨g, some r⟩ } } :=
    (raise_of_noFreeSlot unmatched taken).trans ((loseRaise_eq key p).trans raised)
  have au := (congrArg (·.au) lost).trans (alertsChanged_au ns _)
  have slots : t.au.slots = tput p.au.slots overflowSlot ⟨g, some r⟩ := congrArg (·.slots) au
  have held : t.au.overflowHeld = (p.lossKept key).au.overflowHeld := congrArg (·.overflowHeld) au
  refine ⟨?_, fun e => ?_, fun a => ?_, ⟨r, ?_, opened, target.trans held.symm, fresh⟩, fun i general => ?_, ?_,
    raise_onlyAlertsMoved key p⟩
  · rw [lost, alertsChanged_alertCounters]; exact tget_tmod_same ..
  · rw [held]; exact tget_tmake ..
  · rw [show t.au.lostAxes = (p.lossKept key).au.lostAxes from congrArg (·.lostAxes) au]; exact tget_tmake ..
  · unfold recordAt; rw [slots, tget_tput_same]
  · have other : overflowSlot ≠ i := fun h => by rw [← h] at general; exact absurd general (by decide)
    rw [slots, tget_tput_other _ other]
  · rw [lost]; exact alertsChanged_outputsFollow ns _

end

section
/-! ESCALATION (R140): which records escalate, and the countdown that ends. -/

namespace Sys2Proof.Machine

variable {s : Gx24} {i : Fin 64} {r : AlertRecord}

theorem exhibitDark_eq_false {x : Option (Fin 16)} :
    exhibitDark x s = false ↔ ∀ e, x = some e → (exhibitOf e s).mode ≠ .dark := by
  cases x <;> simp [exhibitDark]

theorem escalates_iff : escalates r s = true ↔ r.state ≠ .owned ∧ 0 < r.interval ∧ r.tier < r.maxTier ∧
    ∀ e, r.key.exhibit = some e → (exhibitOf e s).mode ≠ .dark := by
  rw [← exhibitDark_eq_false]; simp [escalates, AlertRecord.unacked, and_assoc]

theorem eventEscalation_of_noRecord (h : recordAt i s = none) : eventEscalation i s = s := by
  unfold eventEscalation; rw [h]

/-- Without tick events, of a record that does not escalate, or before the countdown ends: nothing (assumption 5). -/
theorem eventEscalation_of_notDue (hr : recordAt i s = some r)
    (h : ¬(ticking s ∧ escalates r s ∧ r.countdown ≤ 1)) : eventEscalation i s = s := by
  unfold eventEscalation; rw [hr]; exact if_neg h

/-- A countdown that ends raises the tier, reloads the countdown and is announced (R140). -/
theorem eventEscalation_of_due (hr : recordAt i s = some r) (h : ticking s ∧ escalates r s ∧ r.countdown ≤ 1) :
    eventEscalation i s = alertsChanged [noticeOf i r.raised r.state.notice s] (putRecord i (some r.raised) s) := by
  have counted : escalateSlot i ([], s) =
      ([noticeOf i r.raised r.state.notice s], putRecord i (some r.raised) s) := by
    unfold escalateSlot; dsimp only; rw [hr]; dsimp only
    rw [if_neg (by simp [h.2.1]), if_pos h.2.2, noticeOf_putRecord]; rfl
  unfold eventEscalation; rw [hr]; dsimp only; rw [if_pos h, counted]

end Sys2Proof.Machine

open Sys2Proof Sys2Proof.Machine

/-- Settles O25: the record's countdown ends at this tick event or nothing happens. -/
theorem escalationRaisesTheTier : Obligations.EscalationRaisesTheTier := by
  intro p q i quiet given
  refine ⟨fun empty => quiet.unchanged q (eventEscalation_of_noRecord empty), ?_⟩
  intro r hr due
  have due_iff : ticking p ∧ escalates r p ∧ r.countdown ≤ 1 ↔ due := by
    rw [escalates_iff]; simp [ticking, due, and_assoc]
  refine ⟨fun now => ?_, fun later => quiet.unchanged q (eventEscalation_of_notDue hr (mt due_iff.mp later))⟩
  have still : (putRecord i (some r.raised) p).HoldsGiven := holdsGiven_putRecord hr rfl given
  exact quiet.runs_still_as q (eventEscalation_of_due hr (due_iff.mpr now))
    ((alertsChanged_quiet _ still).trans quiet.2)

end

section
/-! The counter snapshot (R162, R184). -/

namespace Sys2Proof.Machine

theorem manageSnapshot_of_range {tag : Byte} {body : List Byte} (h : body.length ≠ 1) (s : Gx24) :
    manageSnapshot tag body s = replyPlain tag opSnapshot .range [] s := by
  unfold manageSnapshot; split
  · exact absurd rfl h
  · rfl

end Sys2Proof.Machine

open Sys2Proof Sys2Proof.Machine

/-- Settles O56: the copy, the clear and the reply are the frame's whole effect, and they give no notice. -/
theorem snapshotCopiesAndClears : Obligations.SnapshotCopiesAndClears := by
  intro p q tag quiet own t answer
  have still (code : ReplyCode) {s : Gx24} (h : s.work = []) : (answer code s).work = [] := (sendUp_work ..).trans h
  exact ⟨fun _ => quiet.takes_still_as own q rfl (still .ok quiet.2),
    fun _ len => quiet.takes_still_as own q (manageSnapshot_of_range len t) (still .range quiet.2)⟩

end

section
/-! How a TICK frame moves the clock (R167, R168): it is LOCKED without silence, the tick number becomes the frame's, and
nothing that the frame brings about moves it again. -/

namespace Sys2Proof.Machine

variable {s t : Gx24} {n : Word}

/-! ### What the counts of a tick event leave of the clock (R167) -/

theorem forRows_gc {k : Nat} {f : Fin k → Gx24 → Gx24} (hf : ∀ i s, (f i s).gc = s.gc) (s : Gx24) :
    (forRows f s).gc = s.gc := forRows_keeps (P := fun t => t.gc = s.gc) (fun i t h => (hf i t).trans h) rfl

theorem countExhibit_gc (e : Fin 16) (s : Gx24) : (countExhibit e s).gc = s.gc := by
  unfold countExhibit; dsimp only; repeat' split
  all_goals rfl

theorem countRunner_gc (e : Fin 16) (s : Gx24) : (countRunner e s).gc = s.gc := by
  unfold countRunner; dsimp only; repeat' split
  all_goals rfl

theorem countClaims_gc (a : Fin 8) (s : Gx24) : (countClaims a s).gc = s.gc :=
  forList_keeps (P := fun t : Gx24 => t.gc = s.gc) (fun c t h => by split; exacts [h, h]) rfl

theorem countGuard_gc (a : Fin 8) (s : Gx24) : (countGuard a s).gc = s.gc := by
  unfold countGuard; dsimp only; repeat' split
  all_goals rfl

theorem countQuiet_gc (s : Gx24) : (countQuiet s).gc = s.gc := by
  unfold countQuiet; dsimp only; repeat' split
  all_goals rfl

theorem countIdle_gc (e : Fin 16) (s : Gx24) : (countIdle e s).gc = s.gc := by
  unfold countIdle; dsimp only; repeat' split
  all_goals rfl

theorem escalateAll_gc (s : Gx24) : (escalateAll s).gc = s.gc := ((alertsOnlyBlind s).escalateAll (.refl s)).gc

/-- A tick event moves nothing of the clock but the tick number. -/
theorem tickEvent_gc (n : Word) (s : Gx24) : (tickEvent n s).gc = { s.gc with tick := n } := by
  unfold tickEvent; dsimp only
  rw [forRows_gc countIdle_gc, countQuiet_gc, escalateAll_gc,
    forRows_gc fun a s => (countGuard_gc a _).trans (countClaims_gc a s), forRows_gc countRunner_gc,
    forRows_gc countExhibit_gc]

theorem lockClock_gc (s : Gx24) : (lockClock s).gc = { s.gc with state := .locked, silence := 0 } := by
  unfold lockClock; dsimp only; split
  · exact ((alertsOnlyBlind _).endCondition keyTrunkLost (.refl _)).gc
  · rfl

theorem giveCommand_gc (c : GalleryCommand) (s : Gx24) : (giveCommand c s).gc = s.gc := by
  unfold giveCommand; repeat' split
  all_goals rfl

/-! ### The cues of a jump (R171) -/

/-- What firing, taking notices in between, and ordering or dropping entries keep, the cues of a TICK frame keep. -/
theorem fireJump_keeps {P : Gx24 → Prop} (fire : ∀ d {s}, P s → P (fireAt d s))
    (between : ∀ {s}, P s → P (settleSome s))
    (order : ∀ new {s}, P s → P { s with gc := { s.gc with schedule := orderCues new s.gc.schedule } })
    (drop : ∀ old k {s}, P s → P (dropSkipped old k s)) (old new : Word) (h : P s) : P (fireJump old new s) := by
  have inOrder (dues : List Word) {s : Gx24} (h : P s) : P (fireInOrder dues s) := by
    cases dues with
    | nil => exact h
    | cons d rest => exact forList_keeps (P := P) (fun d _ h => fire d (between h)) (fire d h)
  unfold fireJump; dsimp only; repeat' split
  exacts [inOrder _ (order new h), inOrder _ h, inOrder _ (drop old _ (between h))]

/-! ### The clock stays as the frame set it (R168) -/

/-- The clock is LOCKED without silence, at this tick number. -/
def LockedAt (n : Word) (s : Gx24) : Prop := s.gc.state = .locked ∧ s.gc.silence = 0 ∧ s.gc.tick = n

namespace LockedAt

theorem of_gc (h : LockedAt n s) (same : t.gc = s.gc) : LockedAt n t := by unfold LockedAt; rw [same]; exact h

theorem coreBlind (n : Word) : CoreBlind (LockedAt n) where
  frame e h := h.of_gc e.gc
  up _ h := h.of_gc (sendUp_gc ..)

/-- No notice that a block takes moves the clock. -/
theorem keptLive (n : Word) : KeptLive (LockedAt n) where
  toKept := (coreBlind n).kept (fun _ h => h) (fun _ _ _ h => h)
  changeMode e m h := (coreBlind n).changeMode e m h
  live _ _ _ := fun _ _ _ h => h

theorem fireAt (h : LockedAt n s) (due : Word) : LockedAt n (fireAt due s) :=
  forList_keeps (P := LockedAt n) (f := fun c s => post (.fireCue c) s) (fun _ _ h => h) h

theorem dropSkipped (h : LockedAt n s) (old : Word) (k : Nat) : LockedAt n (dropSkipped old k s) :=
  forList_keeps (P := LockedAt n)
    (fun _ _ h => (keptLive n).countMiss ((keptLive n).growExhibit _ _ _ ((keptLive n).reportCue _ _ _ _ h))) h

theorem fireJump (h : LockedAt n s) (old new : Word) : LockedAt n (fireJump old new s) :=
  fireJump_keeps (P := LockedAt n) (fun d _ h => h.fireAt d) (keptLive n).settleSome (fun _ _ h => h)
    (fun old k _ h => h.dropSkipped old k) old new h

theorem takeTick (n : Word) (c : GalleryCommand) (s : Gx24) : LockedAt n (takeTick n c s) := by
  have given : LockedAt n (giveCommand c (tickEvent n (lockClock s))) := by
    unfold LockedAt; rw [giveCommand_gc, tickEvent_gc, lockClock_gc]; exact ⟨rfl, rfl, rfl⟩
  have reported {t : Gx24} (h : LockedAt n t) : LockedAt n (sendStatus t) :=
    (keptLive n).missed 0 ((keptLive n).up _ h)
  unfold Machine.takeTick; dsimp only; split
  exacts [reported ((keptLive n).settle given), reported ((keptLive n).settle (given.fireJump _ _))]

end LockedAt

end Sys2Proof.Machine
end

section
/-! A TICK frame where nothing counts and no cue is scheduled (R153, R167, R168): the tick event leaves every timer as it is, and
the frame's command is the one notice there can be. -/

namespace Sys2Proof.Machine

variable {s u : Gx24} {n : Word}

/-! ### The command codes (11.2, R181) -/

theorem galleryCommand_ofCode_of_le {b : Byte} (h : 3 ≤ b.toNat) : GalleryCommand.ofCode b = none := by
  obtain ⟨k, code⟩ := Nat.exists_eq_add_of_le' h
  unfold GalleryCommand.ofCode; rw [code]; rfl

theorem galleryCommand_ofCode_of_lt {b : Byte} (h : b.toNat < 3) : ∃ c, GalleryCommand.ofCode b = some c := by
  have code : b.toNat = 0 ∨ b.toNat = 1 ∨ b.toNat = 2 := by omega
  unfold GalleryCommand.ofCode
  obtain is | is | is := code <;> rw [is] <;> exact ⟨_, rfl⟩

theorem handleTick_of_code {b : Byte} {c : GalleryCommand} (h : GalleryCommand.ofCode b = some c) (n : Word) (s : Gx24) :
    handleTick n b s = takeTick n c s := by unfold handleTick; rw [h]

theorem handleTick_of_noCode {b : Byte} (h : 3 ≤ b.toNat) (n : Word) (s : Gx24) :
    handleTick n b s = growTrunk .frameErrors s := by
  unfold handleTick; rw [galleryCommand_ofCode_of_le h]; rfl

/-! ### A tick event that nothing counts (R167) -/

theorem countExhibit_of_still {e : Fin 16} (queue : (exhibitOf e s).queue = [])
    (warm : (exhibitOf e s).activity ≠ .cooldown) : countExhibit e s = s := by
  have aged : modExhibit e (fun x => { x with queue := x.queue.map QueueEntry.aged }) s = s :=
    modExhibit_eq_self (by rw [queue, List.map_nil, ← queue])
  unfold countExhibit; dsimp only; rw [aged, if_neg warm]

theorem countRunner_of_still {e : Fin 16} (wait : (runnerOf e s).state ≠ .waitTicks)
    (referral : (runnerOf e s).state ≠ .waitVerdict) : countRunner e s = s := by
  unfold countRunner; dsimp only; split
  exacts [absurd ‹_› wait, absurd ‹_› referral, rfl, rfl, rfl, rfl, rfl]

theorem countClaims_of_unclaimed {a : Fin 8} (h : (axisOf a s).claims = []) : countClaims a s = s := by
  have lowered : modAxis a (fun x => { x with claims := x.claims.map fun c => { c with timeLeft := c.timeLeft - 1 } }) s = s :=
    modAxis_eq_self (by rw [h, List.map_nil, ← h])
  unfold countClaims; dsimp only; rw [lowered, h, forList_nil]

theorem countGuard_of_closed {a : Fin 8} (h : (axisOf a s).guardOpen = false) : countGuard a s = s :=
  if_pos (.inr (by rw [h]; rfl))

theorem countIdle_of_still {e : Fin 16} (h : idleCounts e s = false) : countIdle e s = s := if_neg (by simp [h])

theorem escalateAll_of_none (h : ∀ i r, recordAt i s = some r → escalates r s = false) : escalateAll s = s := by
  have slot (i : Fin 64) : escalateSlot i ([], s) = ([], s) := by
    unfold escalateSlot; dsimp only; split
    · rfl
    · next r hr => rw [h i r hr]; rfl
  unfold escalateAll; rw [forRows_id slot]; rfl

theorem counts_of_nothingCounts (h : s.NothingCounts) : forRows (n := 16) countIdle (countQuiet (escalateAll
    (forRows (n := 8) (fun a s => countGuard a (countClaims a s))
      (forRows (n := 16) countRunner (forRows (n := 16) countExhibit s))))) = s := by
  obtain ⟨exhibits, axes, quiet, records⟩ := h
  choose queue warm idle wait referral using exhibits
  have walked : forRows (n := 8) (fun a s => countGuard a (countClaims a s)) s = s := forRows_id fun a => by
    obtain ⟨unclaimed, closed⟩ := axes a
    rw [countClaims_of_unclaimed unclaimed, countGuard_of_closed closed]
  rw [forRows_id fun e => countExhibit_of_still (queue e) (warm e),
    forRows_id fun e => countRunner_of_still (wait e) (referral e), walked, escalateAll_of_none records,
    show countQuiet s = s from if_neg quiet, forRows_id fun e => countIdle_of_still (idle e)]

theorem tickEvent_of_nothingCounts (h : s.NothingCounts) (n : Word) :
    tickEvent n s = { s with gc := { s.gc with tick := n } } :=
  counts_of_nothingCounts (s := { s with gc := { s.gc with tick := n } }) h

/-! ### A jump over an empty schedule (R171) -/

theorem fireAt_of_noCues (h : s.gc.schedule = []) (due : Word) : fireAt due s = s := by
  unfold fireAt takeCues; rw [h]; dsimp only [List.filter_nil, forList_nil]; rw [← h]

theorem dropSkipped_of_noCues (h : s.gc.schedule = []) (old : Word) (k : Nat) : dropSkipped old k s = s := by
  unfold dropSkipped takeCues; rw [h]; dsimp only [List.filter_nil, forList_nil]; rw [← h]

theorem ordered_of_noCues (h : s.gc.schedule = []) (new : Word) :
    { s with gc := { s.gc with schedule := orderCues new s.gc.schedule } } = s := by
  rw [h, show orderCues new [] = [] from rfl, ← h]

/-- With no entry to fire a jump is what it keeps of the notices that it lets be taken on the way. -/
theorem fireJump_keeps_of_noCues {P : Gx24 → Prop} (empty : ∀ {s}, P s → s.gc.schedule = [])
    (between : ∀ {s}, P s → P (settleSome s)) (old new : Word) (h : P s) : P (fireJump old new s) :=
  fireJump_keeps (P := P) (fun d _ h => (fireAt_of_noCues (empty h) d).symm ▸ h) between
    (fun new _ h => (ordered_of_noCues (empty h) new).symm ▸ h)
    (fun old k _ h => (dropSkipped_of_noCues (empty h) old k).symm ▸ h) old new h

/-- A step of at most 1, or one that goes back, lets no notice be taken on the way. -/
theorem fireJump_of_noCues {old new : Word} (h : s.gc.schedule = [])
    (short : (new - old).toNat ≤ 1 ∨ 30000 < (new - old).toNat) : fireJump old new s = s := by
  have one (d : Word) : fireInOrder [d] s = s := fireAt_of_noCues h d
  unfold fireJump ticksAhead; dsimp only; split
  · rw [ordered_of_noCues h, one]
  · have step : (new - old).toNat = 1 := by omega
    rw [if_pos (by omega), step]; exact one _

/-! ### The frame's command (R153, R154) -/

/-- The clock is LOCKED without silence at this tick number, and all else stands. -/
def Gx24.lockedAt (n : Word) (s : Gx24) : Gx24 :=
  { s with gc := { s.gc with state := .locked, silence := 0, tick := n } }

theorem tickEvent_lockClock (counts : s.NothingCounts) (land : s.gc.state ≠ .island) (n : Word) :
    tickEvent n (lockClock s) = s.lockedAt n := by
  have locked : lockClock s = { s with gc := { s.gc with state := .locked, silence := 0 } } := by
    unfold lockClock; simp [land]
  rw [locked, tickEvent_of_nothingCounts (s := { s with gc := { s.gc with state := .locked, silence := 0 } }) counts]; rfl

theorem takeTick_of_nothingCounts (counts : s.NothingCounts) (land : s.gc.state ≠ .island) (n : Word)
    (c : GalleryCommand) : takeTick n c s = sendStatus (settle
      (if s.gc.state = .unsynced then giveCommand c (s.lockedAt n)
        else fireJump s.gc.tick n (giveCommand c (s.lockedAt n)))) := by
  unfold takeTick; dsimp only; rw [tickEvent_lockClock counts land]; simp only [decide_eq_true_eq]

theorem settleSome_of_empty (h : s.work = []) : settleSome s = s := by
  unfold settleSome settleLimit settleSomeWith; exact if_pos h

/-- A command that would not change the gallery leaves nothing but STATUS to give. -/
theorem takeTick_of_needless {c : GalleryCommand} (counts : s.NothingCounts) (empty : s.gc.schedule = [])
    (land : s.gc.state ≠ .island) (still : s.work = []) (needless : giveCommand c (s.lockedAt n) = s.lockedAt n) :
    takeTick n c s = sendStatus (s.lockedAt n) := by
  have jumped : fireJump s.gc.tick n (s.lockedAt n) = s.lockedAt n :=
    fireJump_keeps_of_noCues (P := (· = s.lockedAt n)) (fun h => h ▸ empty)
      (fun h => h ▸ settleSome_of_empty (s := s.lockedAt n) still) _ _ rfl
  rw [takeTick_of_nothingCounts counts land, needless, jumped, ite_self, settle_of_empty (s := s.lockedAt n) still]

theorem giveCommand_needless {b : Byte}
    (h : b = 0#8 ∨ (b = 1#8 ∧ s.ac.gallery ≠ .closed) ∨ (b = 2#8 ∧ s.ac.gallery = .closed)) :
    ∃ c, GalleryCommand.ofCode b = some c ∧ giveCommand c s = s := by
  obtain rfl | ⟨rfl, isOpen⟩ | ⟨rfl, closed⟩ := h
  exacts [⟨.none, rfl, rfl⟩, ⟨.opened, rfl, if_neg isOpen⟩, ⟨.close, rfl, if_pos closed⟩]

/-! ### The opening (R153) -/

/-- The gallery is OPEN, its quiet timer reloaded and its idle timers these. -/
def Gx24.openedWith (s : Gx24) (x : Tbl 16 Nat) : Gx24 :=
  { s with ac := { s.ac with gallery := .opened, quiet := s.tp.quietReload, idle := x } }

/-- The gallery opens with the quiet timer and every idle timer reloaded, and all else stands. -/
theorem openGallery_eq (s : Gx24) :
    openGallery s = s.openedWith (tmake fun e => (exhibitOf e s).record.idleReload) := by
  have walk : forRows (n := 16) reloadIdle (s.openedWith s.ac.idle) =
      s.openedWith (forRows (n := 16) (fun e x => tput x e (exhibitOf e s).record.idleReload) s.ac.idle) :=
    List.foldl_hom (f := s.openedWith) (g₂ := fun s e => reloadIdle e s) fun _ _ => rfl
  rw [show openGallery s = forRows (n := 16) reloadIdle (s.openedWith s.ac.idle) from rfl, walk, forRows_tput]

/-- The part with its record of free choices at this place (assumption 2). -/
def Gx24.drawn (cs : List Nat) (k : Nat) (s : Gx24) : Gx24 := { s with choices := cs, choicePoint := k }

theorem openChoice_drawn (s : Gx24) : ∃ cs k, (openChoice s).2 = s.drawn cs k := by
  unfold openChoice; split
  exacts [⟨_, s.choicePoint, rfl⟩, ⟨s.choices, _, rfl⟩]

/-- What a free choice keeps, and taking a notice that waits, taking some of them keeps. -/
theorem settleSome_keeps_of_drawn {P : Gx24 → Prop} (draw : ∀ {s} cs k, P s → P (s.drawn cs k))
    (take : ∀ {s}, s.work ≠ [] → P s → P (deliverOne s)) (h : P s) : P (settleSome s) := by
  suffices ∀ n s, P s → P (settleSomeWith n s) from this _ _ h
  intro n
  induction n with
  | zero => exact fun _ h => h
  | succ n ih =>
    intro s h
    obtain ⟨cs, k, chosen⟩ := openChoice_drawn s
    have drawn : P (openChoice s).2 := chosen ▸ draw cs k h
    unfold settleSomeWith; dsimp only; split
    · exact h
    · next waiting =>
      split
      · split
        exacts [drawn, ih _ (take (by rw [chosen]; exact waiting) drawn)]
      · exact ih _ (take waiting h)

/-- An OPEN has been given to `s`, and it waits or has been taken, whatever free choices have been drawn. -/
def Opening (s u : Gx24) : Prop :=
  ∃ cs k, u = (post (.gallery true) s).drawn cs k ∨ u = (openGallery s).drawn cs k

/-- The OPEN that waits, taken in a CLOSED gallery. -/
theorem deliver_open (still : s.work = []) (closed : s.ac.gallery = .closed) (cs : List Nat) (k : Nat) :
    deliver (.gallery true) { (post (.gallery true) s).drawn cs k with work := [] } = (openGallery s).drawn cs k := by
  have alone : { (post (.gallery true) s).drawn cs k with work := [] } = s.drawn cs k := by
    unfold post Gx24.drawn; rw [← still]
  have opens : galleryCommand true (s.drawn cs k) = openGallery (s.drawn cs k) := by
    unfold galleryCommand; rw [show (s.drawn cs k).ac.gallery = .closed from closed]
  rw [alone, show deliver (.gallery true) (s.drawn cs k) = _ from opens, openGallery_eq, openGallery_eq]; rfl

theorem openGallery_work (s : Gx24) : (openGallery s).work = s.work := by rw [openGallery_eq]; rfl

namespace Opening

theorem schedule (k : Opening s u) : u.gc.schedule = s.gc.schedule := by
  obtain ⟨cs, k, rfl | rfl⟩ := k
  · rfl
  · rw [openGallery_eq]; rfl

theorem deliverOne (still : s.work = []) (closed : s.ac.gallery = .closed) (waiting : u.work ≠ []) (k : Opening s u) :
    Opening s (deliverOne u) := by
  obtain ⟨cs, k, rfl | rfl⟩ := k
  · refine ⟨cs, k, .inr ?_⟩
    rw [deliverOne_single (w := .gallery true) (congrArg (· ++ _) still), deliver_open still closed]
  · exact absurd ((openGallery_work s).trans still) waiting

theorem settleSome (still : s.work = []) (closed : s.ac.gallery = .closed) (k : Opening s u) :
    Opening s (settleSome u) :=
  settleSome_keeps_of_drawn (P := Opening s)
    (fun cs k h => by obtain ⟨_, _, rfl | rfl⟩ := h; exacts [⟨cs, k, .inl rfl⟩, ⟨cs, k, .inr rfl⟩])
    (fun waiting h => h.deliverOne still closed waiting) k

/-- When every notice has been taken, the gallery is open. -/
theorem settle (still : s.work = []) (closed : s.ac.gallery = .closed) (k : Opening s u) :
    settle u = (openGallery s).drawn u.choices u.choicePoint := by
  have taken (cs : List Nat) (k : Nat) : ((openGallery s).drawn cs k).work = [] := (openGallery_work s).trans still
  obtain ⟨cs, k, rfl | rfl⟩ := k
  · rw [settle_lone (w := .gallery true) (congrArg (· ++ _) still) (by rw [deliver_open still closed]; exact taken _ _),
      deliver_open still closed]; rfl
  · exact settle_of_empty (taken cs k)

end Opening

/-- OPEN in a CLOSED gallery: it opens before STATUS, and free choices are drawn only where the tick number jumps forward by 2 or
more (R167, R175; assumption 2). -/
theorem takeTick_opens (counts : s.NothingCounts) (empty : s.gc.schedule = []) (land : s.gc.state ≠ .island)
    (still : s.work = []) (closed : s.ac.gallery = .closed) (n : Word) : ∃ cs k,
      takeTick n .opened s = sendStatus ((openGallery (s.lockedAt n)).drawn cs k) ∧
      (s.gc.state = .unsynced ∨ (n - s.gc.tick).toNat ≤ 1 ∨ 30000 < (n - s.gc.tick).toNat →
        cs = s.choices ∧ k = s.choicePoint) := by
  have given : giveCommand .opened (s.lockedAt n) = post (.gallery true) (s.lockedAt n) := if_pos closed
  have waits : Opening (s.lockedAt n) (post (.gallery true) (s.lockedAt n)) := ⟨s.choices, s.choicePoint, .inl rfl⟩
  have jumped : Opening (s.lockedAt n) (fireJump s.gc.tick n (post (.gallery true) (s.lockedAt n))) :=
    fireJump_keeps_of_noCues (P := Opening (s.lockedAt n)) (fun k => k.schedule.trans empty)
      (fun k => k.settleSome (s := s.lockedAt n) still closed) _ _ waits
  rw [takeTick_of_nothingCounts counts land, given]
  by_cases unsynced : s.gc.state = .unsynced
  · rw [if_pos unsynced, waits.settle (s := s.lockedAt n) still closed]
    exact ⟨_, _, rfl, fun _ => ⟨rfl, rfl⟩⟩
  · rw [if_neg unsynced, jumped.settle (s := s.lockedAt n) still closed]
    refine ⟨_, _, rfl, fun short => ?_⟩
    rw [fireJump_of_noCues (s := post (.gallery true) (s.lockedAt n)) empty (short.resolve_left unsynced)]
    exact ⟨rfl, rfl⟩

end Sys2Proof.Machine

open Sys2Proof Sys2Proof.Machine

/-- Settles O43: no notice moves the clock that the frame has locked, and where nothing counts the frame's command is the only
notice there is. -/
theorem tickLocksTheClockAndGivesStatus : Obligations.TickLocksTheClockAndGivesStatus := by
  intro p q number command quiet t locked reported
  have taken {s : Gx24} (h : handleTick number command t = reported s) (still : s.work = []) :
      exec (.tick number command) ⟨p, q⟩ = .next ⟨reported s, q⟩ :=
    quiet.runs_still_as q (f := takeBroadcast (handleTick number command)) h ((sendUp_work ..).trans still)
  refine ⟨fun noCode => quiet.runs_still_as q (handleTick_of_noCode noCode number t) quiet.2, fun code => ?_,
    fun counts empty land => ⟨fun needless => ?_, fun opens closed => ?_⟩⟩
  · obtain ⟨c, named⟩ := galleryCommand_ofCode_of_lt code
    have fixed : LockedAt number (settle (handleTick number command t)) := by
      rw [handleTick_of_code named]; exact (LockedAt.keptLive number).settle (.takeTick number c t)
    exact ⟨_, quiet.runs q (takeBroadcast (handleTick number command)), fixed⟩
  · obtain ⟨c, named, nothing⟩ := giveCommand_needless (s := t.lockedAt number) needless
    exact taken ((handleTick_of_code named number t).trans
      (takeTick_of_needless (s := t) counts empty land quiet.2 nothing)) quiet.2
  · obtain ⟨cs, k, opened, undrawn⟩ := takeTick_opens (s := t) counts empty land quiet.2 closed number
    refine ⟨cs, k, taken ?_ quiet.2, undrawn⟩
    rw [handleTick_of_code (c := .opened) (by rw [opens]; rfl), opened, openGallery_eq]; rfl

end

section
/-! Properties of the clock alone: what the taking of notices keeps of them, and the cue schedule, which every step keeps
bounded and without two entries of one exhibit and due tick (R172, R173). -/

namespace Sys2Proof.Machine

variable {s t : Gx24}

/-! ### Properties of the clock alone -/

theorem coreBlind_ofClock (Q : Clock → Prop) : CoreBlind (fun s => Q s.gc) where
  frame e h := e.gc ▸ h
  up f h := (sendUp_gc f _).symm ▸ h

/-- No block moves the clock when it takes a notice, but for the count of cues missed. -/
theorem keptLive_ofClock {Q : Clock → Prop} (missed : ∀ {g : Clock} n, Q g → Q { g with missed := n }) :
    KeptLive (fun s => Q s.gc) where
  toKept := (coreBlind_ofClock Q).kept (fun n h => missed n h) (fun _ _ _ h => h)
  changeMode e m h := (coreBlind_ofClock Q).changeMode e m h
  live _ _ _ := fun _ _ _ h => h

theorem coldReset_gc (n : Option Serial) (s : Gx24) : (coldReset n s).gc = .cold := by
  have blind : AlertBlind (fun t => t.gc = .cold) := (coreBlind_ofClock (· = .cold)).alertBlind
  have cold (n : Serial) : (coldBlocks n s).gc = .cold := rfl
  cases n with
  | none => exact cold s.tp.node
  | some n =>
    unfold coldReset releaseReset; dsimp only; split
    exacts [blind.setPower (blind.raise keyEstop (cold n)), cold n]

theorem warmBlocks_schedule (s : Gx24) : (warmBlocks s).gc.schedule = [] := by
  obtain ⟨x, h⟩ := warmBlocks_frame s; rw [h]; rfl

/-! ### The law of the schedule (R172, R173) -/

namespace ScheduleLaw

theorem of_subperm (h : ScheduleLaw s) (k : t.gc.schedule.Subperm s.gc.schedule) : ScheduleLaw t := by
  have ⟨cues, perm, sub⟩ := k
  exact ⟨k.length_le.trans h.1, (perm.map _).nodup_iff.mp (h.2.sublist (sub.map _))⟩

theorem of_schedule (h : ScheduleLaw s) (same : t.gc.schedule = s.gc.schedule) : ScheduleLaw t :=
  h.of_subperm (same ▸ .refl _)

theorem of_noCues (empty : s.gc.schedule = []) : ScheduleLaw s := by
  unfold ScheduleLaw; rw [empty]; exact ⟨Nat.zero_le _, .nil⟩

theorem sendUp (h : ScheduleLaw s) (f : UpFrame) : ScheduleLaw (sendUp f s) := h.of_schedule (by rw [sendUp_gc])

/-- An entry replaced by one of its own exhibit and due tick (R173). -/
theorem replaced (h : ScheduleLaw s) (c : CueEntry) : ScheduleLaw { s with gc := { s.gc with
    schedule := s.gc.schedule.map fun d => if d.names c.exhibit c.due then c else d } } := by
  have key (d : CueEntry) : let d' := if d.names c.exhibit c.due then c else d
      (d'.exhibit, d'.due) = (d.exhibit, d.due) := by
    dsimp only; split
    · next named => obtain ⟨he, hd⟩ := CueEntry.names_iff.mp named; rw [he, hd]
    · rfl
  refine ⟨(List.length_map ..).trans_le h.1, ?_⟩
  rw [List.map_map]
  exact (List.map_congr_left fun d _ => key d) ▸ h.2

/-- An entry put in its place where the schedule has room and holds none of its exhibit and due tick (R172, R173). -/
theorem entered (h : ScheduleLaw s) {c : CueEntry} (now : Word) (room : s.gc.schedule.length < scheduleDepth)
    (fresh : s.gc.schedule.find? (fun d => d.names c.exhibit c.due) = none) :
    ScheduleLaw { s with gc := { s.gc with schedule := insertCue now c s.gc.schedule } } := by
  have perm := insertCue_perm now c s.gc.schedule
  refine ⟨perm.length_eq.trans_le room, (perm.map _).nodup_iff.mpr (List.nodup_cons.mpr ⟨fun clash => ?_, h.2⟩)⟩
  obtain ⟨d, hd, same⟩ := List.mem_map.mp clash
  obtain ⟨he, hdue⟩ := Prod.mk.inj same
  exact List.find?_eq_none.mp fresh d hd (CueEntry.names_iff.mpr ⟨he, hdue⟩)

theorem scheduleCue (h : ScheduleLaw s) (c : CueEntry) : ScheduleLaw (scheduleCue c s) := by
  cases found : s.gc.schedule.find? (fun d => d.names c.exhibit c.due) with
  | some old => rw [scheduleCue_replaces found]; exact ((h.replaced c).sendUp _).sendUp _
  | none =>
    by_cases room : s.gc.schedule.length < scheduleDepth
    · rw [scheduleCue_enters found room]; exact (h.entered _ room found).sendUp _
    · rw [scheduleCue_full found (Nat.not_lt.mp room)]; exact h.sendUp _

end ScheduleLaw

theorem keptLive_scheduleLaw : KeptLive ScheduleLaw :=
  keptLive_ofClock (Q := fun g =>
    g.schedule.length ≤ scheduleDepth ∧ (g.schedule.map fun c : CueEntry => (c.exhibit, c.due)).Nodup) fun _ h => h

theorem alertBlind_scheduleLaw : AlertBlind ScheduleLaw :=
  CoreBlind.alertBlind ⟨fun e h => h.of_schedule (congrArg (·.schedule) e.gc), fun f h => h.sendUp f⟩

theorem ScheduleLaw.assertEstop (h : ScheduleLaw s) : ScheduleLaw (assertEstop s) := by
  by_cases asserted : s.estop = true
  · rw [show Machine.assertEstop s = s from if_pos asserted]; exact h
  · rw [assertEstop_of_released (by simpa using asserted)]
    have raised : ScheduleLaw s.estopRaised :=
      alertBlind_scheduleLaw.setPower (alertBlind_scheduleLaw.raise keyEstop (h.of_schedule rfl))
    have cut : ScheduleLaw s.estopRaised.drivesOff :=
      forRows_keeps (P := ScheduleLaw) (f := fun a s => modAxis a Axis.driveOff s) (fun _ _ h => h.of_schedule rfl) raised
    exact forRows_keeps (P := ScheduleLaw) (fun a _ h => keptLive_scheduleLaw.faultAxis a .estop h) cut

theorem keptAll_scheduleLaw : KeptAll ScheduleLaw where
  toKeptLive := keptLive_scheduleLaw
  clock _ same h := h.of_schedule same
  cues _ fewer h := h.of_subperm fewer
  cueTaken c h := h.scheduleCue c
  trunk _ _ h := h.of_schedule rfl
  sent h := by
    unfold sendHead; split
    exacts [h, h.of_schedule rfl]
  classes _ h := h.of_schedule rfl
  neighbours _ h := alertBlind_scheduleLaw.render (h.of_schedule rfl)
  escalateAll h := alertBlind_scheduleLaw.escalateAll h
  escalation i h := by
    unfold eventEscalation; dsimp only; repeat' split
    exacts [alertBlind_scheduleLaw.alertsChanged _ (alertBlind_scheduleLaw.escalateSlot i ([], _) h), h, h]
  power h := h.of_schedule rfl
  asserted h := h.assertEstop
  released _ h := alertBlind_scheduleLaw.setPower (alertBlind_scheduleLaw.endCondition keyEstop (h.of_schedule rfl))
  cold n _ := .of_noCues (by rw [coldReset_gc]; rfl)
  held _ _ := .of_noCues rfl
  warm _ := .of_noCues (warmBlocks_schedule _)

end Sys2Proof.Machine

open Sys2Proof Sys2Proof.Machine

/-- Settles O8: an entry enters only where there is room and none of its exhibit and due tick, or replaces the one there is;
everything else leaves the schedule, orders it anew, or takes entries out of it. -/
theorem scheduleStaysUniqueAndBounded : Obligations.ScheduleStaysUniqueAndBounded :=
  fun _ _ h ht => keptAll_scheduleLaw.step h ht

end

section
/-! The local timer (R166, R169, R170): what a tick event of its own and the entry of the island make of the clock. -/

namespace Sys2Proof.Machine

variable {s : Gx24} {n : Word}

/-! ### A tick event of the local timer (R170) -/

/-- The entries due at a tick leave the schedule, and nothing else of the clock moves. -/
theorem fireAt_gc (due : Word) (s : Gx24) :
    (fireAt due s).gc = { s.gc with schedule := s.gc.schedule.filter fun c => !decide (c.due = due) } :=
  forList_keeps (P := fun t : Gx24 => t.gc = _) (f := fun c s => post (.fireCue c) s) (fun _ _ h => h) rfl

theorem fireAt_of_noneDue {due : Word} (h : ∀ c ∈ s.gc.schedule, c.due ≠ due) : fireAt due s = s := by
  have due_none : s.gc.schedule.filter (fun c => decide (c.due = due)) = [] :=
    List.filter_eq_nil_iff.mpr fun c hc => by simpa using h c hc
  have rest_all : s.gc.schedule.filter (fun c => !decide (c.due = due)) = s.gc.schedule :=
    List.filter_eq_self.mpr fun c hc => by simpa using h c hc
  unfold fireAt takeCues; dsimp only; rw [due_none, rest_all]; rfl

theorem localTick_eq (s : Gx24) : localTick s = fireAt (s.gc.tick + 1#16) (tickEvent (s.gc.tick + 1#16) s) := by
  unfold localTick fireInOrder; dsimp only [forList_nil]

theorem localTick_of_nothingCounts (counts : s.NothingCounts) (none_due : ∀ c ∈ s.gc.schedule, c.due ≠ s.gc.tick + 1#16) :
    localTick s = { s with gc := { s.gc with tick := s.gc.tick + 1#16 } } := by
  rw [localTick_eq, tickEvent_of_nothingCounts counts]
  exact fireAt_of_noneDue (s := { s with gc := { s.gc with tick := s.gc.tick + 1#16 } }) none_due

/-! ### The island (R169) -/

/-- The clock is ISLAND with its silence full, at this tick number. -/
def IslandAt (n : Word) (s : Gx24) : Prop := s.gc.state = .island ∧ s.gc.silence = islandSilence ∧ s.gc.tick = n

namespace IslandAt

theorem keptLive (n : Word) : KeptLive (IslandAt n) :=
  keptLive_ofClock (Q := fun g => g.state = .island ∧ g.silence = islandSilence ∧ g.tick = n) fun _ h => h

theorem localTick (h : IslandAt n s) : IslandAt (n + 1#16) (localTick s) := by
  obtain ⟨island, silence, rfl⟩ := h
  unfold IslandAt; rw [localTick_eq, fireAt_gc, tickEvent_gc]
  exact ⟨island, silence, rfl⟩

/-- The first island tick is the next number: neither TRUNK-LOST nor the referrals' defaults move the clock. -/
theorem enterIsland (s : Gx24) : IslandAt (s.gc.tick + 1#16) (enterIsland s) :=
  have k := keptLive s.gc.tick
  IslandAt.localTick (k.settle (k.islandDefaults (k.raise keyTrunkLost ⟨rfl, rfl, rfl⟩)))

end IslandAt

/-! ### The two commands (R166, R169, R170) -/

theorem localExpiry_of_unsynced (h : s.gc.state = .unsynced) : localExpiry s = s := by unfold localExpiry; rw [h]

theorem localExpiry_of_island (h : s.gc.state = .island) : localExpiry s = localTick s := by unfold localExpiry; rw [h]

theorem localExpiry_of_locked (h : s.gc.state = .locked) : localExpiry s =
    if islandSilence ≤ s.gc.silence + 1 then enterIsland s
    else { s with gc := { s.gc with silence := s.gc.silence + 1 } } := by unfold localExpiry; rw [h]

end Sys2Proof.Machine

open Sys2Proof Sys2Proof.Machine

/-- Settles O44: the clock's state says what an expiry does, and the twentieth silent one enters the island, whose clock no
notice moves. -/
theorem localTimerCountsSilenceOrTicks : Obligations.LocalTimerCountsSilenceOrTicks := by
  refine fun p q quiet => ⟨fun unsynced => quiet.unchanged q (localExpiry_of_unsynced unsynced), fun locked few => ?_,
    fun early => quiet.unchanged q (f := eventIslandEntry) (if_neg early), fun locked full => ?_,
    fun island counts none_due => ?_⟩
  · exact quiet.runs_still_as q ((localExpiry_of_locked locked).trans (if_neg (Nat.not_le.mpr few))) quiet.2
  · have expired : localExpiry p = enterIsland p := (localExpiry_of_locked locked).trans (if_pos full)
    have entered : eventIslandEntry p = enterIsland p := if_pos ⟨locked, full⟩
    have runs : exec .islandEntry ⟨p, q⟩ = .next ⟨settle (enterIsland p), q⟩ :=
      (quiet.runs q eventIslandEntry).trans (by rw [entered])
    refine ⟨((quiet.runs q localExpiry).trans (by rw [expired])).trans runs.symm, _, runs, ?_⟩
    exact (IslandAt.keptLive _).settle (.enterIsland p)
  · exact quiet.runs_still_as q
      ((localExpiry_of_island island).trans (localTick_of_nothingCounts counts none_due)) quiet.2

end

section
/-! CUE_CANCEL (R174): the entry it names is the one that leaves, or there is none. -/

namespace Sys2Proof.Machine

variable {s : Gx24} {exhibit : Byte} {due : Word}

theorem cancelCue_range
    (h : 16 ≤ exhibit.toNat ∨ ∀ c ∈ s.gc.schedule, ¬(c.exhibit.val = exhibit.toNat ∧ c.due = due)) :
    cancelCue exhibit due s = sendUp (.cueReport exhibit due none .range s.gc.tick) s := by
  by_cases small : exhibit.toNat < 16
  · have unnamed := find?_names_none (e := ⟨exhibit.toNat, small⟩) (due := due) (l := s.gc.schedule) fun c hc named =>
      h.resolve_left (Nat.not_le.mpr small) c hc ⟨congrArg Fin.val named.1, named.2⟩
    unfold cancelCue; rw [show indexOf 16 exhibit = some ⟨exhibit.toNat, small⟩ from dif_pos small]
    dsimp only; rw [unnamed]; rfl
  · unfold cancelCue; rw [indexOf_of_le (Nat.not_lt.mp small)]; rfl

theorem cancelCue_removes {before after : List CueEntry} {c : CueEntry} (h : s.gc.schedule = before ++ c :: after)
    (only : ∀ d ∈ before ++ after, ¬(d.exhibit = c.exhibit ∧ d.due = c.due)) :
    cancelCue (byteOf c.exhibit.val) c.due s =
      sendUp (.cueReport (byteOf c.exhibit.val) c.due (some c.tag) .cancelled s.gc.tick)
        { s with gc := { s.gc with schedule := before ++ after } } := by
  have named : c.names c.exhibit c.due = true := CueEntry.names_iff.mpr ⟨rfl, rfl⟩
  have unnamed {d : CueEntry} (hd : d ∈ before ++ after) : d.names c.exhibit c.due = false :=
    Bool.eq_false_iff.mpr fun n => only d hd (CueEntry.names_iff.mp n)
  have found : s.gc.schedule.find? (fun d => d.names c.exhibit c.due) = some c := by
    rw [h, List.find?_append, find?_names_none fun d hd => only d (List.mem_append_left _ hd), Option.none_or,
      List.find?_cons_of_pos (p := fun d : CueEntry => d.names c.exhibit c.due) named]
  have left : s.gc.schedule.filter (fun d => !d.names c.exhibit c.due) = before ++ after := by
    have kept : (before ++ after).filter (fun d => !d.names c.exhibit c.due) = before ++ after :=
      List.filter_eq_self.mpr fun d hd => by rw [unnamed hd]; rfl
    rw [h, List.filter_append, List.filter_cons_of_neg (by rw [named]; decide), ← List.filter_append, kept]
  unfold cancelCue; rw [indexOf_byteOf]; dsimp only; rw [found]; dsimp only [takeCues]; rw [left]; rfl

end Sys2Proof.Machine

open Sys2Proof Sys2Proof.Machine

/-- Settles O46: the command finds the one entry of its exhibit and due tick, or none. -/
theorem cueCancelRemovesItsEntry : Obligations.CueCancelRemovesItsEntry := by
  intro p q exhibit due quiet own t
  have still {f : UpFrame} {s : Gx24} (h : s.work = p.work) : (sendUp f s).work = [] :=
    (sendUp_work ..).trans (h.trans quiet.2)
  refine ⟨fun h => quiet.takes_still_as own q (cancelCue_range (s := t) h) (still rfl), ?_⟩
  rintro before after c parts rfl rfl only
  exact quiet.takes_still_as own q (cancelCue_removes (s := t) parts only) (still rfl)

end

section
/-! The up queue stays bounded (R182): a frame enters only while fewer than 64 wait. -/

namespace Sys2Proof.Machine

/-- What looks neither at ESTOP_N nor at the axes, nor at the Alert Unit, stays when ESTOP_N becomes asserted (R125). -/
theorem AlertBlind.assertEstop {P : Gx24 → Prop} {s : Gx24} (k : AlertBlind P) (live : KeptLive P)
    (pin : ∀ {s}, P s → P { s with estop := true }) (axis : ∀ {s} a f, P s → P (modAxis a f s)) (h : P s) :
    P (assertEstop s) := by
  by_cases asserted : s.estop = true
  · rw [show Machine.assertEstop s = s from if_pos asserted]; exact h
  · rw [assertEstop_of_released (by simpa using asserted)]
    have raised : P s.estopRaised := k.setPower (k.raise keyEstop (pin h))
    have cut : P s.estopRaised.drivesOff :=
      forRows_keeps (P := P) (f := fun a s => modAxis a Axis.driveOff s) (fun a _ h => axis a _ h) raised
    exact forRows_keeps (P := P) (fun a _ h => live.faultAxis a .estop h) cut

namespace UpQueueBounded

variable {s t : Gx24}

theorem congr (h : UpQueueBounded s) (same : t.tp.upQueue = s.tp.upQueue) : UpQueueBounded t := by
  unfold UpQueueBounded; rw [same]; exact h

theorem of_noFrames (empty : s.tp.upQueue = []) : UpQueueBounded s := by
  unfold UpQueueBounded; rw [empty]; exact Nat.zero_le _

theorem sendUp (h : UpQueueBounded s) (f : UpFrame) : UpQueueBounded (sendUp f s) := by
  by_cases room : s.tp.upQueue.length < 64
  · rw [sendUp_room f room]; exact List.length_append.trans_le room
  · rw [sendUp_full f room]; exact h.congr rfl

/-- Each outcome of a CUE frame that enters or replaces an entry reports by up frames alone (R173). -/
theorem scheduleCue (h : UpQueueBounded s) (c : CueEntry) : UpQueueBounded (scheduleCue c s) := by
  have entered (cues : List CueEntry) : UpQueueBounded { s with gc := { s.gc with schedule := cues } } := h
  cases found : s.gc.schedule.find? (fun d => d.names c.exhibit c.due) with
  | some old => rw [scheduleCue_replaces found]; exact ((entered _).sendUp _).sendUp _
  | none =>
    by_cases room : s.gc.schedule.length < scheduleDepth
    · rw [scheduleCue_enters found room]; exact (entered _).sendUp _
    · rw [scheduleCue_full found (Nat.not_lt.mp room)]; exact h.sendUp _

theorem sendHead (h : UpQueueBounded s) : UpQueueBounded (sendHead s) := by
  unfold Machine.sendHead; split
  · exact h
  · next f rest waiting => exact (Nat.le_succ _).trans (waiting ▸ h : (f :: rest).length ≤ upQueueDepth)

theorem coreBlind : CoreBlind UpQueueBounded where
  frame e h := h.congr (congrArg (·.upQueue) e.tp)
  up f h := h.sendUp f

theorem alertBlind : AlertBlind UpQueueBounded := coreBlind.alertBlind

theorem keptLive : KeptLive UpQueueBounded where
  toKept := coreBlind.kept (fun _ h => h) (fun _ _ _ h => h)
  changeMode e m h := coreBlind.changeMode e m h
  live _ _ _ := fun _ _ _ h => h

/-- The cold queue is empty, and takes the notice of an ESTOP raised at the release (R128, R187). -/
theorem coldReset (n : Option Serial) (s : Gx24) : UpQueueBounded (coldReset n s) := by
  have cold (n : Serial) : UpQueueBounded (coldBlocks n s) := of_noFrames rfl
  cases n with
  | none => exact (cold s.tp.node).congr rfl
  | some n =>
    unfold Machine.coldReset releaseReset; dsimp only; split
    exacts [alertBlind.setPower (alertBlind.raise keyEstop (cold n)), (cold n).congr rfl]

/-- A warm reset keeps the up queue (R188). -/
theorem warmBlocks (h : UpQueueBounded s) : UpQueueBounded (warmBlocks s) := by
  obtain ⟨x, reset⟩ := warmBlocks_frame s
  exact h.congr (by rw [reset]; rfl)

theorem keptAll : KeptAll UpQueueBounded where
  toKeptLive := keptLive
  clock _ _ h := h.congr rfl
  cues _ _ h := h.congr rfl
  cueTaken c h := h.scheduleCue c
  trunk _ same h := h.congr same
  sent h := h.sendHead
  classes _ h := h.congr rfl
  neighbours _ h := alertBlind.render (h.congr rfl)
  escalateAll h := alertBlind.escalateAll h
  escalation i h := by
    unfold eventEscalation; dsimp only; repeat' split
    exacts [alertBlind.alertsChanged _ (alertBlind.escalateSlot i ([], _) h), h, h]
  power h := h.congr rfl
  asserted h := alertBlind.assertEstop keptLive (fun h => h) (fun _ _ h => h) h
  released _ h := alertBlind.setPower (alertBlind.endCondition keyEstop (h.congr rfl))
  cold n _ := coldReset n _
  held _ _ := of_noFrames rfl
  warm h := h.warmBlocks

end UpQueueBounded

end Sys2Proof.Machine

open Sys2Proof Sys2Proof.Machine

/-- Settles O4: the queue grows only by a frame sent up, which enters only where there is room. -/
theorem upQueueStaysBounded : Obligations.UpQueueStaysBounded :=
  fun _ _ h ht => UpQueueBounded.keptAll.step h ht

end

section
/-! Table writes that name no row of their table, or whose contents do not decode (R184, R185, R191): each owner answers RANGE
and leaves the part as it is. -/

namespace Sys2Proof.Machine

variable {row : Word} {c : List Byte}

/-- What names no row, or does not decode, is not read as a row and its contents. -/
theorem not_read_of_range {α : Type} {n : Nat} {i : Fin n} {contents : Option α} {x : α}
    (h : n ≤ row.toNat ∨ contents = none) (named : indexOfWord n row = some i) (decoded : contents = some x) : False := by
  obtain beyond | none := h
  · rw [indexOfWord_of_le beyond] at named; cases named
  · rw [none] at decoded; cases decoded

theorem optIndexOf_of_le {n : Nat} {b : Byte} (h : n ≤ b.toNat) (present : b ≠ 0xFF#8) : optIndexOf n b = none := by
  unfold optIndexOf; rw [if_neg present, indexOf_of_le h]; rfl

/-- A row that is named is in its table, so it is the contents, if of one byte, that hold neither an index nor its absent
code. -/
theorem optIndexOf_of_range {n k : Nat} {i : Fin n} {b : Byte}
    (h : n ≤ row.toNat ∨ ∀ b, c = [b] → k ≤ b.toNat ∧ b ≠ 0xFF#8) (named : indexOfWord n row = some i) (single : c = [b]) :
    optIndexOf k b = none := by
  obtain beyond | outside := h
  · rw [indexOfWord_of_le beyond] at named; cases named
  · exact optIndexOf_of_le (outside b single).1 (outside b single).2

/-! ### The branch and presses (R1, R7, R24, R25) -/

theorem writeStationRow_of_range (h : 24 ≤ row.toNat ∨ stationRowOf c = none) (s : Gx24) :
    writeStationRow row c s = (.range, s) := by
  unfold writeStationRow; split
  · next named decoded => exact (not_read_of_range h named decoded).elim
  · rfl

theorem writeSchedule_of_range (h : 32 ≤ row.toNat ∨ ∀ b, c = [b] → 24 ≤ b.toNat ∧ b ≠ 0xFF#8) (s : Gx24) :
    writeSchedule row c s = (.range, s) := by
  unfold writeSchedule; split
  · next named => rw [optIndexOf_of_range h named rfl]
  · rfl

theorem writeInputMap_of_range (h : 192 ≤ row.toNat ∨ ∀ b, c = [b] → 128 ≤ b.toNat ∧ b ≠ 0xFF#8) (s : Gx24) :
    writeInputMap row c s = (.range, s) := by
  unfold writeInputMap; split
  · next named => rw [optIndexOf_of_range h named rfl]
  · rfl

theorem writeTriggerRow_of_range (h : 128 ≤ row.toNat ∨ triggerRowOf c = none) (s : Gx24) :
    writeTriggerRow row c s = (.range, s) := by
  unfold writeTriggerRow; split
  · next named decoded => exact (not_read_of_range h named decoded).elim
  · rfl

/-! ### Chains and exhibits (R40, R64) -/

theorem writeAction_of_range (h : 512 ≤ row.toNat ∨ actionContentsOf c = none) (s : Gx24) :
    writeAction row c s = (.range, s) := by
  unfold writeAction; split
  · next named decoded => exact (not_read_of_range h named decoded).elim
  · rfl

theorem writeExhibitConfig_of_range (h : 16 ≤ row.toNat ∨ exhibitRecordOf c = none) (s : Gx24) :
    writeExhibitConfig row c s = (.range, s) := by
  unfold writeExhibitConfig; split
  · next named decoded => exact (not_read_of_range h named decoded).elim
  · rfl

/-! ### Motion (R88 to R90) -/

theorem writeAxisParams_of_range (h : 8 ≤ row.toNat ∨ axisRowOf c = none) (s : Gx24) :
    writeAxisParams row c s = (.range, s) := by
  unfold writeAxisParams; split
  · next named decoded => exact (not_read_of_range h named decoded).elim
  · rfl

theorem writeProgram_of_range (h : 64 ≤ row.toNat ∨ programOf c = none) (s : Gx24) :
    writeProgram row c s = (.range, s) := by
  unfold writeProgram; split
  · next named decoded => exact (not_read_of_range h named decoded).elim
  · rfl

theorem writeSegment_of_range (h : 256 ≤ row.toNat ∨ segmentOf c = none) (s : Gx24) :
    writeSegment row c s = (.range, s) := by
  unfold writeSegment; split
  · next named decoded => exact (not_read_of_range h named decoded).elim
  · rfl

/-! ### Alerts and settings (R130, R138, R186) -/

theorem writeAlertClass_of_range (h : 16 ≤ row.toNat ∨ ∀ cls, alertClassOf cls c = none) (s : Gx24) :
    writeAlertClass row c s = (.range, s) := by
  unfold writeAlertClass; split
  · rfl
  · next cls named =>
    split
    · rfl
    · next decoded => exact (not_read_of_range (h.imp_right (· cls)) named decoded).elim

theorem writeNeighbours_of_range (h : 4 ≤ row.toNat ∨ ∀ b, c = [b] → 16 ≤ b.toNat) (s : Gx24) :
    writeNeighbours row c s = (.range, s) := by
  unfold writeNeighbours; split
  · next named =>
    obtain beyond | outside := h
    · rw [indexOfWord_of_le beyond] at named; cases named
    · exact if_pos (outside _ rfl)
  · rfl

theorem writeSettings_of_range (h : row ≠ 0#16 ∨ settingsOf c = none) (s : Gx24) : writeSettings row c s = (.range, s) := by
  unfold writeSettings; split
  · rfl
  · next decoded => exact if_pos (h.resolve_right (by rw [decoded]; exact Option.some_ne_none _))

end Sys2Proof.Machine

open Sys2Proof Sys2Proof.Machine

/-- Settles O49: each owner answers RANGE and changes nothing, so the reply carries the row as it stands. -/
theorem writesOutOfRangeAreRefused : Obligations.WritesOutOfRangeAreRefused := by
  intro p q tag row c quiet own refused
  exact ⟨fun h => quiet.writes own q tag 1 row (writeStationRow_of_range h _) quiet.2,
    fun h => quiet.writes own q tag 2 row (writeSchedule_of_range h _) quiet.2,
    fun h => quiet.writes own q tag 3 row (writeInputMap_of_range h _) quiet.2,
    fun h => quiet.writes own q tag 4 row (writeTriggerRow_of_range h _) quiet.2,
    fun h => quiet.writes own q tag 6 row (writeAction_of_range h _) quiet.2,
    fun h => quiet.writes own q tag 7 row (writeExhibitConfig_of_range h _) quiet.2,
    fun h => quiet.writes own q tag 8 row (writeAxisParams_of_range h _) quiet.2,
    fun h => quiet.writes own q tag 9 row (writeProgram_of_range h _) quiet.2,
    fun h => quiet.writes own q tag 10 row (writeSegment_of_range h _) quiet.2,
    fun h => quiet.writes own q tag 11 row (writeAlertClass_of_range h _) quiet.2,
    fun h => quiet.writes own q tag 12 row (writeNeighbours_of_range h _) quiet.2,
    fun h => quiet.writes own q tag 15 row (writeSettings_of_range h _) quiet.2⟩

end

section
/-! Table operations that change nothing (R184, R185, R191): TABLE-READ, TABLE-WRITE to a table that is read only or does not
exist, bodies too short to name a row, and operations the part does not know. -/

namespace Sys2Proof.Machine

variable {s p : Gx24} {tag id r1 r0 : Byte} {rest : List Byte} {n : Nat}

/-! ### Replies -/

theorem byteOf_toNat (b : Byte) : byteOf b.toNat = b :=
  BitVec.eq_of_toNat_eq (toNat_byteOf (by omega))

/-- The reply to a table operation carries the table and the row that the body names. -/
theorem replyTable_named (tag op : Byte) (code : ReplyCode) (id : Byte) (row : Word) (s : Gx24) :
    replyTable tag op code id.toNat row s =
      sendUp (.mgmtReply tag op code id row ((readRow id.toNat row.toNat s).getD [])) s := by
  unfold replyTable; rw [byteOf_toNat]

/-- A frame for this part that is answered, and does nothing else. -/
theorem Gx24.Quiet.answers {handle : Gx24 → Gx24} {f : UpFrame} (h : p.Quiet) (own : p.Addressed) (q : List Instr)
    (answered : handle (growTrunk .framesTaken p) = sendUp f (growTrunk .framesTaken p)) :
    State.act (takeFrame handle) ⟨p, q⟩ = .next ⟨sendUp f (growTrunk .framesTaken p), q⟩ :=
  h.takes_still_as own q answered ((sendUp_work ..).trans h.2)

/-! ### Reads (R185) -/

theorem readTable_named (rest : List Byte) : readTable tag (id :: r1 :: r0 :: rest) s =
    sendUp (.mgmtReply tag 1#8
      (if (readRow id.toNat (wordOf r1 r0).toNat s).isSome && rest.isEmpty then .ok else .range) id (wordOf r1 r0)
      ((readRow id.toNat (wordOf r1 r0).toNat s).getD [])) s := replyTable_named ..

theorem readTable_of_row {c : List Byte} (h : readRow id.toNat (wordOf r1 r0).toNat s = some c) :
    readTable tag [id, r1, r0] s = sendUp (.mgmtReply tag 1#8 .ok id (wordOf r1 r0) c) s := by
  rw [readTable_named, h]; rfl

theorem readTable_of_noRow (h : readRow id.toNat (wordOf r1 r0).toNat s = none) :
    readTable tag [id, r1, r0] s = sendUp (.mgmtReply tag 1#8 .range id (wordOf r1 r0) []) s := by
  rw [readTable_named, h]; rfl

theorem readTable_long (x : Byte) (more : List Byte) : readTable tag (id :: r1 :: r0 :: x :: more) s =
    sendUp (.mgmtReply tag 1#8 .range id (wordOf r1 r0) ((readRow id.toNat (wordOf r1 r0).toNat s).getD [])) s := by
  rw [readTable_named, List.isEmpty_cons, Bool.and_false]; rfl

theorem readTable_short (h : rest.length ≤ 1) :
    readTable tag (id :: rest) s = sendUp (.mgmtReply tag 1#8 .range id 0#16 []) s := by
  match rest, h with
  | [], _ => rfl
  | [_], _ => rfl

/-! ### Writes that no owner takes (R185) -/

theorem readOnlyTables_contains_iff : readOnlyTables.contains n = true ↔ n = 5 ∨ n = 13 ∨ n = 14 ∨ n = 16 := by
  simp [readOnlyTables]

/-- The tables that do not exist have no owner and no rows. -/
theorem ownerWrite_of_noTable (h : n = 0 ∨ 16 < n) (row : Word) (c : List Byte) (s : Gx24) :
    ownerWrite n row c s = none := by
  obtain rfl | beyond := h
  · rfl
  · obtain ⟨k, rfl⟩ := Nat.exists_eq_add_of_le' beyond; rfl

theorem readRow_of_noTable (h : n = 0 ∨ 16 < n) (row : Nat) (s : Gx24) : readRow n row s = none := by
  obtain rfl | beyond := h
  · rfl
  · obtain ⟨k, rfl⟩ := Nat.exists_eq_add_of_le' beyond; rfl

theorem writeTable_readOnly (h : id.toNat = 5 ∨ id.toNat = 13 ∨ id.toNat = 14 ∨ id.toNat = 16) (c : List Byte) :
    writeTable tag (id :: r1 :: r0 :: c) s = sendUp (.mgmtReply tag 2#8 .readOnly id (wordOf r1 r0)
      ((readRow id.toNat (wordOf r1 r0).toNat s).getD [])) s :=
  (if_pos (readOnlyTables_contains_iff.mpr h)).trans (replyTable_named ..)

theorem writeTable_of_noTable (h : id.toNat = 0 ∨ 16 < id.toNat) (c : List Byte) :
    writeTable tag (id :: r1 :: r0 :: c) s = sendUp (.mgmtReply tag 2#8 .range id (wordOf r1 r0) []) s := by
  have writable : ¬readOnlyTables.contains id.toNat = true := fun ro => by
    have := readOnlyTables_contains_iff.mp ro; omega
  unfold writeTable; dsimp only
  rw [if_neg writable, ownerWrite_of_noTable h]; dsimp only
  rw [replyTable_named, readRow_of_noTable h]; rfl

theorem writeTable_short (h : rest.length ≤ 1) : writeTable tag (id :: rest) s = sendUp (.mgmtReply tag 2#8
    (if id.toNat = 5 ∨ id.toNat = 13 ∨ id.toNat = 14 ∨ id.toNat = 16 then .readOnly else .range) id 0#16 []) s := by
  have short : writeTable tag (id :: rest) s = replyShort tag opTableWrite
      (if readOnlyTables.contains id.toNat then .readOnly else .range) (id :: rest) s :=
    match rest, h with
    | [], _ => rfl
    | [_], _ => rfl
  rw [short]; simp only [readOnlyTables_contains_iff]; rfl

end Sys2Proof.Machine

open Sys2Proof Sys2Proof.Machine

/-- Settles O54: each of these frames is answered and has no other effect. -/
theorem readsAndUnknownOperationsAreAnswered : Obligations.ReadsAndUnknownOperationsAreAnswered := by
  intro p q tag quiet own t answer
  refine ⟨fun id r1 r0 c found => quiet.answers own q (readTable_of_row found),
    fun id r1 r0 none => quiet.answers own q (readTable_of_noRow none),
    fun id r1 r0 x more => quiet.answers own q (readTable_long x more),
    fun id part short => ⟨quiet.answers own q (readTable_short short), quiet.answers own q (writeTable_short short)⟩,
    quiet.answers own q rfl, quiet.answers own q rfl,
    fun id r1 r0 c readOnly => quiet.answers own q (writeTable_readOnly readOnly c),
    fun id r1 r0 c absent => quiet.answers own q (writeTable_of_noTable absent c),
    fun op body => quiet.answers own q rfl⟩

end

section
/-! Frames of the trunk (R180, R181, R190): escaped bytes read back, a whole frame is read as what was sent, and passes or
fails the four checks by its destination, its type and its length. -/

namespace Sys2Proof.Machine

variable {address type : Byte} {payload : List Byte} {node : Serial} {line : List Byte}

/-! ### Escapes (R190) -/

theorem delimiter_not_mem_escapeByte (b : Byte) : 0x7E#8 ∉ escapeByte b := by
  unfold escapeByte; split
  · next reserved => obtain rfl | rfl := reserved <;> decide
  · next plain => exact fun m => plain (.inl (List.mem_singleton.mp m).symm)

theorem unescape_escapeByte_append (b : Byte) (rest : List Byte) : unescape (escapeByte b ++ rest) = b :: unescape rest := by
  unfold escapeByte; split
  · show (b ^^^ 0x20#8 ^^^ 0x20#8) :: unescape rest = b :: unescape rest
    rw [BitVec.xor_assoc, BitVec.xor_self, BitVec.xor_zero]
  · next plain =>
    have unmarked : b ≠ 0x7D#8 := fun escape => plain (.inr escape)
    cases rest with
    | nil => exact if_neg unmarked
    | cons c rest => exact if_neg unmarked

theorem unescape_escaped (bytes : List Byte) : unescape (bytes.flatMap escapeByte) = bytes := by
  induction bytes with
  | nil => rfl
  | cons b bytes ih => rw [List.flatMap_cons, unescape_escapeByte_append, ih]

/-! ### Whole frames (R190) -/

/-- A frame as sent on the trunk to a destination, without the delimiter before it (11.3). -/
def sentTo (address type : Byte) (payload : List Byte) : List Byte :=
  (lineBytes ([address, type, byteOf payload.length] ++ payload)).drop 1

/-- A frame of a length that its length field can hold is read as it was sent. -/
theorem checkedFrame_sentTo (h : payload.length ≤ 255) :
    checkedFrame 3 (unescape (sentTo address type payload)) =
      some (address :: type :: byteOf payload.length :: payload) := by
  let body := address :: type :: byteOf payload.length :: payload
  let crc := wordBytes (crc16 body)
  have whole : body.length = 3 + (byteOf payload.length).toNat := by
    rw [toNat_byteOf h]; exact Nat.add_comm payload.length 3
  have read : unescape (sentTo address type payload) = body ++ crc := unescape_escaped _
  have complete : ¬(body ++ crc).length < 3 + (byteOf payload.length).toNat + 2 := by
    rw [List.length_append, whole]; exact Nat.lt_irrefl _
  have checks : ((body ++ crc).drop (3 + (byteOf payload.length).toNat)).take 2 = crc := by
    rw [List.drop_left' whole]; rfl
  have kept : (body ++ crc).take (3 + (byteOf payload.length).toNat) = body := List.take_left' whole
  rw [read]
  unfold checkedFrame
  rw [show (body ++ crc)[3 - 1]? = some (byteOf payload.length) from rfl]; dsimp only
  rw [if_neg complete, checks, kept, if_pos rfl]

/-! ### The four checks (R180) -/

theorem discardedBy_unread (h : checkedFrame 3 (unescape line) = none) : discardedBy node line = some .crcErrors := by
  unfold discardedBy; rw [h]

/-- The checks of a frame that was read. -/
theorem discardedBy_sentTo (h : payload.length ≤ 255) : discardedBy node (sentTo address type payload) =
    if 250 < payload.length then some .crcErrors
    else if address ≠ byteOf node.toNat ∧ address ≠ byteOf broadcast.toNat then some .foreignFrames
    else if !isDownType type ∨ (address = byteOf broadcast.toNat ∧ type ≠ 1#8) then some .typeErrors
    else if !lengthAgrees type payload.length then some .lengthErrors
    else none := by
  unfold discardedBy; rw [checkedFrame_sentTo h]; dsimp only; rw [toNat_byteOf h]; rfl

theorem discardedBy_long (long : 250 < payload.length) (sent : payload.length ≤ 255) :
    discardedBy node (sentTo address type payload) = some .crcErrors := by
  rw [discardedBy_sentTo sent, if_pos long]

section
variable (short : payload.length ≤ 250)
include short

theorem discardedBy_foreign (own : address ≠ byteOf node.toNat) (all : address ≠ byteOf broadcast.toNat) :
    discardedBy node (sentTo address type payload) = some .foreignFrames := by
  rw [discardedBy_sentTo (by omega), if_neg (Nat.not_lt.mpr short), if_pos ⟨own, all⟩]

variable (here : address = byteOf node.toNat ∨ address = byteOf broadcast.toNat)
include here

/-- A frame that has reached its destination has the checks of type and length before it. -/
theorem discardedBy_here : discardedBy node (sentTo address type payload) =
    if !isDownType type ∨ (address = byteOf broadcast.toNat ∧ type ≠ 1#8) then some .typeErrors
    else if !lengthAgrees type payload.length then some .lengthErrors
    else none := by
  have reached : ¬(address ≠ byteOf node.toNat ∧ address ≠ byteOf broadcast.toNat) := fun ⟨own, all⟩ => here.elim own all
  rw [discardedBy_sentTo (by omega), if_neg (Nat.not_lt.mpr short), if_neg reached]

theorem discardedBy_type (h : isDownType type = false ∨ (address = byteOf broadcast.toNat ∧ type ≠ 1#8)) :
    discardedBy node (sentTo address type payload) = some .typeErrors := by
  rw [discardedBy_here short here, if_pos (h.imp_left fun unknown => by rw [unknown]; rfl)]

variable (known : isDownType type = true) (tick : address = byteOf broadcast.toNat → type = 1#8)
include known tick

theorem discardedBy_typed : discardedBy node (sentTo address type payload) =
    if !lengthAgrees type payload.length then some .lengthErrors else none := by
  have typed : ¬(!isDownType type ∨ (address = byteOf broadcast.toNat ∧ type ≠ 1#8)) := by
    rintro (unknown | ⟨all, other⟩)
    exacts [absurd unknown (by rw [known]; decide), other (tick all)]
  rw [discardedBy_here short here, if_neg typed]

theorem discardedBy_length (disagrees : lengthAgrees type payload.length = false) :
    discardedBy node (sentTo address type payload) = some .lengthErrors := by
  rw [discardedBy_typed short here known tick, disagrees]; rfl

theorem discardedBy_none (agrees : lengthAgrees type payload.length = true) :
    discardedBy node (sentTo address type payload) = none := by
  rw [discardedBy_typed short here known tick, agrees]; rfl

end

/-! ### Commands (R181, 11.3) -/

variable {c : Instr}

/-- A payload that spells a command has a down type, and the length of that type. -/
theorem commandOf_agrees (h : commandOf type payload = some c) :
    isDownType type = true ∧ lengthAgrees type payload.length = true := by
  have code {n : Nat} (is : type.toNat = n) : type = BitVec.ofNat 8 n := by rw [← is, BitVec.ofNat_toNat, BitVec.setWidth_eq]
  unfold commandOf at h
  split at h
  case h_11 tag op body is => rw [code is]; exact ⟨rfl, decide_eq_true (Nat.le_add_left 2 body.length)⟩
  case h_12 => cases h
  all_goals next is => rw [code is]; exact ⟨rfl, rfl⟩

/-- A frame that is read and not discarded is the command that its type and payload spell. -/
theorem receive_of_passed {len : Byte} (passed : discardedBy node line = none)
    (read : checkedFrame 3 (unescape line) = some (address :: type :: len :: payload))
    (spells : commandOf type payload = some c) : receive node line = c := by
  unfold receive; rw [passed, read]; dsimp only; rw [spells]; rfl

theorem receive_sentTo (short : payload.length ≤ 250)
    (here : address = byteOf node.toNat ∨ address = byteOf broadcast.toNat)
    (tick : address = byteOf broadcast.toNat → type = 1#8) (spells : commandOf type payload = some c) :
    receive node (sentTo address type payload) = c := by
  obtain ⟨known, agrees⟩ := commandOf_agrees spells
  exact receive_of_passed (discardedBy_none short here known tick agrees) (checkedFrame_sentTo (by omega)) spells

/-- No other node number is sent as the broadcast destination is. -/
theorem byteOf_ne_broadcast (h : node ≠ broadcast) : byteOf node.toNat ≠ byteOf broadcast.toNat := fun same => by
  have value := congrArg BitVec.toNat same
  rw [toNat_byteOf (by omega), toNat_byteOf (by decide)] at value
  exact h (BitVec.eq_of_toNat_eq value)

end Sys2Proof.Machine

open Sys2Proof Sys2Proof.Machine

/-- Settles O13: escapes are undone byte by byte, and a whole frame of a spelled command passes the four checks. -/
theorem framesReachTheirCommand : Obligations.FramesReachTheirCommand := by
  refine ⟨fun bytes => ⟨fun sent => ?_, unescape_escaped bytes⟩, fun node type payload c own short spells => ⟨?_, ?_⟩⟩
  · obtain ⟨b, _, inside⟩ := List.mem_flatMap.mp sent
    exact delimiter_not_mem_escapeByte b inside
  · exact receive_sentTo short (.inl rfl) (fun all => absurd all (byteOf_ne_broadcast own)) spells
  · exact fun tick => receive_sentTo short (.inr rfl) (fun _ => tick) spells

end

section
/-! The Trunk Port's two commands that are no frames for an owner (R180, R182, R189): an up frame sent, and a down frame
discarded and counted. -/

namespace Sys2Proof.Machine

variable {p s : Gx24} {line : List Byte} {counter : TrunkCounter}

theorem sendHead_idle (h : s.tp.upQueue = []) : sendHead s = s := by unfold sendHead; rw [h]

theorem sendHead_waiting {f : UpFrame} {rest : List UpFrame} (h : s.tp.upQueue = f :: rest) :
    sendHead s = growTrunk .upFramesSent { s with trunkOut := f.line s.tp.node, tp := { s.tp with upQueue := rest } } := by
  unfold sendHead; rw [h]

/-- A discarded frame is counted by the check that it fails, and does nothing else (R180). -/
theorem Gx24.Quiet.discards (h : p.Quiet) (q : List Instr) (failed : discardedBy p.tp.node line = some counter) :
    exec (.downFrameDiscarded line) ⟨p, q⟩ = .next ⟨growTrunk counter p, q⟩ := by
  have counted : discardFrame line p = growTrunk counter p := by unfold discardFrame; rw [failed]
  rw [← counted]
  exact h.runs_still q (by rw [counted]; exact h.2)

end Sys2Proof.Machine

open Sys2Proof Sys2Proof.Machine

/-- Settles O58: the head is sent and leaves the queue, and a discarded frame is counted where its first failed check is. -/
theorem trunkSendsItsHeadAndCountsDiscards : Obligations.TrunkSendsItsHeadAndCountsDiscards := by
  refine ⟨fun p q quiet => ⟨fun empty => quiet.unchanged q (sendHead_idle empty), fun f rest waiting => ?_⟩,
    fun p q quiet => ⟨fun line unread => quiet.discards q (discardedBy_unread unread), fun address type payload => ?_⟩⟩
  · rw [← sendHead_waiting waiting]
    exact quiet.runs_still q (by rw [sendHead_waiting waiting]; exact quiet.2)
  · intro done
    exact ⟨fun long sent => quiet.discards q (discardedBy_long long sent), fun short =>
      ⟨fun own all => quiet.discards q (discardedBy_foreign short own all),
        fun here mistyped => quiet.discards q (discardedBy_type short here mistyped),
        fun here known tick disagrees => quiet.discards q (discardedBy_length short here known tick disagrees)⟩⟩

end

section
/-! The loaded tables of stations, presses, actions and exhibits (11.4, R191): a row's bytes read back as the row, and so in
every table that the head-end loads. -/

namespace Sys2Proof.Machine

/-! ### Fields (11.2) -/

theorem stationKind_ofCode_code (k : StationKind) : StationKind.ofCode k.code = some k := by cases k <;> rfl

theorem lampPattern_ofCode_code (p : LampPattern) : LampPattern.ofCode p.code = some p := by cases p <;> rfl

theorem rowClass_ofCode_code (k : RowClass) : RowClass.ofCode k.code = some k := by cases k <;> rfl

theorem rowEdge_ofCode_code (g : RowEdge) : RowEdge.ofCode g.code = some g := by cases g <;> rfl

theorem rowStyle_ofCode_code (y : RowStyle) : RowStyle.ofCode y.code = some y := by cases y <;> rfl

theorem manner_ofCode_code (m : Manner) : Manner.ofCode m.code = some m := by cases m <;> rfl

/-- No index is sent as the absent code of a 16-bit field is. -/
theorem ofNat_ne_absent {n : Nat} (h : n < 65535) : BitVec.ofNat 16 n ≠ 0xFFFF#16 := fun absent => by
  have value := congrArg BitVec.toNat absent
  rw [BitVec.toNat_ofNat, Nat.mod_eq_of_lt (by omega)] at value
  exact absurd value (Nat.ne_of_lt h)

theorem optActionOf_ofNat (a : Fin 512) : optActionOf (BitVec.ofNat 16 a.val) = some (some a) := by
  unfold optActionOf
  rw [if_neg (ofNat_ne_absent (by omega)), indexOfWord_ofNat (by decide)]; rfl

theorem linkOf_word (l : Link) : linkOf l.word = some l :=
  match l with
  | .to i => by
    show linkOf (BitVec.ofNat 16 i.val) = _
    unfold linkOf; rw [if_neg (ofNat_ne_absent (by omega)), indexOfWord_ofNat (by decide)]; rfl
  | .endOfChain => rfl

/-- The axes of a list stand from the first byte on, so that what is read are the axes (assumption 33). -/
theorem axisListOf_bytes {l : List (Fin 8)} (h : l.length ≤ 2) :
    axisListOf (optByte (l[0]?.map (·.val))) (optByte (l[1]?.map (·.val))) = some l := by
  unfold axisListOf
  rw [optIndexOf_optByte (by decide), optIndexOf_optByte (by decide)]
  match l, h with
  | [], _ => rfl
  | [_], _ => rfl
  | [_, _], _ => rfl

theorem statusLampOf_bytes (st : Fin 24) (out : Fin 8) :
    statusLampOf (byteOf st.val) (byteOf out.val) = some (some (st, out)) := by
  unfold statusLampOf
  rw [if_neg (byteOf_ne_absent (by omega)), indexOf_byteOf_small (by decide), indexOf_byteOf_small (by decide)]

theorem idleMaskOf_byte (m : IdleMask) : idleMaskOf m.byte = m := by
  obtain ⟨accepted, any, guard, chain⟩ := m
  cases accepted <;> cases any <;> cases guard <;> cases chain <;> decide

/-! ### Rows -/

theorem stationRowOf_bytes (r : StationRow) : stationRowOf r.bytes = some r := by
  obtain ⟨enabled, kind, zone, home, forward⟩ := r
  unfold stationRowOf StationRow.bytes; dsimp only
  rw [stationKind_ofCode_code, indexOf_byteOf_small (by decide), optIndexOf_optByte (by decide), flagOf_flagByte,
    flagOf_flagByte]

theorem triggerRowOf_bytes (r : TriggerRow) : triggerRowOf r.bytes = some r := by
  obtain ⟨exhibit, cls, edge, style, start⟩ := r
  have read (w : Word) (hw : optActionOf w = some start) :
      triggerRowOf [optByte (exhibit.map (·.val)), cls.code, edge.code, style.code, w.extractLsb' 8 8, w.extractLsb' 0 8] =
        some ⟨exhibit, cls, edge, style, start⟩ := by
    unfold triggerRowOf; dsimp only
    rw [optIndexOf_optByte (by decide), rowClass_ofCode_code, rowEdge_ofCode_code, rowStyle_ofCode_code, wordOf_extract, hw]
  cases start with
  | none => exact read _ rfl
  | some a => exact read _ (optActionOf_ofNat a)

theorem exhibitRecordOf_bytes {r : ExhibitRecord} (h : r.loadable = true) : exhibitRecordOf r.bytes = some r := by
  obtain ⟨zone, axes, idle, attract, depth, patience, cooldown, flood, mask, lamp⟩ := r
  simp only [ExhibitRecord.loadable, Bool.and_eq_true, decide_eq_true_eq] at h
  obtain ⟨⟨⟨⟨⟨hx, hi⟩, hd⟩, hp⟩, hc⟩, hf⟩ := h
  have read (w : Word) (st out : Byte) (hw : optActionOf w = some attract) (hl : statusLampOf st out = some lamp) :
      exhibitRecordOf [byteOf zone.val, optByte (axes[0]?.map (·.val)), optByte (axes[1]?.map (·.val)),
        (BitVec.ofNat 16 idle).extractLsb' 8 8, (BitVec.ofNat 16 idle).extractLsb' 0 8, w.extractLsb' 8 8, w.extractLsb' 0 8,
        byteOf depth, byteOf patience, byteOf cooldown, byteOf flood, mask.byte, st, out] =
      some ⟨zone, axes, idle, attract, depth, patience, cooldown, flood, mask, lamp⟩ := by
    unfold exhibitRecordOf; dsimp only
    rw [indexOf_byteOf_small (by decide), axisListOf_bytes hx, wordOf_extract w, hw, hl]; dsimp only
    rw [clampTo_wordOf (by decide) hi, clampTo_byte (by decide) hd, toNat_byteOf (within_le hp), toNat_byteOf (within_le hc),
      toNat_byteOf (within_le hf), idleMaskOf_byte]
  cases attract with
  | none =>
    cases lamp with
    | none => exact read _ _ _ rfl rfl
    | some x => exact read _ _ _ rfl (statusLampOf_bytes x.1 x.2)
  | some a =>
    cases lamp with
    | none => exact read _ _ _ (optActionOf_ofNat a) rfl
    | some x => exact read _ _ _ (optActionOf_ofNat a) (statusLampOf_bytes x.1 x.2)

/-- The five read-only bytes of an axis row are not looked at (R191). -/
theorem axisRowOf_axisBytes {x : Axis} (h : x.params.loadable = true) : axisRowOf x.bytes = some x.params := by
  obtain ⟨_, _, _, _, _, _, _, _, _, _, fields⟩ := x.params.bytes_fields
  have whole : x.params.bytes.length = 16 := congrArg List.length (fields _ _ _ _)
  calc axisRowOf x.bytes
    _ = axisRowOf (x.params.bytes ++ ([x.state.code] ++ intBytes (wholeCounts x.position) ++
          [x.programByte, flagByte x.clamped])) := by simp only [Axis.bytes, List.append_assoc]
    _ = axisParamsOf x.params.bytes := axisRowOf_append whole (.inr rfl)
    _ = axisRowOf x.params.bytes := (axisRowOf_whole whole).symm
    _ = some x.params := axisRowOf_bytes h

/-- The read-only fields of the settings row are not looked at (R186, R191). -/
theorem settingsOf_settingsBytes {s : Gx24} (h : s.tp.quietReload ≤ 65535) :
    settingsOf (settingsBytes s) = some (s.tp.period, s.tp.quietReload) :=
  calc settingsOf (settingsBytes s)
    _ = settingsOf (byteOf s.tp.period.val :: natBytes s.tp.quietReload) := rfl
    _ = some (s.tp.period, s.tp.quietReload) := settingsOf_bytes s.tp.period h

/-! ### Action entries (R64) -/

/-- An entry's bytes read as its kind, its operands and its two links. -/
theorem actionContentsOf_fields {k a b d e : Byte} {link stop : Word} :
    actionContentsOf (k :: [a, b, d, e] ++ wordBytes link ++ wordBytes stop) = actionOf k a b d e link stop := by
  refine (actionContentsOf_nine ..).trans ?_
  rw [wordOf_extract, wordOf_extract]

/-- An entry is read from its operands once its link has been. -/
theorem entry_of_link {f : Link → Option Action} {l : Link} {a : Action} (h : f l = some a) :
    ((linkOf l.word).bind f).map ActionContents.entry = some (.entry a) := by
  rw [linkOf_word]; exact congrArg (Option.map ActionContents.entry) h

theorem actionContentsOf_alert {c : Fin 16} (l : Link) (software : 8 ≤ c.val) :
    actionContentsOf (Action.alert c l).bytes = some (.entry (.alert c l)) := by
  refine actionContentsOf_fields.trans ?_
  show ((linkOf l.word).bind fun l => (indexOf 16 (byteOf c.val)).bind fun cls =>
    some (if 8 ≤ cls.val then ActionContents.entry (.alert cls l) else .hardwareAlert)) = _
  rw [linkOf_word, indexOf_byteOf]
  exact congrArg some (if_pos software)

theorem actionContentsOf_bytes {a : Action} (h : a.loadable = true) : actionContentsOf a.bytes = some (.entry a) := by
  cases a with
  | free => rfl
  | lamp st out p l =>
    refine actionContentsOf_fields.trans (entry_of_link ?_)
    rw [indexOf_byteOf_small (by decide), indexOf_byteOf_small (by decide), lampPattern_ofCode_code]; rfl
  | cue st n w l =>
    refine actionContentsOf_fields.trans (entry_of_link ?_)
    rw [indexOf_byteOf_small (by decide), flagOf_flagByte]; rfl
  | move a p m w l =>
    refine actionContentsOf_fields.trans (entry_of_link ?_)
    rw [indexOf_byteOf_small (by decide), indexOf_byteOf_small (by decide), runMode_ofCode_code, flagOf_flagByte]; rfl
  | haltAxis a m l =>
    refine actionContentsOf_fields.trans (entry_of_link ?_)
    rw [indexOf_byteOf_small (by decide), manner_ofCode_code]; rfl
  | wait n l =>
    refine actionContentsOf_fields.trans (entry_of_link ?_)
    rw [clampTo_byte (by decide) h]; rfl
  | pause l => exact actionContentsOf_fields.trans (entry_of_link rfl)
  | alert c l => exact actionContentsOf_alert l (of_decide_eq_true h)
  | refer tag n d l stop =>
    refine actionContentsOf_fields.trans (entry_of_link ?_)
    rw [clampTo_byte (by decide) h, verdict_ofCode_code]
    show (linkOf stop.word).bind (fun stop => some (Action.refer tag n d l stop)) = _
    rw [linkOf_word]; rfl
  | count u n l =>
    refine actionContentsOf_fields.trans (entry_of_link ?_)
    rw [indexOf_byteOf_small (by decide), clampTo_byte (by decide) h]; rfl

end Sys2Proof.Machine

open Sys2Proof Sys2Proof.Machine

/-- Settles O14: each field of a row reads back from its bytes, and read-only bytes are not looked at. -/
theorem loadedRowsReadBack : Obligations.LoadedRowsReadBack :=
  ⟨stationRowOf_bytes, optIndexOf_optByte (by decide), optIndexOf_optByte (by decide), triggerRowOf_bytes,
    fun _ => actionContentsOf_bytes, fun _ => exhibitRecordOf_bytes, fun _ => axisRowOf_bytes, fun _ => axisRowOf_axisBytes,
    fun _ => programOf_bytes, fun _ => segmentOf_bytes, fun _ _ => alertClassOf_bytes, fun z => (bitTable_bitsOf_four z).2,
    fun _ => settingsOf_settingsBytes⟩

end

section
/-! The machine's step and the one form that every command has: an operation on the part, and another while RESET_N is
asserted. -/

namespace Sys2Proof.Machine

theorem step_cons (c : Instr) (p : Gx24) (q : List Instr) : step ⟨p, c :: q⟩ = exec c ⟨p, q⟩ := rfl

/-- With no command waiting a step takes what was left in flight (assumption 4). -/
theorem step_nil (p : Gx24) : step ⟨p, []⟩ = .next ⟨settle p, []⟩ := rfl

/-- What a command does to the part is the same whatever waits behind it: only the commands of the two pins act while RESET_N
is asserted (R187; assumption 7). -/
theorem exec_eq_actOr (c : Instr) : ∃ held f, ∀ s, exec c s = State.actOr held f s := by
  cases c with
  | coldReset straps => exact ⟨fun p => settle (coldReset straps p), coldReset straps, fun _ => rfl⟩
  | estopAsserted => exact ⟨estopHeld true, assertEstop, fun _ => rfl⟩
  | estopReleased => exact ⟨estopHeld false, releaseEstop, fun _ => rfl⟩
  | _ => exact ⟨id, _, fun _ => rfl⟩

end Sys2Proof.Machine

open Sys2Proof Sys2Proof.Machine

/-- Settles O1: a quiet part has no notice in flight to take. -/
theorem stepRunsTheFrontCommand : Obligations.StepRunsTheFrontCommand :=
  ⟨step_cons, fun p quiet => by rw [step_nil, settle_of_empty quiet.2]⟩

/-- Settles O2: a command's form answers a next state and leaves the queue. -/
theorem noCommandStopsThePart : Obligations.NoCommandStopsThePart := fun c p q => by
  obtain ⟨held, f, form⟩ := exec_eq_actOr c
  exact ⟨_, (form ⟨p, q⟩).trans (State.actOr_eq held f ⟨p, q⟩)⟩

end

section
/-! What shows of the part: a property of the stories, the exhibits' modes, the station rows, the beacon images and the zone
patterns alone is kept by everything but the few operations that move one of these. -/

namespace Sys2Proof.Machine

/-- The two parts agree on the trigger rows and the stories, the exhibits' modes, the station rows, the beacon images and the
zone patterns. -/
structure SameView (s t : Gx24) : Prop where
  triggers : t.pd.rows = s.pd.rows
  stories : t.pd.continuation = s.pd.continuation
  modes : ∀ e, (exhibitOf e t).mode = (exhibitOf e s).mode
  rows : t.bs.rows = s.bs.rows
  beacons : ∀ st, (stationOf st t).beacon = (stationOf st s).beacon
  patterns : t.au.patterns = s.au.patterns

/-- The place in the sweep stands, and no poll is awaited that was not. -/
structure SameSweep (s t : Gx24) : Prop where
  slot : t.bs.nextSlot = s.bs.nextSlot
  awaited : s.bs.awaiting = none → t.bs.awaiting = none

/-- The tables that `SameView` and `SameSweep` look at. -/
def Gx24.viewed (s : Gx24) :=
  (s.pd.rows, s.pd.continuation, s.exhibits, s.bs.rows, s.bs.stations, s.au.patterns, s.bs.nextSlot, s.bs.awaiting)

theorem SameSweep.of_viewed {s t : Gx24} (same : t.viewed = s.viewed) : SameSweep s t := by
  simp only [Gx24.viewed, Prod.mk.injEq] at same
  obtain ⟨-, -, -, -, -, -, slot, awaiting⟩ := same
  exact ⟨slot, fun none => awaiting.trans none⟩

theorem SameView.of_viewed {s t : Gx24} (same : t.viewed = s.viewed) : SameView s t := by
  simp only [Gx24.viewed, Prod.mk.injEq] at same
  obtain ⟨triggers, stories, exhibits, rows, stations, patterns, -, -⟩ := same
  exact ⟨triggers, stories, fun e => by rw [exhibitOf_congr exhibits], rows, fun st => by unfold stationOf; rw [stations],
    patterns⟩

theorem stationOf_startSweep (st : Fin 24) (s : Gx24) :
    stationOf st (startSweep s) = { stationOf st s with stepped := false } := tget_tmake _ st

theorem sameView_startSweep (s : Gx24) : SameView s (startSweep s) := by
  refine ⟨?_, ?_, fun _ => ?_, ?_, fun st => by rw [stationOf_startSweep], ?_⟩ <;> simp only [startSweep, exhibitOf]

/-- The updates that keep `P`: those that leave the view alone, and each that moves it. -/
structure KeptView (P : Gx24 → Prop) : Prop where
  frame : ∀ {s t}, SameView s t → SameSweep s t → P s → P t
  render : ∀ {s}, P s → P (render s)
  clearStories : ∀ {s} e, P s → P (clearStories e s)
  storePause : ∀ {s} r l, P s → P (storePause r l s)
  startIndex : ∀ {s} r, P s → P (startIndex r s).2
  changeMode : ∀ {s} e m, P s → P (changeMode e m s)

namespace KeptView

variable {P : Gx24 → Prop} {s : Gx24} (k : KeptView P)
include k

/-! ### Updates that do not show -/

theorem touch {t : Gx24} (h : P s) (same : t.viewed = s.viewed) : P t :=
  k.frame (.of_viewed same) (.of_viewed same) h

theorem up (f : UpFrame) (h : P s) : P (sendUp f s) := k.touch h (by simp [Gx24.viewed])

theorem branch (x : Branch) (h : P s) (rows : x.rows = s.bs.rows := by rfl)
    (stations : x.stations = s.bs.stations := by rfl) (slot : x.nextSlot = s.bs.nextSlot := by rfl)
    (awaited : s.bs.awaiting = none → x.awaiting = none := by simp +contextual) : P { s with bs := x } :=
  k.frame (s := s) ⟨rfl, rfl, fun _ => rfl, rows, fun st => by unfold stationOf; rw [stations], rfl⟩ ⟨slot, awaited⟩ h

/-- A station changed in anything but its beacon. -/
theorem modStation (st : Fin 24) (f : Station → Station) (h : P s) (hf : ∀ x, (f x).beacon = x.beacon := by intro _; rfl) :
    P (modStation st f s) :=
  k.frame (s := s) ⟨rfl, rfl, fun _ => rfl, rfl, fun st' => by
    simp only [stationOf, modStation_bs, tget_tmod]; split <;> simp_all, rfl⟩ ⟨rfl, id⟩ h

/-- An exhibit changed in anything but its mode. -/
theorem modExhibit (e : Fin 16) (f : Exhibit → Exhibit) (h : P s) (hf : ∀ x, (f x).mode = x.mode := by intro _; rfl) :
    P (modExhibit e f s) :=
  k.frame (s := s) ⟨rfl, rfl, fun e' => by rw [exhibitOf_modExhibit]; split <;> simp_all, rfl, fun _ => rfl, rfl⟩
    ⟨rfl, id⟩ h

theorem modRunner (e : Fin 16) (f : Runner → Runner) (h : P s) : P (modRunner e f s) := k.touch h rfl
theorem modAxis (a : Fin 8) (f : Axis → Axis) (h : P s) : P (modAxis a f s) := k.touch h rfl
theorem clock (g : Clock) (h : P s) : P { s with gc := g } := k.touch h rfl
theorem trunk (x : Trunk) (h : P s) : P { s with tp := x } := k.touch h rfl
theorem setPower (h : P s) : P (setPower s) := k.touch h rfl
theorem putRecord (i : Fin 64) (r : Option AlertRecord) (h : P s) : P (putRecord i r s) := k.touch h rfl
theorem takeSlot (i : Fin 64) (r : AlertRecord) (h : P s) : P (takeSlot i r s) := k.touch h rfl

theorem growStation (st : Fin 24) (c : StationCounter) (n : Nat) (h : P s) : P (growStation st c n s) :=
  k.touch h rfl
theorem growExhibit (e : Fin 16) (c : ExhibitCounter) (n : Nat) (h : P s) : P (growExhibit e c n s) :=
  k.touch h rfl
theorem growAxis (a : Fin 8) (c : AxisCounter) (h : P s) : P (growAxis a c s) := k.touch h rfl
theorem growAlert (c : AlertCounter) (h : P s) : P (growAlert c s) := k.touch h rfl
theorem growTrunk (c : TrunkCounter) (h : P s) : P (growTrunk c s) := k.touch h rfl
theorem growUsage (i : Fin 64) (n : Nat) (h : P s) : P (growUsage i n s) := k.touch h rfl
theorem post (w : Work) (h : P s) : P (post w s) := k.touch h rfl
theorem dropEnded (e : Fin 16) (h : P s) : P (dropEnded e s) := k.touch h rfl
theorem writeLamp (st : Fin 24) (o : Fin 8) (p : LampPattern) (h : P s) : P (writeLamp st o p s) := k.modStation _ _ h
theorem reloadIdle (e : Fin 16) (h : P s) : P (reloadIdle e s) := k.touch h rfl
theorem reloadQuiet (h : P s) : P (reloadQuiet s) := k.touch h rfl
theorem activity (x : ActivityUnit) (h : P s) : P { s with ac := x } := k.touch h rfl
theorem chains (x : Chains) (h : P s) : P { s with cr := x } := k.touch h rfl
theorem counters (x : Counters) (h : P s) : P { s with counters := x } := k.touch h rfl
theorem inFlight (cs : List Nat) (n : Nat) (ws : List Work) (h : P s) :
    P { s with choices := cs, choicePoint := n, work := ws } := k.touch h rfl

/-! ### Alerts (chapter 7) -/

theorem alertsChanged (ns : List UpFrame) (h : P s) : P (alertsChanged ns s) := by
  have given : P (giveHeld s) := by
    unfold giveHeld; split
    exacts [h, k.touch h rfl]
  exact forList_keeps (P := P) (fun f _ h => k.up f h) (k.render (k.setPower given))

theorem raiseOverflow (h : P s) : P (raiseOverflow s) := by
  unfold Machine.raiseOverflow; dsimp only
  cases recordAt overflowSlot s <;> simp only [recordAt_putRecord, recordAt_takeSlot, if_true]
  exacts [k.alertsChanged _ (k.takeSlot _ _ h), k.alertsChanged _ (k.putRecord _ _ h)]

theorem loseRaise (key : AlertKey) (h : P s) : P (loseRaise key s) := by
  refine k.raiseOverflow ?_
  unfold keepLostAxis; repeat' split
  exacts [k.touch h rfl, k.touch h rfl, k.touch h rfl]

theorem repeatRaise (i : Fin 64) (r : AlertRecord) (h : P s) : P (repeatRaise i r s) := by
  unfold Machine.repeatRaise; dsimp only
  generalize AlertRecord.mk _ _ _ _ _ _ _ _ _ _ _ _ _ _ = again
  split
  exacts [h, k.alertsChanged _ (k.putRecord _ _ h)]

theorem raise (key : AlertKey) (h : P s) : P (raise key s) := by
  unfold Machine.raise; dsimp only; repeat' split
  exacts [k.repeatRaise _ _ h, h, k.alertsChanged _ (k.takeSlot _ _ h), k.loseRaise key h]

theorem clearOverflow (h : P s) : P (clearOverflow s) := k.touch h rfl

theorem endOverflow (h : P s) : P (endOverflow s).2 := by
  unfold Machine.endOverflow; dsimp only; repeat' split
  exacts [k.putRecord _ _ h, k.clearOverflow h, h, h]

theorem removeRecord (i : Fin 64) (r : AlertRecord) (h : P s) : P (removeRecord i r s) :=
  k.alertsChanged _ (k.endOverflow (k.putRecord i none h))

theorem endCondition (key : AlertKey) (h : P s) : P (endCondition key s) := by
  unfold Machine.endCondition; dsimp only; repeat' split
  exacts [k.alertsChanged _ (k.putRecord _ _ h), k.removeRecord _ _ h, k.removeRecord _ _ h, h, h, h]

theorem ackSlot (i : Fin 64) (t : AckTaken × Gx24) (h : P t.2) : P (ackSlot i t).2 := by
  unfold Machine.ackSlot; dsimp only; repeat' split
  exacts [h, k.putRecord _ _ h, h, k.clearOverflow h, k.putRecord _ _ h]

theorem acknowledge (l : List (Fin 64)) (h : P s) : P (acknowledge l s).2 := by
  have acked : P (forList l Machine.ackSlot (⟨[], [], false⟩, s)).2 :=
    forList_keeps (P := fun t : AckTaken × Gx24 => P t.2) (fun i t h => k.ackSlot i t h) h
  unfold Machine.acknowledge; dsimp only; split
  exacts [k.alertsChanged _ (k.endOverflow acked), k.alertsChanged _ acked]

theorem escalateSlot (i : Fin 64) (t : List UpFrame × Gx24) (h : P t.2) : P (escalateSlot i t).2 := by
  unfold Machine.escalateSlot; dsimp only; repeat' split
  exacts [h, h, k.putRecord _ _ h, k.putRecord _ _ h]

theorem escalateAll (h : P s) : P (escalateAll s) := by
  have counted : P (forRows (n := 64) Machine.escalateSlot ([], s)).2 :=
    forRows_keeps (P := fun t : List UpFrame × Gx24 => P t.2) (fun i t h => k.escalateSlot i t h) h
  unfold Machine.escalateAll; dsimp only; split
  exacts [counted, k.alertsChanged _ counted]

theorem eventEscalation (i : Fin 64) (h : P s) : P (eventEscalation i s) := by
  unfold Machine.eventEscalation; dsimp only; repeat' split
  exacts [k.alertsChanged _ (k.escalateSlot i ([], _) h), h, h]

theorem showMode (e : Fin 16) (h : P s) : P (showMode e s) := by
  unfold Machine.showMode; split
  · exact k.writeLamp _ _ _ h
  · exact h

theorem maskEvent (e : Fin 16) (m : IdleMask → Bool) (h : P s) : P (maskEvent e m s) := by
  unfold Machine.maskEvent; split
  · exact k.reloadIdle e h
  · exact h

theorem pressNotice (e : Fin 16) (v : Bool) (h : P s) : P (pressNotice e v s) := by
  have h := k.maskEvent e (·.anyPress) h
  unfold Machine.pressNotice; dsimp only; split
  · split
    · exact k.activity _ (k.reloadQuiet h)
    · exact k.reloadQuiet h
  · exact h

/-! ### Runners (chapter 4) -/

theorem haltLoopEnd (a : Fin 8) (h : P s) : P (haltLoopEnd a s) := by
  unfold Machine.haltLoopEnd; split
  all_goals first | exact h | exact k.modAxis _ _ h

theorem loopsToEnd (e : Fin 16) (h : P s) : P (loopsToEnd e s) :=
  forRows_keeps (fun a s h => by split; exacts [k.haltLoopEnd a h, h]) h

theorem chainEnd (e : Fin 16) (h : P s) : P (chainEnd e s) :=
  k.post _ (k.modRunner _ _ (k.growExhibit _ _ _ (k.maskEvent _ _ (k.loopsToEnd e h))))

theorem chainPause (e : Fin 16) (l : Link) (h : P s) : P (chainPause e l s) := k.chainEnd e (k.storePause _ l h)

theorem follow (e : Fin 16) (l : Link) (h : P s) : P (follow e l s) := by
  unfold Machine.follow; split
  · exact k.post _ (k.modRunner _ _ h)
  · exact k.chainEnd e h

theorem leave (e : Fin 16) (h : P s) : P (leave e s) := k.follow e _ h

theorem suspend (e : Fin 16) (r : RunnerState) (h : P s) : P (suspend e r s) := k.modRunner _ _ h

theorem endCueWaits (p : Fin 24 → Serial → Bool) (h : P s) : P (endCueWaits p s) :=
  forRows_keeps (fun e s h => by
    split
    · split
      · exact k.leave e h
      · exact h
    · exact h) h

theorem endStationWaits (st : Fin 24) (h : P s) : P (endStationWaits st s) := k.endCueWaits _ h

theorem supersedeCues (st : Fin 24) (h : P s) : P (supersedeCues st s) := k.endCueWaits _ h

theorem writeCue (st : Fin 24) (n : Byte) (h : P s) : P (writeCue st n s).2 := by
  by_cases ha : (stationOf st s).state = .absent
  · rw [Machine.writeCue, if_pos ha]; exact h
  · rw [Machine.writeCue, if_neg ha]; dsimp only; exact k.supersedeCues st (k.modStation st _ h)

theorem cueReported (st : Fin 24) (h : P s) : P (cueReported st s) := by
  unfold Machine.cueReported; dsimp only; split
  · exact h
  · exact k.endCueWaits _ h

/-! ### Axes (chapters 5 and 6) -/

theorem startSegment (a : Fin 8) (h : P s) : P (startSegment a s) := by
  unfold Machine.startSegment; dsimp only; repeat' split
  exacts [k.growAxis _ _ (k.modAxis _ _ h), k.modAxis _ _ h, h]

theorem startProgram (a : Fin 8) (j : Job) (m : RunMode) (h : P s) : P (startProgram a j m s) :=
  k.startSegment a (k.growAxis _ _ (k.modAxis _ _ h))

theorem moveReply (a : Fin 8) (m : Bool) (j : Job) (r : MoveResult) (w : RefuseReason) (h : P s) :
    P (moveReply a m j r w s) := k.up _ h

theorem runnerGranted (e : Fin 16) (a : Fin 8) (h : P s) : P (runnerGranted e a s) := by
  unfold Machine.runnerGranted; repeat' split
  exacts [k.suspend _ _ h, k.leave e h, h]

theorem runnerSkipped (e : Fin 16) (a : Fin 8) (h : P s) : P (runnerSkipped e a s) := by
  unfold Machine.runnerSkipped; split
  exacts [k.leave e (k.growExhibit _ _ _ h), h]

theorem claimResult (a : Fin 8) (c : Claim) (r : MoveResult) (w : RefuseReason) (h : P s) :
    P (claimResult a c r w s) := by
  unfold Machine.claimResult; repeat' split
  exacts [k.runnerGranted _ _ h, k.runnerSkipped _ _ h, k.moveReply _ _ _ _ _ h, k.moveReply _ _ _ _ _ h]

theorem grantAxis (a : Fin 8) (h : P s) : P (grantAxis a s) := by
  unfold Machine.grantAxis; split
  exacts [h, k.claimResult _ _ _ _ (k.startProgram _ _ _ (k.growAxis _ _ (k.modAxis _ _ h)))]

theorem endGuardHeld (a : Fin 8) (h : P s) : P (endGuardHeld a s) := by
  unfold Machine.endGuardHeld; dsimp only; split
  exacts [k.endCondition _ (k.modAxis _ _ h), k.modAxis _ _ h]

theorem endAxisFault (a : Fin 8) (h : P s) : P (endAxisFault a s) := by
  unfold Machine.endAxisFault; dsimp only; split
  exacts [k.endCondition _ (k.modAxis _ _ h), k.modAxis _ _ h]

theorem forgetStep (a : Fin 8) (h : P s) : P (forgetStep a s) := by
  unfold Machine.forgetStep; split
  · next awaited =>
    split
    exacts [k.branch _ h rfl rfl rfl (fun none => nomatch awaited.symm.trans none), h]
  · exact h

theorem goOff (a : Fin 8) (h : P s) : P (goOff a s) :=
  k.endAxisFault a (k.endGuardHeld a (k.forgetStep a (k.modAxis _ _ h)))

theorem releaseAxis (a : Fin 8) (h : P s) : P (releaseAxis a s) := by
  unfold Machine.releaseAxis; dsimp only; split
  exacts [k.goOff a (k.modAxis _ _ h), k.grantAxis a (k.modAxis _ _ h)]

theorem endHaltedQuietly (a : Fin 8) (h : P s) : P (endHaltedQuietly a s) :=
  k.releaseAxis a (k.growAxis _ _ (k.modAxis _ _ h))

/-- A NOW halt keeps `P` when the end it may give does. -/
theorem haltNowWith {fin : Fin 8 → Gx24 → Gx24} (a : Fin 8) (hf : P (fin a s)) (h : P s) : P (haltNowWith fin a s) := by
  unfold Machine.haltNowWith; dsimp only; repeat' split
  exacts [hf, k.modAxis _ _ h, hf, h, hf, k.modAxis _ _ h, h, h, h]

theorem withdrawClaims (e : Fin 16) (h : P s) : P (withdrawClaims e s) := by
  unfold Machine.withdrawClaims
  exact forRows_keeps (P := P) (fun a _ h => k.modAxis a _ h) h

theorem haltOwned (e : Fin 16) (h : P s) : P (haltOwned e s) :=
  forRows_keeps (fun a s h => by split; exacts [k.haltNowWith a (k.endHaltedQuietly a h) h, h]) h

theorem abortChain (e : Fin 16) (h : P s) : P (abortChain e s) := by
  unfold Machine.abortChain; split
  exacts [h, k.growExhibit _ _ _ (k.haltOwned e (k.withdrawClaims e (k.modRunner _ _ h)))]

theorem abortReported (e : Fin 16) (h : P s) : P (abortReported e s) := by
  unfold Machine.abortReported; split
  exacts [h, k.post _ (k.abortChain e h)]

theorem endResult (a : Fin 8) (o : Owner) (j : Job) (r : MoveResult) (h : P s) : P (endResult a o j r s) := by
  unfold Machine.endResult; repeat' split
  exacts [k.leave _ h, k.abortReported _ h, h, k.moveReply _ _ _ _ _ h, k.moveReply _ _ _ _ _ h]

theorem tellOwner (a : Fin 8) (o : Option Owner) (j : Option Job) (r : MoveResult) (h : P s) : P (tellOwner a o j r s) := by
  unfold Machine.tellOwner; split
  exacts [k.endResult _ _ _ _ h, h]

theorem timeOutClaim (a : Fin 8) (c : Claimant) (h : P s) : P (timeOutClaim a c s) := by
  unfold Machine.timeOutClaim; dsimp only; split
  exacts [k.claimResult _ _ _ _ (k.growAxis _ _ (k.modAxis _ _ h)), h]

theorem replaceClaim (a : Fin 8) (c : Claimant) (h : P s) : P (replaceClaim a c s) := by
  unfold Machine.replaceClaim; dsimp only; split
  exacts [k.claimResult _ _ _ _ (k.growAxis _ _ (k.modAxis _ _ h)), h]

theorem refuseAll (a : Fin 8) (w : RefuseReason) (h : P s) : P (refuseAll a w s) :=
  forList_keeps (fun _ _ h => k.claimResult _ _ _ _ h) (k.modAxis a _ h)

theorem recordFault (a : Fin 8) (c : FaultCause) (h : P s) : P (recordFault a c s) :=
  k.raise _ (k.growAxis _ _ (k.modAxis a _ h))

theorem faultAxis (a : Fin 8) (c : FaultCause) (h : P s) : P (faultAxis a c s) := by
  unfold Machine.faultAxis; dsimp only; split
  · exact h
  · have faulted := k.recordFault a c (k.refuseAll a .fault (k.modAxis a (fun x => { x with owner := none })
      (k.tellOwner a (axisOf a s).owner (axisOf a s).job .fault (k.modAxis a (fun x => x.driveOff.ended .fault) h))))
    split
    exacts [k.goOff a faulted, faulted]

/-! ### Guards and faults (chapter 6) -/

theorem guardNotices (a : Fin 8) (h : P s) : P (guardNotices a s) := by
  unfold Machine.guardNotices
  refine forRows_keeps (fun e s h => ?_) h
  split
  exacts [k.maskEvent _ _ h, h]

theorem guardOpened (a : Fin 8) (h : P s) : P (guardOpened a s) := by
  unfold Machine.guardOpened; dsimp only
  exact k.modAxis _ _ (k.guardNotices a (k.growAxis _ _ (k.modAxis a _ h)))

theorem decideGuard (a : Fin 8) (h : P s) : P (decideGuard a s) := by
  unfold Machine.decideGuard; repeat' split
  exacts [h, k.modAxis a _ h, k.guardOpened a h,
    k.endGuardHeld a (k.modAxis a _ h)]

theorem decideGuardsOf (st : Fin 24) (h : P s) : P (decideGuardsOf st s) := by
  unfold Machine.decideGuardsOf
  refine forRows_keeps (fun a s h => ?_) h
  repeat' split
  exacts [k.decideGuard a h, h, h]

theorem raiseGuardHeld (a : Fin 8) (h : P s) : P (raiseGuardHeld a s) :=
  k.raise _ (k.modAxis a _ h)

theorem testFlags (a : Fin 8) (d : DriveReport) (h : P s) : P (testFlags a d s) := by
  unfold Machine.testFlags; dsimp only; repeat' split
  exacts [k.faultAxis _ _ h, k.faultAxis _ _ h, h]

theorem checkFollowing (a : Fin 8) (d : DriveReport) (h : P s) : P (checkFollowing a d s) := by
  unfold Machine.checkFollowing; dsimp only; repeat' split
  exacts [h, h, k.modAxis a _ h,
    k.faultAxis _ _ (k.growAxis _ _ (k.modAxis a _ h)),
    k.growAxis _ _ (k.modAxis a _ h)]

theorem recover (a : Fin 8) (st : Fin 24) (h : P s) : P (recover a st s) :=
  k.endAxisFault a (k.decideGuard a (k.modAxis a _ h))

theorem recoverTest (a : Fin 8) (h : P s) : P (recoverTest a s) := by
  unfold Machine.recoverTest; dsimp only; repeat' split
  exacts [k.recover _ _ h, h, h]

theorem ackNotice (a : Fin 8) (key : AlertKey) (h : P s) : P (ackNotice a key s) := by
  unfold Machine.ackNotice; dsimp only
  refine k.recoverTest a ?_
  split
  exacts [k.modAxis a _ h, h]

theorem acknowledgeAll (l : List (Fin 64)) (h : P s) : P (acknowledgeAll l s) := by
  unfold Machine.acknowledgeAll; dsimp only
  exact forList_keeps (P := P) (fun _ _ h => k.ackNotice _ _ h) (k.acknowledge l h)

theorem driveReported (a : Fin 8) (b : Bool) (d : DriveReport) (h : P s) : P (driveReported a b d s) := by
  unfold Machine.driveReported; dsimp only
  refine k.recoverTest a ?_
  cases b
  · exact k.testFlags a d h
  · exact k.checkFollowing a d (k.testFlags a d (k.modAxis a _ h))

theorem enableAxis (a : Fin 8) (h : P s) : P (enableAxis a s).2 := by
  unfold Machine.enableAxis; repeat' split
  exacts [h, h, k.modAxis a _ h]

/-! ### Exhibits (chapter 3) -/

theorem startChain (e : Fin 16) (c : ChainStart) (h : P s) : P (startChain e c s) := by
  unfold Machine.startChain; dsimp only
  refine k.post _ (k.modRunner _ _ ?_)
  split
  exacts [k.modExhibit _ _ (k.dropEnded e h), k.reloadIdle e (k.modExhibit _ _ (k.dropEnded e h))]

theorem raiseCrowding (e : Fin 16) (h : P s) : P (raiseCrowding e s) := k.raise _ (k.modExhibit _ _ h)

theorem advanceFlood (e : Fin 16) (h : P s) : P (advanceFlood e s) := by
  unfold Machine.advanceFlood; dsimp only; repeat' split
  exacts [h, k.raiseCrowding e h, k.modExhibit _ _ h]

theorem startVisitor (e : Fin 16) (r : Fin 128) (i : Fin 24 × Fin 8) (w : Word) (h : P s) : P (startVisitor e r i w s) := by
  unfold Machine.startVisitor; dsimp only
  exact k.startChain e _ (k.modExhibit _ _ (k.growExhibit _ _ _ (k.startIndex r h)))

theorem serveFrom (e : Fin 16) (l : List QueueEntry) (h : P s) : P (serveFrom e l s) := by
  induction l generalizing s with
  | nil => exact k.modExhibit _ _ h
  | cons q rest ih =>
    unfold Machine.serveFrom; dsimp only; split
    · exact ih (k.advanceFlood e (k.growExhibit _ _ _ (k.modExhibit _ _ h)))
    · exact k.startVisitor e _ _ _ (k.modExhibit _ _ h)

theorem serveQueue (e : Fin 16) (h : P s) : P (serveQueue e s) := k.serveFrom e _ h

theorem queueVisitor (e : Fin 16) (r : Fin 128) (i : Fin 24 × Fin 8) (h : P s) : P (queueVisitor e r i s) := by
  unfold Machine.queueVisitor; dsimp only; repeat' split
  exacts [k.advanceFlood e (k.growExhibit _ _ _ h), k.maskEvent _ _ (k.growExhibit _ _ _ (k.modExhibit _ _ h)),
    k.advanceFlood e (k.growExhibit _ _ _ h)]

theorem visitorRequest (e : Fin 16) (r : Fin 128) (i : Fin 24 × Fin 8) (h : P s) : P (visitorRequest e r i s) := by
  unfold Machine.visitorRequest; repeat' split
  exacts [k.maskEvent _ _ (k.startVisitor _ _ _ _ h), k.maskEvent _ _ (k.startVisitor _ _ _ _ (k.abortChain e h)),
    k.queueVisitor _ _ _ h]

theorem showRequest (e : Fin 16) (a : Fin 512) (w : Word) (h : P s) : P (showRequest e a w s).2 := by
  unfold Machine.showRequest; repeat' split
  exacts [k.growExhibit _ _ _ h, k.growExhibit _ _ _ h, k.startChain _ _ (k.growExhibit _ _ _ (k.abortChain e h))]

theorem attendantRequest (e : Fin 16) (r : Fin 128) (i : Fin 24 × Fin 8) (h : P s) : P (attendantRequest e r i s) := by
  unfold Machine.attendantRequest; split
  exacts [k.growExhibit _ _ _ h, k.startChain _ _ (k.startIndex _ (k.growExhibit _ _ _ (k.abortChain e h)))]

theorem attractRequest (e : Fin 16) (h : P s) : P (attractRequest e s) := by
  unfold Machine.attractRequest; repeat' split
  exacts [k.startChain _ _ (k.growExhibit _ _ _ h), k.reloadIdle e h, h]

theorem runnerFreed (e : Fin 16) (o : Origin) (h : P s) : P (runnerFreed e o s) := by
  unfold Machine.runnerFreed; dsimp only; split
  exacts [k.modExhibit _ _ (k.modExhibit _ _ h), k.serveQueue e (k.modExhibit _ _ h)]

theorem cooldownOver (e : Fin 16) (h : P s) : P (cooldownOver e s) := by
  unfold Machine.cooldownOver; split
  exacts [k.serveQueue e (k.modExhibit _ _ h), h]

theorem clearQueue (e : Fin 16) (h : P s) : P (clearQueue e s) := k.modExhibit _ _ (k.growExhibit _ _ _ h)

theorem endCooldown (e : Fin 16) (h : P s) : P (endCooldown e s) := k.modExhibit _ _ h

theorem vacate (e : Fin 16) (h : P s) : P (vacate e s) := k.modExhibit _ _ (k.dropEnded e (k.abortChain e h))

theorem closeGallery (h : P s) : P (closeGallery s) := by
  unfold Machine.closeGallery
  refine forRows_keeps (fun e s h => ?_) (k.activity _ h)
  unfold closeExhibit; dsimp only
  have h1 := k.endCooldown e (k.clearQueue e h)
  split
  exacts [k.vacate e h1, h1]

theorem quietGallery (h : P s) : P (quietGallery s) := by
  unfold Machine.quietGallery
  refine forRows_keeps (fun e s h => ?_) (k.activity _ h)
  split
  exacts [k.vacate e h, h]

theorem reloadAllTimers (h : P s) : P (reloadAllTimers s) := by
  unfold Machine.reloadAllTimers
  exact forRows_keeps (P := P) (fun e s h => k.reloadIdle e h) (k.reloadQuiet h)

theorem openGallery (h : P s) : P (openGallery s) := k.reloadAllTimers (k.activity _ h)

theorem expireIdle (e : Fin 16) (h : P s) : P (expireIdle e s) := by
  unfold Machine.expireIdle; dsimp only
  refine k.reloadIdle e ?_
  split
  exacts [k.attractRequest e (k.clearStories e h), k.clearStories e h]

theorem expireQuiet (h : P s) : P (expireQuiet s) := by
  unfold Machine.expireQuiet; split
  exacts [k.quietGallery h, h]

theorem holdRelease (e : Fin 16) (r : Fin 128) (h : P s) : P (holdRelease e r s) := by
  unfold Machine.holdRelease; dsimp only
  have h1 : ∀ {t}, P t → P (if (runnerOf e t).state ≠ .free ∧ (runnerOf e t).row = some r then Machine.abortReported e t else t) :=
    fun h => by split; exacts [k.abortReported e h, h]
  refine h1 ?_
  split
  exacts [k.modExhibit _ _ (k.growExhibit _ _ _ h), h]

/-! ### Chains (chapter 4) -/

theorem chainFault (e : Fin 16) (c : AlertCause) (h : P s) : P (chainFault e c s) := k.raise _ (k.abortReported e h)

theorem doCue (e : Fin 16) (st : Fin 24) (n : Byte) (w : Bool) (l : Link) (h : P s) : P (doCue e st n w l s) := by
  have h1 := k.writeCue st n h
  unfold Machine.doCue
  split <;> rename_i hc <;> rw [hc] at h1
  · split
    exacts [k.suspend _ _ (k.modRunner _ _ h1), k.follow _ _ h1]
  · exact k.follow _ _ h1

theorem takeDefault (e : Fin 16) (h : P s) : P (takeDefault e s) := k.follow _ _ (k.growExhibit _ _ _ h)

theorem sendReferral (e : Fin 16) (t : Byte) (n : Nat) (h : P s) : P (sendReferral e t n s) :=
  k.suspend _ _ (k.growExhibit _ _ _ (k.up _ (k.modRunner _ _ h)))

theorem doRefer (e : Fin 16) (t : Byte) (n : Nat) (h : P s) : P (doRefer e t n s) := by
  unfold Machine.doRefer; split
  exacts [k.takeDefault e h, k.sendReferral e t n h]

theorem endWait (e : Fin 16) (h : P s) : P (endWait e s) := by
  unfold Machine.endWait; split
  exacts [k.leave e h, h]

theorem timeOutReferral (e : Fin 16) (h : P s) : P (timeOutReferral e s) := by
  unfold Machine.timeOutReferral; split
  exacts [k.takeDefault e h, h]

theorem islandDefaults (h : P s) : P (islandDefaults s) := by
  unfold Machine.islandDefaults
  refine forRows_keeps (fun e s h => ?_) h
  split
  exacts [k.takeDefault e h, h]

theorem takeVerdict (e : Fin 16) (n : Serial) (v : Verdict) (h : P s) : P (takeVerdict e n v s) := by
  unfold Machine.takeVerdict; dsimp only; repeat' split
  exacts [k.growExhibit _ _ _ h, k.follow _ _ (k.growExhibit _ _ _ h), k.growExhibit _ _ _ h]

theorem reportCue (e : Byte) (d : Word) (t : Option Byte) (r : CueResult) (h : P s) : P (reportCue e d t r s) := k.up _ h

theorem countMiss (h : P s) : P (countMiss s) := k.clock _ h

theorem runCue (c : CueEntry) (h : P s) : P (runCue c s) := by
  unfold Machine.runCue; dsimp only
  refine k.reportCue _ _ _ _ ?_
  split
  exacts [k.showRequest _ _ _ h, k.countMiss (k.showRequest _ _ _ h)]

/-! ### Modes (chapter 3) -/

theorem enterHeld (e : Fin 16) (h : P s) : P (enterHeld e s) := by
  unfold Machine.enterHeld; dsimp only
  have h1 := k.endCooldown e (k.clearQueue e h)
  refine k.reloadIdle e (k.changeMode e _ ?_)
  split
  exacts [k.vacate e h1, h1]

theorem leaveHeld (e : Fin 16) (h : P s) : P (leaveHeld e s) := k.reloadIdle e (k.changeMode e _ h)

theorem applyHeld (x : ExhibitSet) (h : P s) : P (applyHeld x s) := by
  unfold Machine.applyHeld
  refine forRows_keeps (fun e s h => ?_) h
  unfold applyHold; repeat' split
  exacts [k.enterHeld e h, h, h, k.leaveHeld e h, h, h]

theorem leavePublic (e : Fin 16) (m : Mode) (h : P s) : P (leavePublic e m s) :=
  k.reloadIdle e (k.changeMode e m (k.vacate e (k.endCooldown e (k.clearQueue e h))))

theorem goPublic (e : Fin 16) (h : P s) : P (goPublic e s) :=
  k.reloadIdle e (k.changeMode e _ (k.modExhibit _ _ h))

theorem setMode (e : Fin 16) (m : Mode) (h : P s) : P (setMode e m s).2.2 := by
  have closed : ∀ m, P (modeClosed e m s).2.2 := fun m => by
    unfold modeClosed; dsimp only; repeat' split
    exacts [h, k.leavePublic e m h, k.changeMode e m h]
  unfold Machine.setMode; split
  · exact h
  · unfold modePublic; repeat' split
    exacts [h, h, k.goPublic e h]
  · exact closed _
  · exact closed _

/-! ### What a moving axis does (chapters 5 and 6) -/

theorem endProgram (a : Fin 8) (r : MoveResult) (h : P s) : P (endProgram a r s) :=
  k.releaseAxis a (k.tellOwner a _ _ r (k.growAxis a _ (k.modAxis a _ h)))

theorem haltNow (a : Fin 8) (h : P s) : P (haltNow a s) := k.haltNowWith a (k.endProgram a _ h) h

theorem haltAxis (a : Fin 8) (m : Manner) (h : P s) : P (haltAxis a m s) := by
  unfold Machine.haltAxis; split
  exacts [k.haltNow a h, k.haltLoopEnd a h]

theorem preempt (a : Fin 8) (c : Claim) (h : P s) : P (preempt a c s) := by
  unfold Machine.preempt; repeat' split
  exacts [k.haltNow a (k.growAxis _ _ h), h, h]

theorem claimAxis (a : Fin 8) (c : Claim) (h : P s) : P (claimAxis a c s) := by
  have joined (f : Axis → Axis) := k.modAxis a f (k.replaceClaim a c.claimant h)
  unfold Machine.claimAxis; dsimp only; repeat' split
  exacts [k.claimResult _ _ _ _ (k.growAxis _ _ h), k.grantAxis a (joined _), k.preempt a _ (joined _)]

theorem completeSegment (a : Fin 8) (h : P s) : P (completeSegment a s) := by
  unfold Machine.completeSegment; dsimp only; repeat' split
  exacts [h, k.startSegment a (k.modAxis _ _ h), k.endProgram a _ h, k.startSegment a (k.modAxis _ _ h)]

theorem runningStep (a : Fin 8) (h : P s) : P (runningStep a s) := by
  have moved := k.modAxis a Axis.runMotion h
  unfold Machine.runningStep arrive; dsimp only; repeat' split
  exacts [k.completeSegment a (k.modAxis _ _ moved), k.modAxis _ _ moved, moved]

theorem dwellStep (a : Fin 8) (h : P s) : P (dwellStep a s) := by
  unfold Machine.dwellStep; dsimp only; split
  exacts [k.completeSegment a (k.modAxis _ _ h), k.modAxis _ _ h]

theorem haltingStep (a : Fin 8) (h : P s) : P (haltingStep a s) := by
  unfold Machine.haltingStep; dsimp only; split
  exacts [k.endProgram a _ (k.modAxis _ _ (k.modAxis _ _ h)), k.modAxis _ _ h]

theorem brakingStep (a : Fin 8) (h : P s) : P (brakingStep a s) := by
  have braked := k.modAxis a (fun x => x.brakeMotion (4 * x.params.accel)) h
  unfold Machine.brakingStep; dsimp only; repeat' split
  exacts [k.modAxis _ _ braked, k.endProgram a _ braked, braked]

theorem resumeStep (a : Fin 8) (h : P s) : P (resumeStep a s) := by
  unfold Machine.resumeStep; split
  exacts [k.runningStep a (k.modAxis _ _ h), k.dwellStep a (k.modAxis _ _ h), k.haltingStep a (k.modAxis _ _ h)]

theorem guardStep (a : Fin 8) (h : P s) : P (guardStep a s) := by
  unfold Machine.guardStep; dsimp only; repeat' split
  exacts [k.brakingStep a (k.modAxis _ _ h), k.resumeStep a (k.modAxis _ _ h), k.brakingStep a (k.modAxis _ _ h)]

theorem stateStep (a : Fin 8) (h : P s) : P (stateStep a s) := by
  unfold Machine.stateStep; split
  exacts [h, h, h, k.runningStep a h, k.dwellStep a h, k.haltingStep a h, k.guardStep a h]

theorem stepAxis (a : Fin 8) (h : P s) : P (stepAxis a s) := by
  have stepped := k.stateStep a (k.modAxis a Axis.referred h)
  unfold Machine.stepAxis; dsimp only; repeat' split
  exacts [k.growAxis _ _ (k.modAxis _ _ h), stepped, k.modAxis _ _ stepped]

theorem disableAxis (a : Fin 8) (h : P s) : P (disableAxis a s).2 := by
  unfold Machine.disableAxis; split
  · exact h
  · have h1 := k.refuseAll a .disabling (k.modAxis a (fun x => { x with disabling := true }) h)
    dsimp only; split
    exacts [k.goOff a h1, k.haltNow a h1]

/-! ### Entries of chains (chapter 4) -/

theorem doMove (e : Fin 16) (a : Fin 8) (p : Fin 64) (m : RunMode) (h : P s) : P (doMove e a p m s) := by
  unfold Machine.doMove; dsimp only
  have h1 := k.claimAxis a ⟨.exhibit e, (runnerOf e s).origin, .program p, m, 0⟩
    (k.modRunner e (fun r => r.claiming a) h)
  split
  exacts [k.suspend _ _ h1, h1]

theorem doHaltAxis (e : Fin 16) (a : Fin 8) (m : Manner) (l : Link) (h : P s) : P (doHaltAxis e a m l s) := by
  unfold Machine.doHaltAxis
  refine k.follow e l ?_
  split
  exacts [k.haltAxis a m h, h]

theorem perform (e : Fin 16) (x : Action) (h : P s) : P (perform e x s) := by
  unfold Machine.perform; split
  exacts [k.chainFault _ _ h, k.follow _ _ (k.writeLamp _ _ _ h), k.doCue _ _ _ _ _ h, k.doMove _ _ _ _ h,
    k.doHaltAxis _ _ _ _ h, k.suspend _ _ (k.modRunner _ _ h), k.chainPause _ _ h, k.follow _ _ (k.raise _ h),
    k.doRefer _ _ _ h, k.follow _ _ (k.growUsage _ _ h)]

theorem runStep (e : Fin 16) (h : P s) : P (runStep e s) := by
  unfold Machine.runStep; dsimp only; repeat' split
  exacts [h, k.chainFault _ _ h, k.chainFault _ _ h, k.perform _ _ (k.modRunner _ _ h)]

/-! ### Notices (assumption 2) -/

theorem deliver (w : Work) (h : P s) : P (deliver w s) := by
  unfold Machine.deliver; split
  · exact k.runStep _ h
  · exact k.runnerFreed _ _ h
  · exact k.applyHeld _ h
  · exact k.cooldownOver _ h
  · exact k.endWait _ h
  · exact k.timeOutReferral _ h
  · exact k.timeOutClaim _ _ h
  · split
    exacts [k.raiseGuardHeld _ h, h]
  · exact k.expireQuiet h
  · exact k.expireIdle _ h
  · exact k.runCue _ h
  · unfold galleryCommand; repeat' split
    exacts [k.openGallery h, h, h, h, k.closeGallery h, k.closeGallery h]

/-- Taking every notice keeps what the blocks keep. -/
theorem settle (h : P s) : P (settle s) :=
  settle_keeps (fun cs n ws h => k.inFlight cs n ws h) (fun w _ h => k.deliver w h) h

/-- Taking some notices keeps what the blocks keep. -/
theorem settleSome (h : P s) : P (settleSome s) :=
  settleSome_keeps (fun cs n ws h => k.inFlight cs n ws h) (fun w _ h => k.deliver w h) h

theorem branchPins (b : List Byte) (h : P s) : P { s with branchOut := b } := k.touch h rfl

/-! ### The branch (chapter 1) -/

theorem endQuery (r : QueryResult) (a : Option Word) (h : P s) : P (endQuery r a s) := by
  unfold Machine.endQuery; split
  exacts [k.up _ (k.branch _ h), h]

theorem endQueryOf (st : Fin 24) (h : P s) : P (endQueryOf st s) := by
  unfold Machine.endQueryOf; repeat' split
  exacts [k.endQuery _ _ h, h, h]

theorem endLost (st : Fin 24) (h : P s) : P (endLost st s) := by
  unfold Machine.endLost; dsimp only; split
  exacts [k.endCondition _ (k.modStation _ _ h), k.modStation _ _ h]

theorem raiseLost (st : Fin 24) (h : P s) : P (raiseLost st s) := k.raise _ (k.modStation _ _ h)

theorem faultDriveAxis (st : Fin 24) (h : P s) : P (faultDriveAxis st s) := by
  unfold Machine.faultDriveAxis; split
  exacts [k.faultAxis _ _ h, h]

theorem loseStation (st : Fin 24) (h : P s) : P (loseStation st s) := by
  unfold Machine.loseStation; dsimp only
  exact k.endQueryOf st (k.endStationWaits st (k.faultDriveAxis st (k.decideGuardsOf st (k.raiseLost st (k.modStation _ _ h)))))

theorem countStationMiss (st : Fin 24) (crc : Bool) (h : P s) : P (countStationMiss st crc s) := by
  unfold Machine.countStationMiss; dsimp only
  have tail : ∀ {t}, P t → P (if (stationOf st t).missCount = missLimit ∧
      ((stationOf st t).state = .joining ∨ (stationOf st t).state = .present) then Machine.loseStation st t else t) :=
    fun h => by split; exacts [k.loseStation st h, h]
  refine tail (k.modStation _ _ ?_)
  cases crc
  exacts [k.growStation _ _ _ h, k.growStation _ _ _ (k.growStation _ _ _ h)]

theorem storeLevels (st : Fin 24) (l : Byte) (h : P s) : P (storeLevels st l s) :=
  k.decideGuardsOf st (k.modStation _ _ h)

theorem storeCueReport (st : Fin 24) (n : Serial) (b : Bool) (h : P s) : P (storeCueReport st n b s) :=
  k.cueReported st (k.modStation _ _ h fun x => by unfold Station.delivered; split <;> [split; skip] <;> rfl)

theorem queryUnanswered (h : P s) : P (queryUnanswered s) := by
  unfold Machine.queryUnanswered; repeat' split
  exacts [k.endQuery _ _ h, h, h]

theorem takeAnswer (st : Fin 24) (b : Bool) (a : Option Word) (h : P s) : P (takeAnswer st b a s) := by
  unfold Machine.takeAnswer; repeat' split
  exacts [k.endQuery _ _ h, h, k.queryUnanswered h, h]

theorem storeDrive (st : Fin 24) (a : Option (Fin 8)) (d : Option DriveReport) (h : P s) : P (storeDrive st a d s) := by
  unfold Machine.storeDrive; dsimp only; repeat' split
  exacts [h, k.driveReported _ _ _ (k.modStation _ _ h), k.modStation _ _ h]

/-! ### The press path (chapter 2) -/

theorem unmappedEvent (st : Fin 24) (i : Fin 8) (g : Edge) (h : P s) : P (unmappedEvent st i g s) := by
  unfold Machine.unmappedEvent; dsimp only; split
  exacts [k.up _ (k.growStation _ _ _ h), k.growStation _ _ _ h]

theorem turnKey (e : Fin 16) (h : P s) : P (turnKey e s) := by
  unfold Machine.turnKey; dsimp only
  exact k.acknowledgeAll _ (k.growAlert _ h)

theorem pressVisitor (e : Fin 16) (r : Fin 128) (i : Fin 24 × Fin 8) (h : P s) : P (pressVisitor e r i s) := by
  unfold Machine.pressVisitor; split
  exacts [k.growExhibit _ _ _ h, k.visitorRequest _ _ _ h]

theorem pressOpen (e : Fin 16) (r : Fin 128) (c : RowClass) (i : Fin 24 × Fin 8) (h : P s) : P (pressOpen e r c i s) := by
  unfold Machine.pressOpen; split
  · unfold pressAttendant; dsimp only; split
    exacts [k.attendantRequest _ _ _ (k.turnKey e h), k.turnKey e h]
  · split
    exacts [k.growExhibit _ _ _ h, k.pressVisitor _ _ _ h]
  · split
    · exact k.growExhibit _ _ _ h
    · unfold pressHelp; dsimp only; split
      exacts [k.pressVisitor _ _ _ (k.raise _ h), k.raise _ h]

theorem dispatchPublic (e : Fin 16) (r : Fin 128) (t : TriggerRow) (st : Fin 24) (i : Fin 8) (g : Edge) (h : P s) :
    P (dispatchPublic e r t st i g s) := by
  unfold Machine.dispatchPublic; dsimp only; split
  exacts [k.holdRelease _ _ (k.pressNotice _ _ h), k.pressOpen _ _ _ _ (k.pressNotice _ _ h)]

theorem dispatch (e : Fin 16) (r : Fin 128) (t : TriggerRow) (st : Fin 24) (i : Fin 8) (g : Edge) (h : P s) :
    P (dispatch e r t st i g s) := by
  unfold Machine.dispatch; split
  · exact k.growExhibit _ _ _ h
  · unfold pressService; repeat' split
    exacts [h, k.turnKey e h, k.up _ h]
  · exact k.dispatchPublic _ _ _ _ _ _ h
  · exact k.dispatchPublic _ _ _ _ _ _ h

theorem inputEvent (st : Fin 24) (i : Fin 8) (g : Edge) (h : P s) : P (inputEvent st i g s) := by
  unfold Machine.inputEvent; dsimp only; repeat' split
  exacts [k.unmappedEvent _ _ _ h, k.unmappedEvent _ _ _ h, k.dispatch _ _ _ _ _ _ h, h]

/-! ### Slots and sweeps (chapter 1) -/

theorem takeEvent (st : Fin 24) (ev : ReplyEvent) (h : P s) : P (takeEvent st ev s) := by
  unfold Machine.takeEvent; dsimp only; split
  exacts [k.growStation _ _ _ h, k.settle (k.inputEvent _ _ _ (k.modStation _ _ (k.growStation _ _ _ h)))]

theorem join (st : Fin 24) (r : Reply) (h : P s) : P (join st r s) := by
  have serials : ∀ {s} n m, P s → P (joinSerials st n m s) := fun n m h => by
    unfold joinSerials; dsimp only; split
    · exact k.modStation _ _ h
    · exact forRows_keeps (P := P) (fun _ _ h => k.modRunner _ _ h) (k.modStation _ _ (k.modStation _ _ h))
  exact k.endLost st (k.modStation _ _ (serials _ _ (k.growStation _ _ _ h)))

theorem takeReply (w : Awaiting) (r : Reply) (h : P s) : P (takeReply w r s) := by
  unfold Machine.takeReply; dsimp only
  have tail : ∀ {s}, P s → P (Machine.settle (Machine.storeDrive w.station w.stepAxis r.drive
      (Machine.takeAnswer w.station w.query r.answer (Machine.storeCueReport w.station r.lastStarted r.playing
        (Machine.storeLevels w.station r.levels s))))) := fun h =>
    k.settle (k.storeDrive _ _ _ (k.takeAnswer _ _ _ (k.storeCueReport _ _ _ (k.storeLevels _ _ h))))
  have h1 : P (Machine.modStation w.station (fun x => { x with missCount := 0 }) s) := k.modStation _ _ h
  generalize decide ((stationOf w.station s).state = .present) = b
  cases b <;> simp only [Bool.false_eq_true, if_true, if_false]
  · exact tail (k.join _ _ h1)
  · exact forList_keeps (P := P) (fun _ _ h => k.takeEvent _ _ h) (tail h1)

theorem takeMiss (w : Awaiting) (crc : Bool) (h : P s) : P (takeMiss w crc s) := by
  unfold Machine.takeMiss; dsimp only
  have tail : ∀ {s}, P s → P (if w.query then Machine.queryUnanswered (Machine.countStationMiss w.station crc s)
      else Machine.countStationMiss w.station crc s) := fun h => by
    split
    exacts [k.queryUnanswered (k.countStationMiss _ _ h), k.countStationMiss _ _ h]
  refine tail ?_
  split
  exacts [k.modAxis _ _ h, h]

theorem endSlot (reply : Option (List Byte)) (h : P s) : P (endSlot reply s) := by
  unfold Machine.endSlot; split
  · exact h
  · have h1 := k.branch { s.bs with awaiting := none } h
    unfold classify; repeat' split
    exacts [h1, k.takeMiss _ _ h1, k.takeReply _ _ h1, k.takeMiss _ _ h1]

theorem takeQuery (st : Byte) (p : Word) (h : P s) : P (takeQuery st p s) := by
  unfold Machine.takeQuery; repeat' split
  exacts [k.up _ h, k.up _ h, k.up _ h, k.up _ h, k.branch _ h]

/-! ### The clock (chapter 9) -/

theorem tickEvent (n : Word) (h : P s) : P (tickEvent n s) := by
  have exhibit : ∀ (e : Fin 16) s, P s → P (countExhibit e s) := fun e s h => by
    unfold countExhibit; dsimp only; repeat' split
    exacts [k.post _ (k.modExhibit _ _ (k.modExhibit _ _ h)), k.modExhibit _ _ (k.modExhibit _ _ h), k.modExhibit _ _ h]
  have runner : ∀ (e : Fin 16) s, P s → P (countRunner e s) := fun e s h => by
    unfold countRunner; dsimp only; repeat' split
    all_goals first | exact h | exact k.post _ (k.modRunner _ _ h) | exact k.modRunner _ _ h
  have axis : ∀ (a : Fin 8) s, P s → P (countGuard a (countClaims a s)) := fun a s h => by
    have h1 : P (countClaims a s) := by
      unfold countClaims; dsimp only
      refine forList_keeps (P := P) (fun c s h => ?_) (k.modAxis a _ h)
      split
      exacts [k.post _ h, h]
    unfold countGuard; dsimp only; repeat' split
    exacts [h1, k.post _ (k.modAxis a _ h1), k.modAxis a _ h1]
  have quiet : ∀ {s}, P s → P (countQuiet s) := fun h => by
    unfold countQuiet; dsimp only; repeat' split
    exacts [k.post _ (k.activity _ h), k.activity _ h, h]
  have idle : ∀ (e : Fin 16) s, P s → P (countIdle e s) := fun e s h => by
    unfold countIdle; dsimp only; repeat' split
    exacts [k.post _ (k.activity _ h), k.activity _ h, h]
  unfold Machine.tickEvent; dsimp only
  refine forRows_keeps idle (quiet (k.escalateAll (forRows_keeps axis (forRows_keeps runner (forRows_keeps exhibit ?_)))))
  exact k.clock _ h

theorem takeCues (p : CueEntry → Bool) (h : P s) : P (takeCues p s).2 :=
  k.clock _ h

theorem fireAt (due : Word) (h : P s) : P (fireAt due s) := by
  unfold Machine.fireAt; dsimp only
  exact forList_keeps (P := P) (fun _ _ h => k.post _ h) (k.takeCues _ h)

theorem fireInOrder (dues : List Word) (h : P s) : P (fireInOrder dues s) := by
  unfold Machine.fireInOrder; split
  exacts [h, forList_keeps (P := P) (fun d _ h => k.fireAt d (k.settleSome h)) (k.fireAt _ h)]

theorem fireJump (old new : Word) (h : P s) : P (fireJump old new s) := by
  unfold Machine.fireJump; dsimp only; repeat' split
  · exact k.fireInOrder _ (k.clock _ h)
  · exact k.fireInOrder _ h
  · refine k.fireInOrder _ ?_
    unfold dropSkipped; dsimp only
    exact forList_keeps (P := P) (fun _ _ h => k.countMiss (k.growExhibit _ _ _ (k.reportCue _ _ _ _ h))) (k.takeCues _ (k.settleSome h))

theorem sendStatus (h : P s) : P (sendStatus s) := by
  unfold Machine.sendStatus; dsimp only
  exact k.clock _ (k.up _ h)

theorem takeTick (n : Word) (c : GalleryCommand) (h : P s) : P (takeTick n c s) := by
  have lock : P (lockClock s) := by
    unfold lockClock; dsimp only
    have h1 := k.clock { s.gc with state := .locked, silence := 0 } h
    split
    exacts [k.endCondition _ h1, h1]
  have given : P (giveCommand c (Machine.tickEvent n (lockClock s))) := by
    have h1 := k.tickEvent n lock
    unfold giveCommand; repeat' split
    exacts [h1, k.post _ h1, h1, h1, k.post _ h1]
  unfold Machine.takeTick; dsimp only
  refine k.sendStatus (k.settle ?_)
  split
  exacts [given, k.fireJump _ _ given]

theorem localTick (h : P s) : P (localTick s) := by
  unfold Machine.localTick
  exact k.fireInOrder _ (k.tickEvent _ h)

theorem enterIsland (h : P s) : P (enterIsland s) := by
  unfold Machine.enterIsland; dsimp only
  exact k.localTick (k.settle (k.islandDefaults (k.raise _ (k.clock _ h))))

theorem localExpiry (h : P s) : P (localExpiry s) := by
  unfold Machine.localExpiry; repeat' split
  exacts [h, k.localTick h, k.enterIsland h, k.clock _ h]

theorem scheduleCue (c : CueEntry) (h : P s) : P (scheduleCue c s) := by
  unfold Machine.scheduleCue; dsimp only; repeat' split
  exacts [k.up _ (k.up _ (k.clock _ h)), k.up _ h, k.up _ (k.clock _ h)]

theorem takeCue (d : Word) (e : Byte) (a : Word) (t : Byte) (h : P s) : P (takeCue d e a t s) := by
  unfold Machine.takeCue; repeat' split
  exacts [k.up _ h, k.runCue _ h, k.up _ h, k.scheduleCue _ h, k.up _ h]

theorem cancelCue (e : Byte) (d : Word) (h : P s) : P (cancelCue e d s) := by
  unfold Machine.cancelCue; repeat' split
  exacts [k.up _ h, k.up _ h, k.up _ (k.takeCues _ h)]

/-! ### Management (chapter 10) -/

theorem takeFrame {f : Gx24 → Gx24} (hf : ∀ {s}, P s → P (f s)) (h : P s) : P (takeFrame f s) := by
  unfold Machine.takeFrame; split
  exacts [k.growTrunk _ h, hf (k.growTrunk _ h)]

theorem frameError (h : P s) : P (frameError s) := k.growTrunk _ h

theorem replyWrite (t : Byte) (i : Nat) (w : Word) {r : ReplyCode × Gx24} (h : P r.2) : P (replyWrite t i w r) := k.up _ h

theorem writeSchedule (w : Word) (c : List Byte) (h : P s) : P (writeSchedule w c s).2 := by
  have slots : ∀ st b {s}, P s → P (slotsChanged st b s) := fun st b _ h => by
    unfold slotsChanged; dsimp only; repeat' split
    exacts [h, h, k.endQueryOf _ (k.decideGuardsOf _ h), k.decideGuardsOf _ h]
  have pick : ∀ {c : Prop} [Decidable c] {t}, P t → P (if c then (ReplyCode.live, s) else (.ok, t)).2 :=
    fun h' => by split; exacts [h, h']
  unfold Machine.writeSchedule; dsimp only
  split
  · split
    · exact h
    · exact pick (slots _ _ (slots _ _ (k.branch _ h)))
  · exact h

theorem writeInputMap (w : Word) (c : List Byte) (h : P s) : P (writeInputMap w c s).2 := by
  unfold Machine.writeInputMap; repeat' split
  exacts [h, h, k.touch h rfl, h]

theorem writeAction (w : Word) (c : List Byte) (h : P s) : P (writeAction w c s).2 := by
  unfold Machine.writeAction; repeat' split
  exacts [h, h, k.chains _ h, h]

theorem writeExhibitConfig (w : Word) (c : List Byte) (h : P s) : P (writeExhibitConfig w c s).2 := by
  unfold Machine.writeExhibitConfig; dsimp only; repeat' split
  exacts [h, h, k.modExhibit _ _ h, k.showMode _ (k.modExhibit _ _ h), h]

theorem writeAxisParams (w : Word) (c : List Byte) (h : P s) : P (writeAxisParams w c s).2 := by
  unfold Machine.writeAxisParams; repeat' split
  exacts [h, h, k.modAxis _ _ h, h]

theorem writeProgram (w : Word) (c : List Byte) (h : P s) : P (writeProgram w c s).2 := by
  unfold Machine.writeProgram; repeat' split
  exacts [h, k.touch h rfl, h]

theorem writeSegment (w : Word) (c : List Byte) (h : P s) : P (writeSegment w c s).2 := by
  unfold Machine.writeSegment; repeat' split
  exacts [h, k.touch h rfl, h]

theorem writeAlertClass (w : Word) (c : List Byte) (h : P s) : P (writeAlertClass w c s).2 := by
  unfold Machine.writeAlertClass; repeat' split
  exacts [h, h, k.touch h rfl]

theorem writeNeighbours (w : Word) (c : List Byte) (h : P s) : P (writeNeighbours w c s).2 := by
  unfold Machine.writeNeighbours; repeat' split
  exacts [h, k.render (k.touch h rfl), h]

theorem writeSettings (w : Word) (c : List Byte) (h : P s) : P (writeSettings w c s).2 := by
  unfold Machine.writeSettings; dsimp only; repeat' split
  exacts [h, h, k.reloadQuiet (k.trunk _ h), k.trunk _ h]

theorem readTable (t : Byte) (b : List Byte) (h : P s) : P (readTable t b s) := by
  unfold Machine.readTable; dsimp only; split
  exacts [k.up _ h, k.up _ h]

theorem manageMode (t : Byte) (b : List Byte) (h : P s) : P (manageMode t b s) := by
  unfold Machine.manageMode; dsimp only; repeat' split
  exacts [k.up _ (k.setMode _ _ h), k.up _ h, k.up _ h]

theorem manageAxis (t : Byte) (b : List Byte) (h : P s) : P (manageAxis t b s) := by
  unfold Machine.manageAxis; dsimp only; repeat' split
  exacts [k.up _ (k.enableAxis _ h), k.up _ (k.disableAxis _ h), k.up _ h, k.up _ h]

theorem manageSnapshot (t : Byte) (b : List Byte) (h : P s) : P (manageSnapshot t b s) := by
  unfold Machine.manageSnapshot; split
  exacts [k.up _ (k.touch h rfl), k.up _ h]

theorem manageClearCold (t : Byte) (b : List Byte) (h : P s) : P (manageClearCold t b s) := by
  unfold Machine.manageClearCold; split
  exacts [k.up _ (k.trunk _ h), k.up _ h]

theorem raiseAgain (h : P s) : P (raiseAgain s) := by
  have last : ∀ {t}, P t → P (if t.gc.state = .island then Machine.raise keyTrunkLost t else t) :=
    fun h => by split; exacts [k.raise _ h, h]
  unfold Machine.raiseAgain; dsimp only
  refine last (forRows_keeps (P := P) (fun st s h => ?_) ?_)
  · split
    exacts [k.raiseLost st h, h]
  · split
    exacts [k.setPower (k.raise _ h), h]

/-! ### Every command -/

/-- What a command does to the part keeps `P`, whatever the level of RESET_N, and so does taking the notices it gave. -/
theorem actOr {held f : Gx24 → Gx24} {s t : State} (hl : ∀ {p}, P p → P (held p)) (hf : ∀ {p}, P p → P (f p))
    (h : P s.part) (ht : s.actOr held f = .next t) : P t.part := by
  rw [State.actOr_eq] at ht
  injection ht with ht
  subst ht
  dsimp only; split
  exacts [hl h, k.settle (hf h)]

/-- The same of a command that has no effect while RESET_N is asserted. -/
theorem act {f : Gx24 → Gx24} {s t : State} (hf : ∀ {p}, P p → P (f p)) (h : P s.part) (ht : s.act f = .next t) :
    P t.part := k.actOr (fun h => h) hf h ht

theorem frameAct {f : Gx24 → Gx24} {s t : State} (hf : ∀ {p}, P p → P (f p)) (h : P s.part)
    (ht : s.act (Machine.takeFrame f) = .next t) : P t.part := k.act (fun h => k.takeFrame hf h) h ht

theorem handleTick (n : Word) (c : Byte) (h : P s) : P (handleTick n c s) := by
  unfold Machine.handleTick; split
  exacts [k.takeTick _ _ h, k.frameError h]

theorem handleMove (a p m : Byte) (h : P s) : P (handleMove a p m s) := by
  unfold Machine.handleMove; split
  exacts [k.claimAxis _ _ h, k.frameError h]

theorem handleHalt (a m : Byte) (h : P s) : P (handleHalt a m s) := by
  unfold Machine.handleHalt; split
  exacts [k.haltAxis _ _ h, k.frameError h]

theorem handleJog (a : Byte) (x y : Word) (h : P s) : P (handleJog a x y s) := by
  unfold Machine.handleJog; split
  exacts [k.claimAxis _ _ h, k.frameError h]

theorem handleAck (i g : Byte) (h : P s) : P (handleAck i g s) := by
  unfold Machine.handleAck; repeat' split
  exacts [k.frameError h, k.growAlert _ (k.acknowledgeAll _ h), k.growAlert _ h]

theorem handleVerdict (e n v : Byte) (h : P s) : P (handleVerdict e n v s) := by
  unfold Machine.handleVerdict; split
  exacts [k.takeVerdict _ _ _ h, k.frameError h]

theorem handleOutput (st x l v : Byte) (h : P s) : P (handleOutput st x l v s) := by
  unfold Machine.handleOutput; repeat' split
  exacts [k.writeLamp _ _ _ h, k.frameError h, k.writeCue _ _ h, k.frameError h]

theorem discardFrame (l : List Byte) (h : P s) : P (discardFrame l s) := by
  unfold Machine.discardFrame; split
  exacts [k.growTrunk _ h, h]

theorem eventDwellEnd (a : Fin 8) (h : P s) : P (eventDwellEnd a s) := by
  unfold Machine.eventDwellEnd; dsimp only; split
  exacts [k.stepAxis a h, h]

theorem eventGuardSettle (a : Fin 8) (h : P s) : P (eventGuardSettle a s) := by
  unfold Machine.eventGuardSettle; dsimp only; split
  exacts [k.stepAxis a h, h]

theorem eventStationLost (st : Fin 24) (h : P s) : P (eventStationLost st s) := by
  have miss : P (missAwaited st s) := by
    unfold missAwaited; repeat' split
    exacts [k.endSlot none h, h, h]
  unfold Machine.eventStationLost; dsimp only; repeat' split
  exacts [k.loseStation st h, miss, h, h]

theorem eventQueryTimeout (h : P s) : P (eventQueryTimeout s) := by
  unfold Machine.eventQueryTimeout; repeat' split
  exacts [k.endQuery _ _ h, h, h]

theorem eventChainFaultLoop (e : Fin 16) (h : P s) : P (eventChainFaultLoop e s) := by
  unfold Machine.eventChainFaultLoop; split
  exacts [k.chainFault _ _ h, h]

theorem eventCrowding (e : Fin 16) (h : P s) : P (eventCrowding e s) := by
  unfold Machine.eventCrowding; dsimp only; split
  exacts [k.raiseCrowding e h, h]

theorem eventGuardHeld (a : Fin 8) (h : P s) : P (eventGuardHeld a s) := by
  unfold Machine.eventGuardHeld; dsimp only; split
  exacts [k.raiseGuardHeld a (k.modAxis a _ h), h]

theorem eventClaimTimeout (a : Fin 8) (c : Claimant) (h : P s) : P (eventClaimTimeout a c s) := by
  unfold Machine.eventClaimTimeout; repeat' split
  exacts [k.timeOutClaim a c (k.modAxis a _ h), h, h]

theorem eventCooldownEnd (e : Fin 16) (h : P s) : P (eventCooldownEnd e s) := by
  unfold Machine.eventCooldownEnd; split
  exacts [k.cooldownOver e (k.modExhibit _ _ h), h]

theorem eventWaitTicksEnd (e : Fin 16) (h : P s) : P (eventWaitTicksEnd e s) := by
  unfold Machine.eventWaitTicksEnd; split
  exacts [k.endWait e (k.modRunner _ _ h), h]

theorem eventReferralTimeout (e : Fin 16) (h : P s) : P (eventReferralTimeout e s) := by
  unfold Machine.eventReferralTimeout; split
  exacts [k.timeOutReferral e (k.modRunner _ _ h), h]

theorem eventQuietExpiry (h : P s) : P (eventQuietExpiry s) := by
  unfold Machine.eventQuietExpiry; split
  exacts [k.expireQuiet (k.activity _ h), h]

theorem eventIdleExpiry (e : Fin 16) (h : P s) : P (eventIdleExpiry e s) := by
  unfold Machine.eventIdleExpiry; split
  exacts [k.expireIdle e h, h]

theorem eventIslandEntry (h : P s) : P (eventIslandEntry s) := by
  unfold Machine.eventIslandEntry; split
  exacts [k.enterIsland h, h]

theorem eventCueFire (e : Fin 16) (d : Word) (h : P s) : P (eventCueFire e d s) := by
  unfold Machine.eventCueFire; repeat' split
  exacts [k.runCue _ (k.takeCues _ h), h, h]

theorem sendHead (h : P s) : P (sendHead s) := by
  unfold Machine.sendHead; split
  exacts [h, k.touch h rfl]

theorem stationWithdrawn (st : Fin 24) (h : P s) : P (stationWithdrawn st s) :=
  k.endQueryOf st (k.endStationWaits st (k.modStation _ _ (k.decideGuardsOf st (k.endLost st (k.branch _ h)))))

theorem enableStation (st : Fin 24) (h : P s) : P (enableStation st s) := k.decideGuardsOf st (k.modStation _ _ h)

theorem disableStation (st : Fin 24) (h : P s) : P (disableStation st s) := k.stationWithdrawn st (k.modStation _ _ h)

/-- ESTOP_N asserted cuts the drives and faults the axes (R125). -/
theorem assertEstop (h : P s) : P (assertEstop s) := by
  unfold Machine.assertEstop; dsimp only; split
  · exact h
  · refine forRows_keeps (P := P) (fun a _ h => k.faultAxis a .estop h) (forRows_keeps (P := P) (fun a _ h => k.modAxis a _ h) ?_)
    exact k.setPower (k.raise _ (k.touch h rfl))

theorem releaseEstop (h : P s) : P (releaseEstop s) := by
  unfold Machine.releaseEstop; dsimp only; split
  · exact h
  · exact forRows_keeps (P := P) (fun a _ h => k.recoverTest a h) (k.setPower (k.endCondition _ (k.touch h rfl)))

/-- A station's row written moves the station by itself alone, apart from what the view leaves out (R2). -/
theorem moveStation (st : Fin 24) (old new : StationRow) (any : ∀ {s} f, P s → P (Machine.modStation st f s)) (h : P s) :
    P (moveStation st old new s) := by
  unfold Machine.moveStation; repeat' split
  exacts [k.enableStation st h, k.disableStation st h, k.stationWithdrawn st (any _ h), h]

omit k in
theorem beaconRowWritten (st : Fin 24) (old new : StationRow) (any : ∀ {s} f, P s → P (Machine.modStation st f s)) (h : P s) :
    P (beaconRowWritten st old new s) := by
  unfold Machine.beaconRowWritten; split
  exacts [any _ h, h]

end KeptView

/-- With the updates that only commands make: the sweep going on, station and trigger rows written, and the resets. -/
structure KeptViewAll (P : Gx24 → Prop) : Prop extends KeptView P where
  free : ∀ {s t}, SameView s t → P s → P t
  writeStationRow : ∀ {s} w c, P s → P (writeStationRow w c s).2
  writeTriggerRow : ∀ {s} w c, P s → P (writeTriggerRow w c s).2
  coldBlocks : ∀ n s, P (coldBlocks n s)
  warmBlocks : ∀ {s}, P s → P (warmBlocks s)

namespace KeptViewAll

variable {P : Gx24 → Prop} {s : Gx24} (k : KeptViewAll P)
include k

/-! ### The sweep (chapter 1) -/

theorem startSweep (h : P s) : P (startSweep s) :=
  k.free (sameView_startSweep s) h

theorem pollStation (st : Fin 24) (h : P s) : P (pollStation st s) := by
  unfold Machine.pollStation; dsimp only
  have ask : P (askQuery st s).2 := by
    unfold askQuery; repeat' split
    exacts [k.branch _ h, h, h]
  have step : ∀ {s}, P s → P (stepPoint st s) := fun h => by
    unfold stepPoint; dsimp only; split
    exacts [k.stepAxis _ (k.branch _ (k.modStation _ _ h)), k.modStation _ _ h]
  have await {s : Gx24} {w : Awaiting} (h : P s) : P { s with bs := { s.bs with awaiting := some w } } :=
    k.free (s := s) ⟨rfl, rfl, fun _ => rfl, rfl, fun _ => rfl, rfl⟩ h
  refine k.branchPins _ ?_
  split
  exacts [step (await ask), await ask]

theorem beginSlot (i : Fin 32) (h : P s) : P (beginSlot i s) := by
  unfold Machine.beginSlot; dsimp only
  have h1 : P { s with branchOut := [], bs := { s.bs with nextSlot := ⟨i.val + 1, by omega⟩ } } :=
    k.free (s := s) ⟨rfl, rfl, fun _ => rfl, rfl, fun _ => rfl, rfl⟩ h
  repeat' split
  exacts [h1, h1, k.pollStation _ h1]

theorem nextSlotStart (h : P s) : P (nextSlotStart s) := by
  unfold Machine.nextSlotStart; dsimp only
  have h1 := k.settle (k.endSlot none h)
  split
  exacts [k.beginSlot _ h1, k.beginSlot 0 (k.startSweep h1)]

theorem eventSweepStart (h : P s) : P (eventSweepStart s) := by
  unfold Machine.eventSweepStart; split
  exacts [k.startSweep (k.settle (k.endSlot none h)), h]

/-! ### Commands -/

theorem estopHeld (b : Bool) (_ : P s) : P (estopHeld b s) :=
  k.setPower (k.touch (k.coldBlocks s.tp.node { s with estop := b }) rfl)

theorem coldReset (n : Option Serial) (_ : P s) : P (coldReset n s) := by
  cases n with
  | none => exact k.setPower (k.touch (k.coldBlocks s.tp.node s) rfl)
  | some n =>
    unfold Machine.coldReset releaseReset; dsimp only; split
    exacts [k.setPower (k.raise _ (k.coldBlocks n s)), k.setPower (k.coldBlocks n s)]

theorem ownerWrite (i : Nat) (w : Word) (c : List Byte) {r : ReplyCode × Gx24} (hr : ownerWrite i w c s = some r)
    (h : P s) : P r.2 := by
  unfold Machine.ownerWrite at hr
  split at hr <;> first | (cases hr; done) | (injection hr with hr; subst hr)
  exacts [k.writeStationRow _ _ h, k.writeSchedule _ _ h, k.writeInputMap _ _ h, k.writeTriggerRow _ _ h,
    k.writeAction _ _ h, k.writeExhibitConfig _ _ h, k.writeAxisParams _ _ h, k.writeProgram _ _ h,
    k.writeSegment _ _ h, k.writeAlertClass _ _ h, k.writeNeighbours _ _ h, k.writeSettings _ _ h]

theorem writeTable (t : Byte) (b : List Byte) (h : P s) : P (writeTable t b s) := by
  unfold Machine.writeTable; dsimp only; split
  · split
    · exact k.up _ h
    · split
      · rename_i hr; exact k.up _ (k.ownerWrite _ _ _ hr h)
      · exact k.up _ h
  · exact k.up _ h
  · exact k.up _ h

theorem manageReset (t : Byte) (b : List Byte) (h : P s) : P (manageReset t b s) := by
  unfold Machine.manageReset; split
  exacts [k.raiseAgain (k.up _ (k.warmBlocks h)), k.up _ h]

/-- Every command keeps what `KeptViewAll` keeps. -/
theorem exec {i : Instr} {s t : State} (h : P s.part) (ht : exec i s = .next t) : P t.part := by
  cases i
  case coldReset => exact k.actOr (fun h => k.settle (k.coldReset _ h)) (k.coldReset _) h ht
  case estopAsserted => exact k.actOr (k.estopHeld true) k.assertEstop h ht
  case estopReleased => exact k.actOr (k.estopHeld false) k.releaseEstop h ht
  case sweepStart => exact k.act k.eventSweepStart h ht
  case slotStart => exact k.act k.nextSlotStart h ht
  case dwellEnd => exact k.act (k.eventDwellEnd _) h ht
  case guardSettle => exact k.act (k.eventGuardSettle _) h ht
  case slotEnd => exact k.act (k.endSlot _) h ht
  case stationLost => exact k.act (k.eventStationLost _) h ht
  case queryTimeout => exact k.act k.eventQueryTimeout h ht
  case chainFaultLoop => exact k.act (k.eventChainFaultLoop _) h ht
  case crowding => exact k.act (k.eventCrowding _) h ht
  case guardHeld => exact k.act (k.eventGuardHeld _) h ht
  case claimTimeout => exact k.act (k.eventClaimTimeout _ _) h ht
  case escalation => exact k.act (k.eventEscalation _) h ht
  case cooldownEnd => exact k.act (k.eventCooldownEnd _) h ht
  case waitTicksEnd => exact k.act (k.eventWaitTicksEnd _) h ht
  case referralTimeout => exact k.act (k.eventReferralTimeout _) h ht
  case quietTimerExpiry => exact k.act k.eventQuietExpiry h ht
  case idleExpiry => exact k.act (k.eventIdleExpiry _) h ht
  case localTimerExpiry => exact k.act k.localExpiry h ht
  case islandEntry => exact k.act k.eventIslandEntry h ht
  case tick => exact k.act (fun h => k.handleTick _ _ (k.growTrunk _ h)) h ht
  case cueFire => exact k.act (k.eventCueFire _ _) h ht
  case downFrameDiscarded => exact k.act (k.discardFrame _) h ht
  case cueFrame => exact k.frameAct (k.takeCue _ _ _ _) h ht
  case cueCancel => exact k.frameAct (k.cancelCue _ _) h ht
  case moveFrame => exact k.frameAct (k.handleMove _ _ _) h ht
  case halt => exact k.frameAct (k.handleHalt _ _) h ht
  case jog => exact k.frameAct (k.handleJog _ _ _) h ht
  case ackAlert => exact k.frameAct (k.handleAck _ _) h ht
  case verdict => exact k.frameAct (k.handleVerdict _ _ _) h ht
  case query => exact k.frameAct (k.takeQuery _ _) h ht
  case outputLamp => exact k.frameAct (k.handleOutput _ _ _ _) h ht
  case outputCue => exact k.frameAct (k.handleOutput _ _ _ _) h ht
  case tableRead => exact k.frameAct (k.readTable _ _) h ht
  case tableWrite => exact k.frameAct (k.writeTable _ _) h ht
  case stationRowWrite => exact k.frameAct (fun h => k.replyWrite _ _ _ (k.writeStationRow _ _ h)) h ht
  case sweepScheduleWrite => exact k.frameAct (fun h => k.replyWrite _ _ _ (k.writeSchedule _ _ h)) h ht
  case inputMapWrite => exact k.frameAct (fun h => k.replyWrite _ _ _ (k.writeInputMap _ _ h)) h ht
  case triggerRowWrite => exact k.frameAct (fun h => k.replyWrite _ _ _ (k.writeTriggerRow _ _ h)) h ht
  case actionEntryWrite => exact k.frameAct (fun h => k.replyWrite _ _ _ (k.writeAction _ _ h)) h ht
  case exhibitConfigWrite => exact k.frameAct (fun h => k.replyWrite _ _ _ (k.writeExhibitConfig _ _ h)) h ht
  case axisParameterWrite => exact k.frameAct (fun h => k.replyWrite _ _ _ (k.writeAxisParams _ _ h)) h ht
  case programWrite => exact k.frameAct (fun h => k.replyWrite _ _ _ (k.writeProgram _ _ h)) h ht
  case segmentWrite => exact k.frameAct (fun h => k.replyWrite _ _ _ (k.writeSegment _ _ h)) h ht
  case alertClassWrite => exact k.frameAct (fun h => k.replyWrite _ _ _ (k.writeAlertClass _ _ h)) h ht
  case zoneNeighbourWrite => exact k.frameAct (fun h => k.replyWrite _ _ _ (k.writeNeighbours _ _ h)) h ht
  case settingsWrite => exact k.frameAct (fun h => k.replyWrite _ _ _ (k.writeSettings _ _ h)) h ht
  case exhibitMode => exact k.frameAct (k.manageMode _ _) h ht
  case axisEnable => exact k.frameAct (k.manageAxis _ _) h ht
  case axisDisable => exact k.frameAct (k.manageAxis _ _) h ht
  case snapshot => exact k.frameAct (k.manageSnapshot _ _) h ht
  case resetWarm => exact k.frameAct (k.manageReset _ _) h ht
  case clearCold => exact k.frameAct (k.manageClearCold _ _) h ht
  case upFrameSent => exact k.act k.sendHead h ht
  case mgmtUnknownOperation => exact k.frameAct (fun h => k.up _ h) h ht

/-- A step keeps what every command and the taking of notices keep. -/
theorem step {s t : State} (h : P s.part) (ht : step s = .next t) : P t.part := by
  unfold Machine.step at ht; split at ht
  · injection ht with ht; subst ht; exact k.settle h
  · next c rest _ => exact k.exec (s := { s with pending := rest }) h ht

end KeptViewAll

end Sys2Proof.Machine
end

section
/-! The stories (R35): each update of a continuation entry, of a trigger row or of an exhibit's mode keeps the entries EMPTY but
for STEPPED rows of PUBLIC exhibits. -/

namespace Sys2Proof.Machine

variable {s t : Gx24}

/-- The law lasts while rows and modes stand and no EMPTY entry is written. -/
theorem StoryLaw.shrunk (h : StoryLaw s) (rows : t.pd.rows = s.pd.rows)
    (modes : ∀ e, (exhibitOf e t).mode = (exhibitOf e s).mode)
    (stories : ∀ r, tget t.pd.continuation r ≠ none → tget s.pd.continuation r ≠ none) : StoryLaw t := fun r hr => by
  obtain ⟨style, e, he, pub⟩ := h r (stories r hr)
  refine ⟨?_, e, ?_, (modes e).trans pub⟩ <;> unfold triggerOf <;> rw [rows]
  exacts [style, he]

theorem StoryLaw.of_noStories (empty : t.pd.continuation = Vector.replicate 128 none) : StoryLaw t :=
  fun r hr => absurd (by rw [empty]; exact Vector.getElem_replicate _) hr

theorem StoryLaw.of_view (h : StoryLaw s) (same : SameView s t) : StoryLaw t :=
  h.shrunk same.triggers same.modes fun r hr => by rwa [same.stories] at hr

theorem storyLaw_clearStories (e : Fin 16) (h : StoryLaw s) : StoryLaw (clearStories e s) :=
  h.shrunk (by simp only [clearStories]) (fun _ => by simp only [clearStories, exhibitOf]) fun r hr => by
    simp only [clearStories, tget_tmake] at hr
    split at hr
    exacts [absurd rfl hr, hr]

theorem storyLaw_startIndex (r : Fin 128) (h : StoryLaw s) : StoryLaw (startIndex r s).2 := by
  unfold startIndex; dsimp only; split
  · refine h.shrunk rfl (fun _ => rfl) fun r' hr => ?_
    simp only [tget_tput] at hr
    split at hr
    exacts [absurd rfl hr, hr]
  · exact h

/-- A PAUSE stores its link for a STEPPED row of a PUBLIC exhibit only (R37). -/
theorem storyLaw_storePause (row : Option (Fin 128)) (link : Link) (h : StoryLaw s) : StoryLaw (storePause row link s) := by
  unfold storePause; split
  · next r i =>
    split
    · next x hx =>
      split
      · next ok =>
        intro r' hr
        by_cases same : r' = r
        · subst same; exact ⟨ok.1, x, hx, ok.2⟩
        · exact h r' (by simpa [tget_tput, Ne.symm same] using hr)
      · exact h
    · exact h
  · exact h

/-- A change of mode drops the stories of the exhibit's rows, whatever the new mode is (R38). -/
theorem changeMode_pd (e : Fin 16) (m : Mode) (s : Gx24) : (changeMode e m s).pd = (clearStories e s).pd := by
  have lit (u : Gx24) : (showMode e u).pd = u.pd := by unfold showMode; split <;> rfl
  have drawn (u : Gx24) : (render u).pd = u.pd := by obtain ⟨p, st, b, hf⟩ := render_frame u; rw [hf]
  have cleared : (clearStories e (modExhibit e (fun x => { x with mode := m }) s)).pd = (clearStories e s).pd := by
    simp only [clearStories, triggerOf, modExhibit_pd]; rfl
  unfold changeMode; dsimp only; split
  exacts [(drawn _).trans ((lit _).trans cleared), (lit _).trans cleared]

theorem continuation_clearStories (e : Fin 16) (s : Gx24) (r : Fin 128) : tget (clearStories e s).pd.continuation r =
    if (triggerOf r s).exhibit = some e then none else tget s.pd.continuation r := tget_tmake _ r

theorem rows_clearStories (e : Fin 16) (s : Gx24) : (clearStories e s).pd.rows = s.pd.rows := by simp only [clearStories]

theorem storyLaw_changeMode (e : Fin 16) (m : Mode) (h : StoryLaw s) : StoryLaw (changeMode e m s) := fun r hr => by
  rw [changeMode_pd, continuation_clearStories] at hr
  split at hr
  · exact absurd rfl hr
  · next other =>
    obtain ⟨style, x, hx, pub⟩ := h r hr
    have ne : e ≠ x := fun same => other (same ▸ hx)
    have row : triggerOf r (changeMode e m s) = triggerOf r s := by unfold triggerOf; rw [changeMode_pd, rows_clearStories]
    exact ⟨by rw [row]; exact style, x, by rw [row]; exact hx, by rw [changeMode_mode, if_neg ne]; exact pub⟩

/-- A trigger row is written with its story dropped (R38). -/
theorem storyLaw_writeTriggerRow (w : Word) (c : List Byte) (h : StoryLaw s) : StoryLaw (writeTriggerRow w c s).2 := by
  unfold writeTriggerRow; split
  · next r new _ _ =>
    split
    · exact h
    · intro r' hr
      by_cases same : r = r'
      · simp [same] at hr
      · obtain ⟨style, e, he, pub⟩ := h r' (by simpa [tget_tput, same] using hr)
        have row (c : Tbl 128 (Option (Fin 1023))) : triggerOf r' ({ s with pd := ⟨s.pd.inputMap, tput s.pd.rows r new, c⟩ }) =
            triggerOf r' s := by simp [triggerOf, tget_tput, same]
        exact ⟨by rw [row]; exact style, e, by rw [row]; exact he, pub⟩
  · exact h

theorem storyLaw_warmBlocks (s : Gx24) : StoryLaw (warmBlocks s) := by
  obtain ⟨x, hx⟩ := warmBlocks_frame s
  rw [hx]; exact .of_noStories rfl

theorem keptView_storyLaw : KeptView StoryLaw where
  frame same _ h := h.of_view same
  render h := by
    obtain ⟨p, st, b, hf⟩ := render_frame _
    rw [hf]; exact h.shrunk rfl (fun _ => rfl) fun _ hr => hr
  clearStories e h := storyLaw_clearStories e h
  storePause r l h := storyLaw_storePause r l h
  startIndex r h := storyLaw_startIndex r h
  changeMode e m h := storyLaw_changeMode e m h

/-- The stories know nothing of the stations. -/
theorem storyLaw_writeStationRow (w : Word) (c : List Byte) (h : StoryLaw s) : StoryLaw (writeStationRow w c s).2 := by
  have any : ∀ {s : Gx24} {st : Fin 24} (f : Station → Station), StoryLaw s → StoryLaw (modStation st f s) :=
    fun _ h => h.shrunk rfl (fun _ => rfl) fun _ hr => hr
  unfold writeStationRow; split
  · dsimp only; split
    · exact h
    · refine KeptView.beaconRowWritten _ _ _ any (keptView_storyLaw.moveStation _ _ _ any ?_)
      exact h.shrunk rfl (fun _ => rfl) fun _ hr => hr
  · exact h

theorem keptViewAll_storyLaw : KeptViewAll StoryLaw where
  toKeptView := keptView_storyLaw
  free same h := h.of_view same
  writeStationRow w c h := storyLaw_writeStationRow w c h
  writeTriggerRow w c h := storyLaw_writeTriggerRow w c h
  coldBlocks _ _ := .of_noStories rfl
  warmBlocks _ := storyLaw_warmBlocks _

end Sys2Proof.Machine
end
section
open Sys2Proof Sys2Proof.Machine

/-- Settles O9: the updates that show in the stories each keep the law, and every step is made of them. -/
theorem storiesStayOfPublicSteppedRows : Obligations.StoriesStayOfPublicSteppedRows :=
  fun _ _ law ht => keptViewAll_storyLaw.step law ht
end

section
/-! SUPERVISOR and the zone patterns as functions of the records and the exhibits' modes (R141, R142): each change of these is
rendered, but for a countdown, which neither looks at. -/

namespace Sys2Proof.Machine

variable {s t : Gx24}

/-- SUPERVISOR and the zone patterns are those of the records and modes as they stand. -/
def SignalLaw (s : Gx24) : Prop := s.supervisor = supervisorCall s ∧ ∀ z, tget s.au.patterns z = zonePattern z s

namespace SignalLaw

/-- The signals look at the records, the neighbours and at which exhibits are DARK. -/
theorem congr (h : SignalLaw s) (supervisor : t.supervisor = s.supervisor) (au : t.au = s.au)
    (dark : ∀ x, exhibitDark x t = exhibitDark x s) : SignalLaw t := by
  obtain ⟨called, patterns⟩ := h
  have records (i : Fin 64) : recordAt i t = recordAt i s := by unfold recordAt; rw [au]
  refine ⟨supervisor.trans (called.trans ?_), fun z => ?_⟩
  · simp only [supervisorCall, records, dark]
  · have shown (p : AlertRecord → Bool) : someShown z p t = someShown z p s := by
      simp only [someShown, shows, reaches, records, dark, au]
    rw [au, patterns z]; unfold zonePattern; simp only [shown]

theorem sameModes (h : SignalLaw s) (supervisor : t.supervisor = s.supervisor) (au : t.au = s.au)
    (modes : ∀ e, (exhibitOf e t).mode = (exhibitOf e s).mode) : SignalLaw t :=
  h.congr supervisor au fun x => by cases x <;> simp only [exhibitDark, modes]

theorem render (s : Gx24) : SignalLaw (render s) := by
  refine ⟨?_, fun z => ?_⟩
  · rw [render_sets_supervisor, supervisorCall_congr (render_slots s) (render_exhibits s)]
  · rw [render_patterns, zonePattern_congr (render_slots s) (by rw [render_au]) (render_exhibits s)]

theorem alertsChanged (ns : List UpFrame) (s : Gx24) : SignalLaw (alertsChanged ns s) := by
  obtain ⟨-, supervisor, patterns, -⟩ := alertsChanged_outputsFollow ns s
  exact ⟨supervisor, patterns⟩

theorem announced (h : SignalLaw s) (k : Announced s t) : SignalLaw t := by
  obtain rfl | ⟨ns, u, rfl⟩ := k
  exacts [h, alertsChanged ns u]

theorem sendUp (h : SignalLaw s) (f : UpFrame) : SignalLaw (sendUp f s) :=
  h.sameModes (sendUp_supervisor ..) (sendUp_au ..) fun _ => by rw [exhibitOf_congr (sendUp_exhibits ..)]

/-- A change of mode from or to DARK is rendered; another leaves the DARK exhibits as they are (R145). -/
theorem changeMode (h : SignalLaw s) (e : Fin 16) (m : Mode) : SignalLaw (changeMode e m s) := by
  have lit (u : Gx24) : (showMode e u).supervisor = u.supervisor ∧ (showMode e u).au = u.au ∧
      (showMode e u).exhibits = u.exhibits := by unfold showMode; split <;> exact ⟨rfl, rfl, rfl⟩
  unfold Machine.changeMode; dsimp only; split
  · exact render _
  · next dark =>
    obtain ⟨old, new⟩ := not_or.mp dark
    obtain ⟨supervisor, au, exhibits⟩ := lit (clearStories e (modExhibit e (fun x => { x with mode := m }) s))
    refine h.congr (supervisor.trans (by simp)) (au.trans (by simp)) fun x => ?_
    cases x with
    | none => rfl
    | some e' =>
      unfold exhibitDark; dsimp only
      rw [exhibitOf_congr (exhibits.trans (clearStories_exhibits ..)), exhibitOf_modExhibit]
      split
      · next same => subst same; simp [old, new]
      · rfl

/-- The signals look at no countdown. -/
theorem lowered {i : Fin 64} {r : AlertRecord} (hr : recordAt i s = some r) (n : Nat) (h : SignalLaw s) :
    SignalLaw (putRecord i (some { r with countdown := n }) s) := by
  obtain ⟨called, patterns⟩ := h
  have records (i' : Fin 64) (p : AlertRecord → Bool) (hp : p { r with countdown := n } = p r) :
      (match recordAt i' (putRecord i (some { r with countdown := n }) s) with | some x => p x | none => false) =
        match recordAt i' s with | some x => p x | none => false := by
    rw [recordAt_putRecord]
    by_cases hi : i = i'
    · rw [if_pos hi, ← hi, hr]; exact hp
    · rw [if_neg hi]
  refine ⟨called.trans ?_, fun z => (patterns z).trans ?_⟩
  · exact congrArg anyRow (funext fun i' => (records i' _ rfl).symm)
  · have shown (p : AlertRecord → Bool) (hp : p { r with countdown := n } = p r) :
        someShown z p (putRecord i (some { r with countdown := n }) s) = someShown z p s :=
      congrArg anyRow (funext fun i' => records i' (fun r => shows r z s && p r) (congrArg (shows r z s && ·) hp))
    unfold zonePattern
    rw [shown _ rfl, shown _ rfl, shown _ rfl, shown _ rfl]

/-- A slot's count lowers a countdown or gives a notice (R140). -/
theorem escalateSlot (i : Fin 64) (k : List UpFrame × Gx24) (h : k.1 = [] → SignalLaw k.2) :
    (escalateSlot i k).1 = [] → SignalLaw (escalateSlot i k).2 := by
  unfold Machine.escalateSlot; dsimp only; repeat' split
  · exact h
  · exact h
  · exact fun none => absurd none (by simp)
  · next hr _ _ => exact fun none => lowered hr _ (h none)

theorem escalateAll (h : SignalLaw s) : SignalLaw (escalateAll s) := by
  have counted := forRows_keeps (n := 64) (P := fun k : List UpFrame × Gx24 => k.1 = [] → SignalLaw k.2)
    (fun i k h => escalateSlot i k h) (s := ([], s)) fun _ => h
  unfold Machine.escalateAll; dsimp only; split
  · next none => exact counted none
  · exact alertsChanged ..

theorem scheduleCue (h : SignalLaw s) (c : CueEntry) : SignalLaw (scheduleCue c s) := by
  have scheduled (cs : List CueEntry) : SignalLaw { s with gc := { s.gc with schedule := cs } } :=
    h.sameModes rfl rfl fun _ => rfl
  unfold Machine.scheduleCue; dsimp only; repeat' split
  exacts [((scheduled _).sendUp _).sendUp _, h.sendUp _, (scheduled _).sendUp _]

/-- Without a record nothing is signalled. -/
theorem of_noRecords (records : ∀ i, recordAt i t = none) (supervisor : t.supervisor = false)
    (patterns : t.au.patterns = Vector.replicate 4 .dark) : SignalLaw t := by
  refine ⟨supervisor.trans ?_, fun z => ?_⟩
  · simp only [supervisorCall, records]; rfl
  · rw [patterns]; simp only [zonePattern, someShown, records]; revert z; decide

theorem coldBlocks (n : Serial) (s : Gx24) : SignalLaw (coldBlocks n s) :=
  of_noRecords (fun i => recordAt_coldBlocks i n s) rfl rfl

theorem setPower (h : SignalLaw s) : SignalLaw (setPower s) := h.sameModes rfl rfl fun _ => rfl

theorem coldReset (n : Option Serial) (s : Gx24) : SignalLaw (coldReset n s) := by
  unfold Machine.coldReset releaseReset; dsimp only; repeat' split
  · exact (SignalLaw.sameModes (coldBlocks s.tp.node s) rfl rfl fun _ => rfl).setPower
  · exact ((coldBlocks _ s).announced (raise_announced _ _)).setPower
  · exact (coldBlocks _ s).setPower

theorem warmBlocks (s : Gx24) : SignalLaw (warmBlocks s) := by
  obtain ⟨x, hx⟩ := warmBlocks_frame s
  rw [hx]
  refine of_noRecords (fun i => ?_) rfl rfl
  show (tget (tmake fun i => (⟨_, none⟩ : AlertSlot)) i).record = none
  rw [tget_tmake]

end SignalLaw

theorem keptLive_signalLaw : KeptLive SignalLaw where
  frame e h := h.sameModes e.supervisor e.au e.modes
  missed _ h := h.sameModes rfl rfl fun _ => rfl
  up f h := h.sendUp f
  axis _ _ _ h := h.sameModes rfl rfl fun _ => rfl
  raise key h := h.announced (raise_announced key _)
  endCondition key h := h.announced (endCondition_announced key _)
  acknowledge l h := h.announced (acknowledge_announced l _)
  render _ := .render _
  changeMode e m h := h.changeMode e m
  live _ _ _ := fun _ _ _ h => h.sameModes rfl rfl fun _ => rfl

theorem SignalLaw.assertEstop (h : SignalLaw s) : SignalLaw (assertEstop s) := by
  by_cases asserted : s.estop = true
  · rw [show Machine.assertEstop s = s from if_pos asserted]; exact h
  · rw [assertEstop_of_released (by simpa using asserted)]
    have raised : SignalLaw s.estopRaised :=
      ((h.sameModes (t := { s with estop := true }) rfl rfl fun _ => rfl).announced (raise_announced _ _)).setPower
    have cut : SignalLaw s.estopRaised.drivesOff :=
      forRows_keeps (P := SignalLaw) (f := fun a s => modAxis a Axis.driveOff s)
        (fun _ _ h => h.sameModes rfl rfl fun _ => rfl) raised
    exact forRows_keeps (P := SignalLaw) (fun a _ h => keptLive_signalLaw.faultAxis a .estop h) cut

theorem keptAll_signalLaw : KeptAll SignalLaw where
  toKeptLive := keptLive_signalLaw
  clock _ _ h := h.sameModes rfl rfl fun _ => rfl
  cues _ _ h := h.sameModes rfl rfl fun _ => rfl
  cueTaken c h := h.scheduleCue c
  trunk _ _ h := h.sameModes rfl rfl fun _ => rfl
  sent h := by
    unfold sendHead; split
    exacts [h, h.sameModes rfl rfl fun _ => rfl]
  classes _ h := ⟨h.1, h.2⟩
  neighbours _ _ := .render _
  escalateAll h := h.escalateAll
  escalation i h := by
    unfold eventEscalation; dsimp only; repeat' split
    exacts [.alertsChanged .., h, h]
  power h := h.setPower
  asserted h := h.assertEstop
  released {s} _ h := ((h.sameModes (t := { s with estop := false }) rfl rfl fun _ => rfl).announced
    (endCondition_announced _ _)).setPower
  cold n _ := .coldReset n _
  held {s} b _ := ((SignalLaw.coldBlocks s.tp.node { s with estop := b }).sameModes
    (t := { Machine.coldBlocks s.tp.node { s with estop := b } with resetLow := true }) rfl rfl fun _ => rfl).setPower
  warm _ := .warmBlocks _

/-! ### The beacon images (R13, R141) -/

/-- The BEACON stations the property picks show their zone's pattern. -/
def ShownAt (Q : Fin 24 → Prop) (s : Gx24) : Prop :=
  ∀ st, Q st → (rowOf st s).kind = .beacon → (stationOf st s).beacon = tget s.au.patterns (rowOf st s).zone

theorem beacon_writeBeacon (st st' : Fin 24) (p : BeaconPattern) (t : Gx24) :
    (stationOf st' (writeBeacon st p t)).beacon = if st = st' then p else (stationOf st' t).beacon := by
  simp only [stationOf, writeBeacon, modStation_bs, tget_tmod]; split <;> simp_all

namespace ShownAt

variable {Q : Fin 24 → Prop}

theorem frame (same : SameView s t) (h : ShownAt Q s) : ShownAt Q t := fun st picked kind => by
  have row : rowOf st t = rowOf st s := by unfold rowOf; rw [same.rows]
  rw [row] at kind ⊢
  rw [same.beacons, same.patterns]; exact h st picked kind

theorem touch (h : ShownAt Q s) (same : t.viewed = s.viewed) : ShownAt Q t := h.frame (.of_viewed same)

/-- The zone has a new pattern, and the images of other stations than its BEACONs are as they were. -/
structure Redrawn (z : Fin 4) (s t : Gx24) : Prop where
  rows : t.bs.rows = s.bs.rows
  patterns : t.au.patterns = tput s.au.patterns z (zonePattern z s)
  others : ∀ st, ¬((rowOf st s).kind = .beacon ∧ (rowOf st s).zone = z) → (stationOf st t).beacon = (stationOf st s).beacon

/-- A BEACON station of the zone is given the pattern. -/
def drawBeacon (z : Fin 4) (p : BeaconPattern) (st : Fin 24) (t : Gx24) : Gx24 :=
  if (rowOf st t).kind = .beacon ∧ (rowOf st t).zone = z then writeBeacon st p t else t

namespace Redrawn

variable {z : Fin 4}

theorem row (d : Redrawn z s t) (st : Fin 24) : rowOf st t = rowOf st s := by unfold rowOf; rw [d.rows]

theorem draw (st : Fin 24) (t : Gx24) (d : Redrawn z s t) : Redrawn z s (drawBeacon z (zonePattern z s) st t) := by
  unfold drawBeacon; rw [d.row]; split
  · next beacon =>
    refine ⟨d.rows, d.patterns, fun st' other => ?_⟩
    rw [beacon_writeBeacon, if_neg (by rintro rfl; exact other beacon), d.others st' other]
  · exact d

/-- Once every station has had its turn, the zone's BEACONs show the pattern. -/
theorem beacons (start : Redrawn z s t) (st : Fin 24) : (rowOf st s).kind = .beacon ∧ (rowOf st s).zone = z →
    (stationOf st (forRows (drawBeacon z (zonePattern z s)) t)).beacon = zonePattern z s := by
  refine forRows_reaches (P := Redrawn z s) (Q := fun st t => (rowOf st s).kind = .beacon ∧ (rowOf st s).zone = z →
    (stationOf st t).beacon = zonePattern z s) draw (fun st t d beacon => ?_) (fun st st' t d shown beacon => ?_) start st
  · unfold drawBeacon; rw [d.row, if_pos beacon, beacon_writeBeacon, if_pos rfl]
  · unfold drawBeacon; split
    · rw [beacon_writeBeacon, shown beacon, ite_self]
    · exact shown beacon

theorem shown (drawn : Redrawn z s t) (beacons : ∀ st, (rowOf st s).kind = .beacon ∧ (rowOf st s).zone = z →
    (stationOf st t).beacon = zonePattern z s) (h : ShownAt Q s) : ShownAt Q t := fun st picked kind => by
  rw [drawn.row] at kind ⊢
  rw [drawn.patterns, tget_tput]
  by_cases zone : (rowOf st s).zone = z
  · rw [if_pos zone.symm, beacons st ⟨kind, zone⟩]
  · rw [if_neg (Ne.symm zone), drawn.others st fun other => zone other.2]; exact h st picked kind

end Redrawn

/-- A zone's new pattern goes to every BEACON station of the zone (R141). -/
theorem renderZone (z : Fin 4) (h : ShownAt Q s) : ShownAt Q (renderZone z s) := by
  by_cases same : zonePattern z s = tget s.au.patterns z
  · rw [renderZone_shown same.symm]; exact h
  · rw [show Machine.renderZone z s = forRows (drawBeacon z (zonePattern z s))
      { s with au := { s.au with patterns := tput s.au.patterns z (zonePattern z s) } } from if_neg same]
    have start : Redrawn z s { s with au := { s.au with patterns := tput s.au.patterns z (zonePattern z s) } } :=
      ⟨rfl, rfl, fun _ _ => rfl⟩
    exact (forRows_keeps (P := Redrawn z s) Redrawn.draw start).shown start.beacons h

theorem render (h : ShownAt Q s) : ShownAt Q (render s) := by
  have zones : ShownAt Q (forRows Machine.renderZone s) := forRows_keeps (P := ShownAt Q) (fun z _ h => renderZone z h) h
  unfold Machine.render; dsimp only
  generalize forRows Machine.renderZone s = u at zones
  exact zones.touch rfl

theorem clearStories (e : Fin 16) (h : ShownAt Q s) : ShownAt Q (clearStories e s) := by
  intro st; unfold rowOf stationOf; rw [clearStories_bs, clearStories_au]; exact h st

theorem storePause (r : Option (Fin 128)) (l : Link) (h : ShownAt Q s) : ShownAt Q (storePause r l s) := by
  unfold Machine.storePause; repeat' split
  all_goals exact fun st picked kind => h st picked kind

theorem startIndex (r : Fin 128) (h : ShownAt Q s) : ShownAt Q (startIndex r s).2 := by
  unfold Machine.startIndex; dsimp only; split
  all_goals exact fun st picked kind => h st picked kind

/-- A station changed in anything but its beacon. -/
theorem modStation (st : Fin 24) (f : Station → Station) (hf : ∀ x, (f x).beacon = x.beacon) (h : ShownAt Q s) :
    ShownAt Q (modStation st f s) := fun st' picked kind => by
  have beacon : (stationOf st' (Machine.modStation st f s)).beacon = (stationOf st' s).beacon := by
    simp only [stationOf, modStation_bs, tget_tmod]; split <;> simp_all
  rw [beacon]; exact h st' picked kind

theorem changeMode (e : Fin 16) (m : Mode) (h : ShownAt Q s) : ShownAt Q (changeMode e m s) := by
  have moved : ShownAt Q (modExhibit e (fun x => { x with mode := m }) s) := fun st picked kind => h st picked kind
  have lit {u : Gx24} (h : ShownAt Q u) : ShownAt Q (showMode e u) := by
    unfold showMode; split
    exacts [h.modStation _ _ fun _ => rfl, h]
  unfold Machine.changeMode; dsimp only; split
  exacts [(lit (moved.clearStories e)).render, lit (moved.clearStories e)]

end ShownAt

theorem keptView_shownAt (Q : Fin 24 → Prop) : KeptView (ShownAt Q) where
  frame same _ h := h.frame same
  render h := h.render
  clearStories e h := h.clearStories e
  storePause r l h := h.storePause r l
  startIndex r h := h.startIndex r
  changeMode e m h := h.changeMode e m

theorem beaconsShow_iff {s : Gx24} : s.BeaconsShow ↔ ShownAt (fun _ => True) s :=
  ⟨fun h st _ kind => h st kind, fun h st kind => h st trivial kind⟩

theorem render_rows (s : Gx24) : (render s).bs.rows = s.bs.rows := by
  obtain ⟨p, st, b, hf⟩ := render_frame s
  rw [hf]

theorem storePause_bs (row : Option (Fin 128)) (link : Link) (s : Gx24) : (storePause row link s).bs = s.bs := by
  unfold storePause; split
  · dsimp only; repeat' split
    all_goals rfl
  · rfl

theorem startIndex_bs (r : Fin 128) (s : Gx24) : (startIndex r s).2.bs = s.bs := by
  unfold startIndex; dsimp only; split <;> rfl

/-- Only a row write moves the station rows. -/
theorem keptView_rows (rows : Tbl 24 StationRow) : KeptView (fun s => s.bs.rows = rows) where
  frame same _ h := same.rows.trans h
  render {s} h := (render_rows s).trans h
  clearStories e h := by rwa [clearStories_bs]
  storePause r l h := by rwa [storePause_bs]
  startIndex r h := by rwa [startIndex_bs]
  changeMode {s} e m h := by
    have lit (u : Gx24) : (showMode e u).bs.rows = u.bs.rows := by unfold showMode; split <;> rfl
    unfold Machine.changeMode; dsimp only; split
    · rw [render_rows, lit, clearStories_bs]; exact h
    · rw [lit, clearStories_bs]; exact h

section RowWrite

variable {st : Fin 24} {new : StationRow}

/-- The part with the station's row replaced, before the station moves by it. -/
def Gx24.rowPut (st : Fin 24) (new : StationRow) (s : Gx24) : Gx24 := { s with bs := { s.bs with rows := tput s.bs.rows st new } }

theorem rowOf_rowPut (st' : Fin 24) : rowOf st' (s.rowPut st new) = if st = st' then new else rowOf st' s := tget_tput ..

theorem rowOf_moved (old : StationRow) : rowOf st (moveStation st old new (s.rowPut st new)) = new := by
  have rows := (keptView_rows (s.rowPut st new).bs.rows).moveStation (s := s.rowPut st new) st old new (fun _ h => h) rfl
  unfold rowOf; rw [rows]; exact (rowOf_rowPut st).trans (if_pos rfl)

theorem others_rowPut (h : ShownAt (fun _ => True) s) : ShownAt (· ≠ st) (s.rowPut st new) := fun st' other kind => by
  rw [rowOf_rowPut, if_neg (Ne.symm other)] at kind ⊢
  exact h st' trivial kind

theorem others_modStation (f : Station → Station) (h : ShownAt (· ≠ st) s) : ShownAt (· ≠ st) (modStation st f s) :=
  fun st' other kind => by
    have same : stationOf st' (modStation st f s) = stationOf st' s := by
      simp only [stationOf, modStation_bs, tget_tmod, if_neg (Ne.symm other)]
    rw [same]; exact h st' other kind

theorem others_moved (old : StationRow) (h : ShownAt (fun _ => True) s) :
    ShownAt (· ≠ st) (moveStation st old new (s.rowPut st new)) :=
  (keptView_shownAt _).moveStation st old new others_modStation (others_rowPut h)

/-- With the station's own image right, all are. -/
theorem ShownAt.join (others : ShownAt (· ≠ st) s)
    (own : (rowOf st s).kind = .beacon → (stationOf st s).beacon = tget s.au.patterns (rowOf st s).zone) :
    ShownAt (fun _ => True) s := fun st' _ kind => by
  by_cases same : st' = st
  · subst same; exact own kind
  · exact others st' same kind

/-- A station that stays a BEACON of its zone keeps its image. -/
theorem stays_moved {old : StationRow} (hold : rowOf st s = old) (kinds : old.kind = new.kind) (zones : old.zone = new.zone)
    (h : ShownAt (fun _ => True) s) : ShownAt (fun _ => True) (moveStation st old new (s.rowPut st new)) := by
  have start : ShownAt (fun _ => True) (s.rowPut st new) := (others_rowPut h).join fun kind => by
    rw [rowOf_rowPut, if_pos rfl] at kind ⊢
    rw [← zones, ← hold]; exact h st trivial (by rw [hold, kinds, kind])
  have k := keptView_shownAt (fun _ => True)
  unfold moveStation; simp only [kinds, ne_eq, not_true_eq_false, decide_false, Bool.and_false, Bool.false_eq_true, if_false]
  repeat' split
  exacts [k.enableStation st start, k.disableStation st start, start]

/-- A station's row write leaves the images of the others, and writes this one's where its row now makes it another BEACON
(R1, R141). -/
theorem shownAt_writeStationRow (w : Word) (c : List Byte) (h : ShownAt (fun _ => True) s) :
    ShownAt (fun _ => True) (writeStationRow w c s).2 := by
  unfold writeStationRow; split
  · next st new _ _ =>
    dsimp only; split
    · exact h
    show ShownAt _ (beaconRowWritten st (rowOf st s) new (moveStation st (rowOf st s) new (s.rowPut st new)))
    unfold beaconRowWritten; split
    · refine (others_modStation _ (others_moved (rowOf st s) h)).join fun _ => ?_
      refine ((beacon_writeBeacon st st ..).trans (if_pos rfl)).trans ?_
      exact congrArg (fun row => tget _ (StationRow.zone row)) (rowOf_moved (rowOf st s)).symm
    · next unchanged =>
      by_cases beacon : new.kind = .beacon
      · have same : (rowOf st s).kind = .beacon ∧ (rowOf st s).zone = new.zone := by
          have := not_and.mp unchanged beacon
          exact ⟨not_not.mp fun k => this (.inl k), not_not.mp fun z => this (.inr z)⟩
        exact stays_moved rfl (same.1.trans beacon.symm) same.2 h
      · exact (others_moved (rowOf st s) h).join fun kind => absurd (by rwa [rowOf_moved] at kind) beacon
  · exact h

end RowWrite

theorem shownAt_writeTriggerRow {Q : Fin 24 → Prop} (w : Word) (c : List Byte) (h : ShownAt Q s) :
    ShownAt Q (writeTriggerRow w c s).2 := by
  unfold writeTriggerRow; repeat' split
  all_goals exact h

theorem rowOf_coldBlocks (st : Fin 24) (n : Serial) (s : Gx24) : rowOf st (coldBlocks n s) = .cold := by
  simp [rowOf, coldBlocks, Gx24.cold, Branch.cold, tget]

/-- No cold station row is a BEACON's. -/
theorem shownAt_coldBlocks (Q : Fin 24 → Prop) (n : Serial) (s : Gx24) : ShownAt Q (coldBlocks n s) := fun st _ kind => by
  rw [rowOf_coldBlocks] at kind; cases kind

theorem stationOf_warmBlocks (st : Fin 24) (s : Gx24) : stationOf st (warmBlocks s) = (stationOf st s).warm := by
  obtain ⟨x, hx⟩ := warmBlocks_frame s
  rw [hx]
  exact tget_tmake (fun st => (stationOf st s).warm) st

theorem patterns_warmBlocks (s : Gx24) : (warmBlocks s).au.patterns = Vector.replicate 4 .dark := by
  obtain ⟨x, hx⟩ := warmBlocks_frame s
  rw [hx]; rfl

/-- After a warm reset every image and every pattern is DARK (R22, R152). -/
theorem shownAt_warmBlocks (Q : Fin 24 → Prop) (s : Gx24) : ShownAt Q (warmBlocks s) := fun st _ _ => by
  rw [stationOf_warmBlocks, patterns_warmBlocks]
  exact (Vector.getElem_replicate _).symm

theorem keptViewAll_shown : KeptViewAll (ShownAt fun _ => True) where
  toKeptView := keptView_shownAt _
  free := .frame
  writeStationRow := shownAt_writeStationRow
  writeTriggerRow := shownAt_writeTriggerRow
  coldBlocks := shownAt_coldBlocks _
  warmBlocks _ := shownAt_warmBlocks _ _

theorem renderLaw_iff {s : Gx24} : RenderLaw s ↔ SignalLaw s ∧ ShownAt (fun _ => True) s :=
  ⟨fun ⟨supervisor, patterns, shown⟩ => ⟨⟨supervisor, patterns⟩, beaconsShow_iff.mp shown⟩,
    fun ⟨⟨supervisor, patterns⟩, shown⟩ => ⟨supervisor, patterns, beaconsShow_iff.mpr shown⟩⟩

end Sys2Proof.Machine
end
section
open Sys2Proof Sys2Proof.Machine

/-- Settles O7: what changes the records or a mode renders the signals, and what changes a pattern or a BEACON's row draws
the image. -/
theorem beaconsAndSupervisorStayRendered : Obligations.BeaconsAndSupervisorStayRendered := fun s t law ht => by
  obtain ⟨signals, shown⟩ := renderLaw_iff.mp law
  exact renderLaw_iff.mpr ⟨keptAll_signalLaw.step signals ht, keptViewAll_shown.step shown ht⟩
end

section
/-! A raise that is not lost (R131 to R133): it takes the lowest-numbered FREE general slot, or repeats the record of its key. -/

namespace Sys2Proof.Machine

variable {s : Gx24} {key : AlertKey} {i : Fin 64} {r : AlertRecord}

theorem firstRow_eq_some {n : Nat} {p : Fin n → Bool} {i : Fin n} (found : p i = true) (first : ∀ j, j < i → p j = false) :
    firstRow p = some i :=
  List.find?_eq_some_iff_getElem.mpr ⟨found, i.val, by simp, by simp, fun j hj => by simp [first ⟨j, by omega⟩ hj]⟩

/-- Announcing one change gives its notice, where the up queue has room (R131, R182). -/
theorem alertsChanged_upQueue (f : UpFrame) (room : s.tp.upQueue.length < 64) :
    (alertsChanged [f] s).tp.upQueue = s.tp.upQueue ++ [f] := by
  have tp : (render (setPower (giveHeld s))).tp = s.tp := by
    rw [render_tp]; unfold giveHeld; split <;> rfl
  unfold alertsChanged sendAll
  rw [forList_cons, forList_nil, sendUp_room f (by rwa [tp])]
  dsimp only; rw [tp]

theorem raise_shows (key : AlertKey) (h : s.BeaconsShow) : (raise key s).BeaconsShow :=
  beaconsShow_iff.mpr ((keptView_shownAt _).raise key (beaconsShow_iff.mp h))

/-! ### A new record (R131, R132) -/

theorem freeSlot_eq (general : i.val < 63) (free : recordAt i s = none) (lowest : ∀ j, j < i → recordAt j s ≠ none) :
    freeSlot s = some i :=
  firstRow_eq_some (by rw [free]; simp [isGeneral, general]) fun j hj => by
    rw [Option.isNone_eq_false_iff.mpr (Option.isSome_iff_ne_none.mpr (lowest j hj)), Bool.and_false]

/-- A record made in a slot and announced. -/
def announcedRecord (i : Fin 64) (r : AlertRecord) (s : Gx24) : Gx24 :=
  alertsChanged [noticeOf i r r.state.notice (takeSlot i r s)] (takeSlot i r s)

theorem announcedRecord_slots (r : AlertRecord) (s : Gx24) :
    (announcedRecord i r s).au.slots = tmod s.au.slots i (fun x => ⟨x.generation + 1#4, some r⟩) := by
  unfold announcedRecord; rw [alertsChanged_slots]; simp only [takeSlot]

theorem announcedRecord_upQueue (r : AlertRecord) (room : s.tp.upQueue.length < 64) :
    (announcedRecord i r s).tp.upQueue = s.tp.upQueue ++ [.alertNotice i ((tget s.au.slots i).generation + 1#4) r.key
      r.state.notice r.tier r.repeats r.saturated r.raiseTick s.gc.tick] := by
  have notice : noticeOf i r r.state.notice (takeSlot i r s) = .alertNotice i ((tget s.au.slots i).generation + 1#4) r.key
      r.state.notice r.tier r.repeats r.saturated r.raiseTick s.gc.tick := by
    unfold noticeOf takeSlot; dsimp only; rw [tget_tmod_same]
  unfold announcedRecord
  rw [notice]; exact alertsChanged_upQueue _ room

theorem raise_of_freeSlot (unmatched : slotOfKey key s = none) (free : freeSlot s = some i) :
    raise key s = announcedRecord i (newRecord key (tget s.au.classes key.cls) s) s := by
  unfold raise; rw [unmatched, free]; rfl

/-! ### A repeat (R133) -/

/-- The record a repeat leaves. -/
def AlertRecord.repeated (r : AlertRecord) : AlertRecord :=
  { r with
    repeats := min (r.repeats + 1) 255, saturated := r.saturated || decide (255 ≤ r.repeats + 1)
    state := if r.state = .waiting ∧ momentary r.key.cls = false then .opened else r.state }

theorem repeated_eq (r : AlertRecord) :
    { r.again with state := if !momentary r.key.cls && r.state = .waiting then .opened else r.state } = r.repeated := by
  unfold AlertRecord.again AlertRecord.repeated
  cases momentary r.key.cls <;> split <;> simp <;> omega

theorem repeatRaise_eq (i : Fin 64) (r : AlertRecord) (s : Gx24) : repeatRaise i r s = if r.repeated = r then s
    else alertsChanged [noticeOf i r.repeated r.repeated.state.notice s] (putRecord i (some r.repeated) s) := by
  have eq := repeated_eq r
  unfold repeatRaise
  generalize AlertRecord.mk _ _ _ _ _ _ _ _ _ _ _ _ _ _ = again at eq ⊢
  subst eq; dsimp only; rw [noticeOf_putRecord]

theorem raise_of_record (found : slotOfKey key s = some i) (hr : recordAt i s = some r) :
    raise key s = if r.repeated = r then s
      else alertsChanged [noticeOf i r.repeated r.repeated.state.notice s] (putRecord i (some r.repeated) s) := by
  unfold raise; rw [found]; dsimp only; rw [hr]; exact repeatRaise_eq i r s

end Sys2Proof.Machine
end
section
open Sys2Proof Sys2Proof.Machine

/-- Settles O22: either way one slot is written and the change announced. -/
theorem raiseMakesOrRepeatsARecord : Obligations.RaiseMakesOrRepeatsARecord := by
  refine ⟨?_, ?_⟩
  · intro p key i unmatched general free lowest c g state t
    have raised := raise_of_freeSlot unmatched (freeSlot_eq general free lowest)
    refine ⟨?_, fun j other => ?_, ?_, raise_shows key, raise_onlyAlertsMoved key p, fun room => ?_⟩
    · rw [show t = _ from raised, announcedRecord_slots, tget_tmod_same]; rfl
    · rw [show t = _ from raised, announcedRecord_slots, tget_tmod_other _ (Ne.symm other)]
    · rw [show t = _ from raised]; exact alertsChanged_outputsFollow ..
    · rw [show t = _ from raised, announcedRecord_upQueue _ room]; rfl
  · intro p key i r found hr r' t
    have raised : t = if r' = r then p else alertsChanged [noticeOf i r' r'.state.notice p] (putRecord i (some r') p) :=
      raise_of_record found hr
    have slots : t.au.slots = tmod p.au.slots i (fun x => { x with record := some r' }) := by
      rw [raised]; split
      · next same =>
        rw [same]
        refine (tmod_eq_self ?_).symm
        rw [← hr]; rfl
      · rw [alertsChanged_slots]; simp only [putRecord]
    refine ⟨?_, fun j other => ?_, raise_shows key, raise_onlyAlertsMoved key p, fun same => ?_, fun changed => ?_⟩
    · rw [slots, tget_tmod_same]
    · rw [slots, tget_tmod_other _ (Ne.symm other)]
    · rw [raised, if_pos same]
    · rw [if_neg changed] at raised
      refine ⟨raised ▸ alertsChanged_outputsFollow .., fun room => ?_⟩
      have key' : r'.key = key := key_of_slotOfKey (r := r) found hr
      rw [raised, alertsChanged_upQueue _ (by rwa [putRecord_tp]), putRecord_tp]
      unfold noticeOf; rw [key']

end

section
/-! The press path (chapters 2 and 3): an input event goes to its row's exhibit, whose mode and gallery decide what a press does. -/

namespace Sys2Proof.Machine

variable {s : Gx24} {st : Fin 24} {i : Fin 8} {edge : Edge} {r : Fin 128} {e : Fin 16}

/-- An event on a mapped input goes to the row's exhibit if its edge counts for the row (R24, R26). -/
theorem inputEvent_of_row (mapped : tget s.pd.inputMap (mapIndex st i) = some r) (he : (triggerOf r s).exhibit = some e) :
    inputEvent st i edge s =
      if edgeCounts (triggerOf r s).edge edge then dispatch e r (triggerOf r s) st i edge s else s := by
  unfold inputEvent; rw [mapped]; dsimp only; rw [he]

/-- PUBLIC and HELD exhibits take presses (R29). -/
theorem dispatch_of_open {t : TriggerRow} (mode : (exhibitOf e s).mode = .held ∨ (exhibitOf e s).mode = .pub) :
    dispatch e r t st i edge s = dispatchPublic e r t st i edge s := by
  unfold dispatch; obtain mode | mode := mode <;> rw [mode]

/-- The Activity Unit's notice of a press that is not an attendant's (R155, R158, R159). -/
theorem pressNotice_visitor (e : Fin 16) (s : Gx24) : pressNotice e true s = s.visitorNoticed e := by
  have quiet (t : Gx24) : (if (reloadQuiet t).ac.gallery = .quiet
      then { reloadQuiet t with ac := { (reloadQuiet t).ac with gallery := .opened } } else reloadQuiet t) =
      { t with ac := { t.ac with gallery := if t.ac.gallery = .quiet then .opened else t.ac.gallery, quiet := t.tp.quietReload } } := by
    show (if t.ac.gallery = .quiet then _ else _) = _
    split
    · rfl
    · rfl
  unfold pressNotice maskEvent Gx24.visitorNoticed; dsimp only
  rw [if_pos rfl, quiet]
  split <;> rfl

/-- A visitor's or HELP press, as distinct from the release of a HOLD row, goes on with the press noticed (R29). -/
theorem inputEvent_of_press (mapped : tget s.pd.inputMap (mapIndex st i) = some r) (he : (triggerOf r s).exhibit = some e)
    (counts : edgeCounts (triggerOf r s).edge edge = true) (press : ¬((triggerOf r s).edge = .hold ∧ edge = .release))
    (cls : (triggerOf r s).cls ≠ .attendant) (mode : (exhibitOf e s).mode = .held ∨ (exhibitOf e s).mode = .pub) :
    inputEvent st i edge s = pressOpen e r (triggerOf r s).cls (st, i) (s.visitorNoticed e) := by
  rw [inputEvent_of_row mapped he, if_pos counts, dispatch_of_open mode]
  unfold dispatchPublic
  rw [decide_eq_true cls, pressNotice_visitor]; exact if_neg press

theorem visitorNoticed_closed : (s.visitorNoticed e).ac.gallery = .closed ↔ s.ac.gallery = .closed := by
  unfold Gx24.visitorNoticed; dsimp only
  by_cases quiet : s.ac.gallery = .quiet <;> simp [quiet]

/-- In a CLOSED gallery a visitor's or HELP press is refused (R30). -/
theorem pressOpen_of_closed {c : RowClass} {input : Fin 24 × Fin 8} (cls : c ≠ .attendant) (closed : s.ac.gallery = .closed) :
    pressOpen e r c input s = growExhibit e .refusedClosed 1 s := by
  cases c with
  | attendant => exact absurd rfl cls
  | visitor => exact if_pos closed
  | help => exact if_pos closed

theorem pressOpen_visitor {input : Fin 24 × Fin 8} (opened : s.ac.gallery ≠ .closed) :
    pressOpen e r .visitor input s = pressVisitor e r input s := if_neg opened

theorem pressOpen_help {input : Fin 24 × Fin 8} (opened : s.ac.gallery ≠ .closed) :
    pressOpen e r .help input s = pressHelp e r input s := if_neg opened

/-- A raise leaves the trigger rows alone. -/
theorem triggerOf_raise (key : AlertKey) (s : Gx24) : triggerOf r (raise key s) = triggerOf r s := by
  unfold triggerOf; rw [((alertsOnlyBlind s).raise key (.refl s)).pd]

/-- A HELP press raises HELP, and is a visitor's press besides where its row has a start action (R32). -/
theorem pressHelp_eq {input : Fin 24 × Fin 8} : pressHelp e r input s =
    if (triggerOf r s).start.isSome then pressVisitor e r input (raise (keyExhibit clsHelp .none e) s)
    else raise (keyExhibit clsHelp .none e) s := by
  unfold pressHelp; dsimp only; rw [triggerOf_raise]

theorem pressVisitor_of_held {input : Fin 24 × Fin 8} (held : (exhibitOf e s).mode = .held) :
    pressVisitor e r input s = growExhibit e .refusedHeld 1 s := if_pos held

theorem pressVisitor_of_pub {input : Fin 24 × Fin 8} (pub : (exhibitOf e s).mode = .pub) :
    pressVisitor e r input s = visitorRequest e r input s := if_neg (by rw [pub]; decide)

end Sys2Proof.Machine

open Sys2Proof Sys2Proof.Machine

/-- Settles O27: the exhibit's mode is looked at before the row's class and edge. -/
theorem darkExhibitIgnoresEvents : Obligations.DarkExhibitIgnoresEvents := by
  intro p st i edge r e mapped he counts dark
  rw [inputEvent_of_row mapped he, if_pos counts]
  unfold dispatch; rw [dark]

/-- Settles O28: case by case along the mode, the gallery and the row's class. -/
theorem inputEventsFollowTheMode : Obligations.InputEventsFollowTheMode := by
  intro p st i edge r e mapped he row x done helped
  have event : done = if edgeCounts row.edge edge then dispatch e r row st i edge p else p := inputEvent_of_row mapped he
  refine ⟨fun idle => by rw [event, idle]; rfl, fun counts => ⟨fun service cls => ?_, fun press => ?_⟩⟩
  · rw [event, if_pos counts]
    unfold dispatch; rw [show (exhibitOf e p).mode = .service from service]
    exact if_neg cls
  have taken (cls : row.cls ≠ .attendant) (mode : x.mode = .held ∨ x.mode = .pub) :
      done = pressOpen e r row.cls (st, i) (p.visitorNoticed e) := inputEvent_of_press mapped he counts press cls mode
  have helpedMode : (exhibitOf e helped).mode = x.mode := congrArg Exhibit.mode (exhibitOf_congr (raise_exhibits ..) e)
  refine ⟨fun cls mode closed => ?_, fun cls held opened => ?_, fun cls held opened start => ?_, fun cls mode opened start => ?_⟩
  · have cls : row.cls ≠ .attendant := by obtain cls | cls := cls <;> rw [cls] <;> decide
    rw [taken cls mode, pressOpen_of_closed cls (visitorNoticed_closed.mpr closed)]
  · rw [taken (by rw [cls]; decide) (.inl held), cls, pressOpen_visitor (mt visitorNoticed_closed.mp opened)]
    exact pressVisitor_of_held held
  · rw [taken (by rw [cls]; decide) (.inl held), cls, pressOpen_help (mt visitorNoticed_closed.mp opened), pressHelp_eq]
    exact (if_pos start).trans (pressVisitor_of_held (helpedMode.trans held))
  · rw [taken (by rw [cls]; decide) mode, cls, pressOpen_help (mt visitorNoticed_closed.mp opened), pressHelp_eq]
    exact if_neg (by rw [show (triggerOf r (p.visitorNoticed e)).start = none from start]; decide)

end
section
/-! A visitor's press at a PUBLIC exhibit of an open gallery (R36, R49 to R51). -/

namespace Sys2Proof.Machine

variable {s : Gx24} {e : Fin 16} {r : Fin 128} {input : Fin 24 × Fin 8}

theorem reloadIdle_of_loaded (loaded : tget s.ac.idle e = (exhibitOf e s).record.idleReload) : reloadIdle e s = s := by
  unfold reloadIdle; rw [← loaded, tput_tget]

/-- A VISITOR start has reloaded the idle timer, so the accepted press does not reload it to another value (R159). -/
theorem maskEvent_visitorStarted (m : IdleMask → Bool) (w : Word) :
    maskEvent e m (s.visitorStarted e r input w) = s.visitorStarted e r input w := by
  have loaded : reloadIdle e (s.visitorStarted e r input w) = s.visitorStarted e r input w := by
    refine reloadIdle_of_loaded ?_
    simp only [Gx24.visitorStarted, Gx24.chainStarted, exhibitOf, tget_tmod_same]
    exact tget_tput_same ..
  unfold maskEvent; rw [loaded, ite_self]

theorem visitorRequest_of_idle (grant : (exhibitOf e s).grant = none) (ready : (exhibitOf e s).activity ≠ .cooldown) :
    visitorRequest e r input s = s.visitorStarted e r input s.gc.tick := by
  have idle : exhibitIdle e s = true := by simp [exhibitIdle, grant, ready]
  unfold visitorRequest; rw [if_pos idle, startVisitor_eq, maskEvent_visitorStarted]

/-- An ATTRACT chain is aborted for a visitor's press, and the runner it frees started anew (R49, R84). -/
theorem visitorRequest_of_attract {g : Grant} (grant : (exhibitOf e s).grant = some g) (attract : g.origin = .attract)
    (busy : (runnerOf e s).state ≠ .free) (moves : s.MovesNothing e) :
    visitorRequest e r input s = (growExhibit e .aborted 1 s).visitorStarted e r input s.gc.tick := by
  have busy' : ¬exhibitIdle e s = true := by simp [exhibitIdle, grant]
  have origin : grantOrigin e s = some .attract := by simp [grantOrigin, grant, attract]
  unfold visitorRequest
  rw [if_neg busy', if_pos origin, startVisitor_eq, maskEvent_visitorStarted, abortChain_of_movesNothing busy moves]
  exact chainStarted_modRunner_freed e _ { growExhibit e .accepted 1 (growExhibit e .aborted 1 s) with
    exhibits := tmod s.exhibits e (fun x => { x with flood := 0 })
    pd := if (triggerOf r s).style = .stepped then { s.pd with continuation := tput s.pd.continuation r none } else s.pd }

theorem visitorRequest_of_busy (busy : ((exhibitOf e s).grant = none ∧ (exhibitOf e s).activity = .cooldown) ∨
    ∃ g, (exhibitOf e s).grant = some g ∧ g.origin ≠ .attract) :
    visitorRequest e r input s = queueVisitor e r input s := by
  unfold visitorRequest
  obtain ⟨grant, cooling⟩ | ⟨g, grant, other⟩ := busy
  · rw [if_neg (by simp [exhibitIdle, cooling]), if_neg (by simp [grantOrigin, grant])]
  · rw [if_neg (by simp [exhibitIdle, grant]), if_neg (by simp [grantOrigin, grant, other])]

theorem queueVisitor_of_queued (queued : ∃ c ∈ (exhibitOf e s).queue, c.row = r) :
    queueVisitor e r input s = advanceFlood e (growExhibit e .merged 1 s) := by
  unfold queueVisitor; exact if_pos (by simpa using queued)

theorem queueVisitor_of_new (new : ∀ c ∈ (exhibitOf e s).queue, c.row ≠ r) : queueVisitor e r input s =
    if (exhibitOf e s).queue.length < (exhibitOf e s).record.depth then
      maskEvent e (·.acceptedPress) ((growExhibit e .queued 1 s).withExhibit e
        (fun x => { x with queue := x.queue ++ [⟨r, input.1, input.2, s.gc.tick, 0⟩] }))
    else advanceFlood e (growExhibit e .refusedFull 1 s) := by
  unfold queueVisitor; exact if_neg (by simpa using new)

end Sys2Proof.Machine

open Sys2Proof Sys2Proof.Machine

/-- Settles O29: the press is noticed, HELP raised where it is that, and the request then meets the exhibit as it was. -/
theorem visitorPressStartsOrQueues : Obligations.VisitorPressStartsOrQueues := by
  intro p st i edge r e quiet mapped he counts press cls pub opened s x done
  have rest : AlertsOnly (p.visitorNoticed e) s := by
    show AlertsOnly _ (if (triggerOf r p).cls = .help then _ else _)
    split
    exacts [(alertsOnlyBlind _).raise _ (.refl _), .refl _]
  have hx : exhibitOf e s = x := exhibitOf_congr rest.exhibits e
  have runner : runnerOf e s = runnerOf e p := by unfold runnerOf; rw [rest.cr]; rfl
  have tick : s.gc.tick = p.gc.tick := by rw [rest.gc]; rfl
  have request : done = visitorRequest e r (st, i) s := by
    have notAttendant : (triggerOf r p).cls ≠ .attendant := by obtain cls | ⟨cls, -⟩ := cls <;> rw [cls] <;> decide
    have taken : done = pressOpen e r (triggerOf r p).cls (st, i) (p.visitorNoticed e) :=
      inputEvent_of_press mapped he counts press notAttendant (.inr pub)
    have opened' : (p.visitorNoticed e).ac.gallery ≠ .closed := mt visitorNoticed_closed.mp opened
    have pub' : (exhibitOf e s).mode = .pub := hx ▸ pub
    refine taken.trans ?_
    obtain cls | ⟨cls, start⟩ := cls
    · have hs : s = p.visitorNoticed e := if_neg (by rw [cls]; decide)
      rw [hs] at pub' ⊢
      rw [cls, pressOpen_visitor opened', pressVisitor_of_pub pub']
    · have hs : s = raise (keyExhibit clsHelp .none e) (p.visitorNoticed e) := if_pos cls
      rw [hs] at pub' ⊢
      rw [cls, pressOpen_help opened', pressHelp_eq, ← pressVisitor_of_pub pub']; exact if_pos start
  rw [← hx, ← tick] at *
  rw [request]
  refine ⟨fun grant ready => visitorRequest_of_idle grant ready, fun g grant attract busy moves => ?_, fun busy => ?_⟩
  · refine visitorRequest_of_attract grant attract (runner ▸ busy) fun a => ?_
    have := moves a
    unfold ownsAxis axisOf at *
    rw [rest.mu]; exact this
  · rw [visitorRequest_of_busy busy]
    refine ⟨queueVisitor_of_queued, fun new room => ?_, fun new full => ?_⟩
    · rw [queueVisitor_of_new new, if_pos room]
    · rw [queueVisitor_of_new new, if_neg (Nat.not_lt.mpr full)]

end

section
/-! The cold values (R21, R39, R61, R87, R105, R128, R151, R164, R177, R187). -/

namespace Sys2Proof.Machine

@[simp] theorem tget_replicate {α : Type} {n : Nat} (x : α) (i : Fin n) : tget (Vector.replicate n x) i = x :=
  Vector.getElem_replicate _

/-- Power-on with the straps at 0 is a cold reset of every block. -/
theorem reset_eq_coldBlocks : State.reset.part = coldBlocks 0#4 State.reset.part := rfl

theorem motionPowerLaw_reset : MotionPowerLaw State.reset.part := by
  have none : estopRecordStands State.reset.part = false :=
    anyRow_false.mpr fun i => by rw [reset_eq_coldBlocks, recordAt_coldBlocks]
  show true = powerOn State.reset.part
  unfold powerOn; rw [none]; rfl

theorem scheduleLaw_reset : ScheduleLaw State.reset.part := ⟨Nat.zero_le _, List.nodup_nil⟩

end Sys2Proof.Machine

open Sys2Proof Sys2Proof.Machine

/-- Settles O3: the tables are read row by row, and the laws hold after every cold reset. -/
theorem resetHoldsTheColdValues : Obligations.ResetHoldsTheColdValues := by
  obtain ⟨queues, held⟩ := laws_of_cold 0#4 State.reset.part (t := State.reset.part) rfl rfl rfl
  refine ⟨?_, Nat.zero_le _, motionPowerLaw_reset, estopLaw_coldBlocks 0#4 State.reset.part,
    renderLaw_iff.mpr ⟨.coldBlocks 0#4 State.reset.part, shownAt_coldBlocks _ 0#4 State.reset.part⟩, scheduleLaw_reset,
    .of_noStories rfl, queues, held, .coldBlocks 0#4 State.reset.part⟩
  have station (st : Fin 24) : rowOf st State.reset.part = .cold ∧ stationOf st State.reset.part = .cold :=
    ⟨tget_replicate .., tget_replicate ..⟩
  have exhibit (e : Fin 16) : exhibitOf e State.reset.part = .cold ∧ runnerOf e State.reset.part = .cold :=
    ⟨tget_replicate .., tget_replicate ..⟩
  have axis (a : Fin 8) : axisOf a State.reset.part = .cold := tget_replicate ..
  refine ⟨rfl, rfl, rfl, rfl, rfl, fun st => ?_, fun i => tget_replicate .., rfl, fun i => tget_replicate ..,
    fun r => tget_replicate .., fun e => ?_, fun i => tget_replicate .., fun a => ?_, fun i => tget_replicate ..,
    fun z => tget_replicate .., rfl, rfl, rfl, rfl, rfl, rfl, rfl, rfl, rfl⟩
  · rw [(station st).1, (station st).2]; exact ⟨rfl, rfl, rfl⟩
  · rw [(exhibit e).1, (exhibit e).2]; exact ⟨rfl, rfl, rfl, rfl⟩
  · rw [axis a]; exact ⟨rfl, rfl, rfl, rfl⟩

end
section
/-! The warm reset, block by block (R22, R39, R62, R87, R106, R129, R152, R165, R178). -/

namespace Sys2Proof.Machine

variable {s : Gx24}

theorem reloadIdles_eq (s : Gx24) : ∃ idle, forRows (n := 16) reloadIdle s = { s with ac := { s.ac with idle := idle } } :=
  forRows_keeps (P := fun t : Gx24 => ∃ idle, t = { s with ac := { s.ac with idle := idle } })
    (fun e t ⟨idle, h⟩ => ⟨tput idle e (exhibitOf e t).record.idleReload, by subst h; rfl⟩) ⟨s.ac.idle, rfl⟩

/-- The warm reset of the blocks is that of each; the Activity Unit's is CLOSED with its timers reloaded. -/
theorem warmBlocks_eq (s : Gx24) : ∃ idle, warmBlocks s = setPower (warmClock { warmAlerts (warmMotion (warmChains
    (warmExhibits (warmDispatcher (warmBranch { s with work := [] }))))) with
      ac := { s.ac with gallery := .closed, quiet := s.tp.quietReload, idle := idle } }) := by
  obtain ⟨idle, h⟩ := reloadIdles_eq (reloadQuiet { warmAlerts (warmMotion (warmChains
    (warmExhibits (warmDispatcher (warmBranch { s with work := [] }))))) with ac := { s.ac with gallery := .closed } })
  exact ⟨idle, congrArg (fun t => setPower (warmClock t)) h⟩

/-- What a warm reset leaves as it is. -/
theorem warmBlocks_keeps (s : Gx24) : (warmBlocks s).estop = s.estop ∧ (warmBlocks s).resetLow = s.resetLow ∧
    (warmBlocks s).counters = s.counters ∧ (warmBlocks s).ac.bank = s.ac.bank ∧
    (warmBlocks s).bs.rows = s.bs.rows ∧ (warmBlocks s).bs.schedule = s.bs.schedule ∧
    (warmBlocks s).pd.inputMap = s.pd.inputMap ∧ (warmBlocks s).pd.rows = s.pd.rows ∧
    (warmBlocks s).cr.actions = s.cr.actions ∧ (warmBlocks s).mu.programs = s.mu.programs ∧
    (warmBlocks s).mu.segments = s.mu.segments ∧ (warmBlocks s).au.classes = s.au.classes ∧
    (warmBlocks s).au.neighbours = s.au.neighbours ∧ (warmBlocks s).tp = s.tp := by
  obtain ⟨idle, h⟩ := warmBlocks_eq s
  rw [h]
  simp only [setPower, warmClock, warmAlerts, warmMotion, warmChains, warmExhibits, warmDispatcher, warmBranch, and_self]

/-- The clock after a warm reset: no cue waits, and the tick number and state are kept (R178). -/
theorem warmBlocks_clears (s : Gx24) : (warmBlocks s).gc.schedule = [] ∧ (warmBlocks s).gc.tick = s.gc.tick ∧
    (warmBlocks s).gc.state = s.gc.state ∧ (warmBlocks s).ac.gallery = .closed ∧ (warmBlocks s).supervisor = false ∧
    (warmBlocks s).bs.query = none ∧ (warmBlocks s).pd.continuation = Vector.replicate 128 none ∧ (warmBlocks s).work = [] := by
  obtain ⟨idle, h⟩ := warmBlocks_eq s
  rw [h]
  simp only [setPower, warmClock, warmAlerts, warmMotion, warmChains, warmExhibits, warmDispatcher, warmBranch, and_self]

theorem exhibitOf_warmBlocks (e : Fin 16) (s : Gx24) : exhibitOf e (warmBlocks s) = (exhibitOf e s).warm := by
  obtain ⟨idle, h⟩ := warmBlocks_eq s
  rw [h]; exact tget_tmake (fun e => (exhibitOf e s).warm) e

theorem runnerOf_warmBlocks (e : Fin 16) (s : Gx24) : runnerOf e (warmBlocks s) = (runnerOf e s).warm := by
  obtain ⟨idle, h⟩ := warmBlocks_eq s
  rw [h]; exact tget_tmake (fun e => (runnerOf e s).warm) e

theorem slots_warmBlocks (i : Fin 64) (s : Gx24) :
    tget (warmBlocks s).au.slots i = ⟨(tget s.au.slots i).generation, none⟩ := by
  obtain ⟨idle, h⟩ := warmBlocks_eq s
  rw [h]; exact tget_tmake (fun i => (⟨(tget s.au.slots i).generation, none⟩ : AlertSlot)) i

theorem motionPower_warmBlocks (released : s.estop = false) (reset : s.resetLow = false) : (warmBlocks s).motionPower = true := by
  have none : estopRecordStands (warmBlocks s) = false := anyRow_false.mpr fun i => by
    unfold recordAt; rw [slots_warmBlocks]
  have law : MotionPowerLaw (warmBlocks s) := .setPower _
  obtain ⟨estop, resetLow, -⟩ := warmBlocks_keeps s
  rw [show (warmBlocks s).motionPower = _ from law]; unfold powerOn; rw [none, estop, resetLow, released, reset]; rfl

theorem sameTables_warmBlocks (s : Gx24) : s.SameTables (warmBlocks s) := by
  obtain ⟨-, -, -, -, rows, schedule, inputMap, triggers, actions, programs, segments, classes, neighbours, tp⟩ := warmBlocks_keeps s
  exact ⟨rows, schedule, inputMap, triggers, actions, fun e => by rw [exhibitOf_warmBlocks]; rfl,
    fun a => by rw [axisOf_warmBlocks]; rfl, programs, segments, classes, neighbours, by rw [tp], by rw [tp],
    by rw [tp], by rw [tp]⟩

/-- With no condition present none is raised again (R188). -/
theorem raiseAgain_of_none (released : s.estop = false) (stations : ∀ st, (stationOf st s).state ≠ .lost)
    (clock : s.gc.state ≠ .island) : raiseAgain s = s := by
  have kept : forRows (n := 24) (fun st s => if (stationOf st s).state = .lost then raiseLost st s else s) s = s :=
    forRows_id fun st => if_neg (stations st)
  have pins : (if s.estop then setPower (raise keyEstop s) else s) = s := if_neg (by simp [released])
  unfold raiseAgain; dsimp only
  rw [pins, kept, if_neg clock]

theorem Exhibit.warm_mode (x : Exhibit) : x.warm.mode = if x.mode = .dark then .dark else .service := by
  unfold Exhibit.warm; cases x.mode <;> rfl

end Sys2Proof.Machine

open Sys2Proof Sys2Proof.Machine

/-- Settles O57: the warm blocks are read table by table; with no condition present nothing follows the reply. -/
theorem warmResetKeepsTheTables : Obligations.WarmResetKeepsTheTables := by
  intro p q tag quiet own t answer
  refine ⟨fun body filled => ?_, ?_, fun released stations clock => ?_⟩
  · obtain ⟨b, rest, rfl⟩ := List.exists_cons_of_ne_nil filled
    exact ⟨quiet.takes_still_as own q rfl ((sendUp_work ..).trans quiet.2),
      quiet.takes_still_as own q rfl ((sendUp_work ..).trans quiet.2)⟩
  · exact quiet.takes_still_as own q rfl ((sendUp_work ..).trans quiet.2)
  · obtain ⟨estop, -, counters, bank, -, -, -, -, -, -, -, -, -, tp⟩ := warmBlocks_keeps t
    obtain ⟨schedule, tick, state, gallery, supervisor, query, stories, work⟩ := warmBlocks_clears t
    have reply : raiseAgain (answer 6#8 .ok (warmBlocks t)) = answer 6#8 .ok (warmBlocks t) := by
      refine raiseAgain_of_none ((sendUp_estop ..).trans (estop.trans released)) (fun st => ?_) ?_
      · have kept : stationOf st (answer 6#8 .ok (warmBlocks t)) = (stationOf st t).warm := by
          rw [← stationOf_warmBlocks]; unfold stationOf; rw [show (answer 6#8 .ok (warmBlocks t)).bs = _ from sendUp_bs ..]
        rw [kept]; unfold Station.warm; dsimp only; split
        · nofun
        · exact stations st
      · rw [show (answer 6#8 .ok (warmBlocks t)).gc = _ from sendUp_gc .., state]; exact clock
    refine ⟨warmBlocks t, quiet.takes_still_as own q reply ((sendUp_work ..).trans work), sameTables_warmBlocks t,
      tp, counters, fun e => ?_, fun a => ?_, fun st => ?_, fun i => slots_warmBlocks i t, fun z => ?_, fun r => ?_,
      schedule, tick, state, gallery, bank, motionPower_warmBlocks released quiet.1, supervisor, query⟩
    · rw [exhibitOf_warmBlocks, runnerOf_warmBlocks]
      exact ⟨Exhibit.warm_mode _, rfl, rfl, rfl, rfl, rfl, rfl, rfl⟩
    · rw [axisOf_warmBlocks]; exact ⟨rfl, rfl, rfl, rfl, rfl⟩
    · rw [stationOf_warmBlocks]; exact ⟨rfl, rfl, rfl, rfl, rfl⟩
    · rw [patterns_warmBlocks]; exact tget_replicate ..
    · rw [stories]; exact tget_replicate ..

end

section
/-! A station on which nothing hangs (R6): what is told of it tells nobody. -/

namespace Sys2Proof.Machine

variable {s t : Gx24} {st : Fin 24}

/-- No cue wait ends when none is of the kind that does. -/
theorem endCueWaits_of_none {p : Fin 24 → Serial → Bool}
    (h : ∀ e st serial, (runnerOf e s).awaitedCue = some (st, serial) → p st serial = false) : endCueWaits p s = s :=
  forRows_id fun e => by
    split
    · next awaited => rw [h e _ _ awaited]; rfl
    · rfl

/-- Nothing but perhaps the pending query hangs on the station. -/
def Gx24.Unserved (st : Fin 24) (s : Gx24) : Prop := ({ s with bs := { s.bs with query := none } } : Gx24).Unattached st

namespace Gx24.Unserved

theorem congr (h : s.Unserved st) (axes : t.mu = s.mu) (runners : t.cr = s.cr) : t.Unserved st := by
  obtain ⟨motion, waits, -⟩ := h
  refine ⟨fun a => ?_, fun e => ?_, nofun⟩
  · have := motion a
    unfold axisOf at *; rw [show ({ t with bs := { t.bs with query := none } } : Gx24).mu = s.mu from axes]; exact this
  · have := waits e
    unfold runnerOf at *; rw [show ({ t with bs := { t.bs with query := none } } : Gx24).cr = s.cr from runners]; exact this

theorem no_wait {e : Fin 16} {x : Fin 24} {serial : Serial} (h : s.Unserved st)
    (awaited : (runnerOf e s).awaitedCue = some (x, serial)) : x ≠ st := fun same => h.2.1 e serial (same ▸ awaited)

theorem endStationWaits (h : s.Unserved st) : endStationWaits st s = s :=
  endCueWaits_of_none fun _ _ _ awaited => decide_eq_false (h.no_wait awaited)

theorem supersedeCues (h : s.Unserved st) : supersedeCues st s = s :=
  endCueWaits_of_none fun _ _ _ awaited => by rw [decide_eq_false (h.no_wait awaited), Bool.false_and]

theorem cueReported (h : s.Unserved st) : cueReported st s = s := by
  unfold Machine.cueReported; dsimp only; split
  · rfl
  · exact endCueWaits_of_none fun _ _ _ awaited => by rw [decide_eq_false (h.no_wait awaited), Bool.false_and]

theorem decideGuardsOf (h : s.Unserved st) : decideGuardsOf st s = s :=
  forRows_id fun a => by
    split
    · next guard => exact if_neg ((h.1 a).2 _ guard)
    · rfl

theorem axisOnDrive (h : s.Unserved st) : axisOnDrive st s = none :=
  firstRow_none.mpr fun a => by
    rw [decide_eq_false (show (axisOf a s).params.drive ≠ some st from (h.1 a).1), Bool.false_and]

theorem faultDriveAxis (h : s.Unserved st) : faultDriveAxis st s = s := by
  unfold Machine.faultDriveAxis; rw [h.axisOnDrive]

/-- No runner waits for the station's cue to be given another serial. -/
theorem renumbered (h : s.Unserved st) (old new : Serial) :
    forRows (n := 16) (fun e s => modRunner e (Runner.renumbered st old new) s) s = s :=
  forRows_id fun e => by
    have same : Runner.renumbered st old new (runnerOf e s) = runnerOf e s := if_neg fun awaited => h.no_wait awaited rfl
    unfold modRunner; rw [tmod_eq_self same]

end Gx24.Unserved

namespace Gx24.Unattached

theorem congr (h : s.Unattached st) (axes : t.mu = s.mu) (runners : t.cr = s.cr) (query : t.bs.query = s.bs.query) :
    t.Unattached st := by
  unfold Gx24.Unattached axisOf runnerOf at *
  rw [axes, runners, query]; exact h

theorem unserved (h : s.Unattached st) : s.Unserved st := ⟨h.1, h.2.1, nofun⟩

theorem endQueryOf (h : s.Unattached st) : endQueryOf st s = s := by
  unfold Machine.endQueryOf; split
  · next pending => exact if_neg (h.2.2 _ pending)
  · rfl

end Gx24.Unattached

theorem modStation_modStation (f g : Station → Station) :
    modStation st g (modStation st f s) = modStation st (fun x => g (f x)) s := by
  unfold modStation; rw [tmod_tmod]

theorem modStation_eq_self {f : Station → Station} (h : f (stationOf st s) = stationOf st s) : modStation st f s = s := by
  unfold modStation; rw [tmod_eq_self h]

theorem modStation_congr {f g : Station → Station} (h : f (stationOf st s) = g (stationOf st s)) :
    modStation st f s = modStation st g s := by
  unfold modStation tmod; rw [show f (tget s.bs.stations st) = g (tget s.bs.stations st) from h]

theorem stationOf_modStation_same (f : Station → Station) : stationOf st (modStation st f s) = f (stationOf st s) :=
  tget_tmod_same ..

end Sys2Proof.Machine
end
section
/-! What the branch sends and what OUTPUT writes into the image of it (R10, R13, R14, 11.5). -/

namespace Sys2Proof.Machine

variable {s : Gx24} {st : Fin 24} {station lamp value : Byte}

theorem LampPattern.code_lt (l : LampPattern) : l.code.toNat < 4 := by cases l <;> decide

theorem LampPattern.ofCode_code (l : LampPattern) : LampPattern.ofCode l.code = some l := by cases l <;> rfl

theorem LampPattern.ofCode_of_le (h : 4 ≤ value.toNat) : LampPattern.ofCode value = none := by
  obtain ⟨k, hk⟩ := Nat.exists_eq_add_of_le' h
  unfold LampPattern.ofCode; rw [hk]; rfl

theorem lampWord_eq (lamps : Tbl 8 LampPattern) (c : Fin 8 → Nat) (hc : ∀ i, (tget lamps i).code.toNat = c i) :
    lampWord lamps = BitVec.ofNat 16 (c 0 + c 1 * 4 + c 2 * 16 + c 3 * 64 + c 4 * 256 + c 5 * 1024 + c 6 * 4096 + c 7 * 16384) := by
  unfold lampWord
  simp only [hc]
  rw [show List.finRange 8 = [0, 1, 2, 3, 4, 5, 6, 7] from rfl]
  simp

/-- Each lamp's two bits of the lamp image are its pattern's (R10). -/
theorem lampWord_digit (lamps : Tbl 8 LampPattern) (n : Fin 8) :
    (lampWord lamps).toNat / 4 ^ n.val % 4 = (tget lamps n).code.toNat := by
  obtain ⟨c, hc⟩ : ∃ c : Fin 8 → Nat, ∀ i, (tget lamps i).code.toNat = c i := ⟨_, fun _ => rfl⟩
  have small (i : Fin 8) : c i < 4 := hc i ▸ LampPattern.code_lt (tget lamps i)
  rw [lampWord_eq lamps c hc, hc, BitVec.toNat_ofNat]
  have h0 := small 0; have h1 := small 1; have h2 := small 2; have h3 := small 3
  have h4 := small 4; have h5 := small 5; have h6 := small 6; have h7 := small 7
  fin_cases n <;> simp only [Fin.zero_eta, Fin.mk_one, Fin.reduceFinMk] <;> omega

theorem pollFlags_bits (cue query drive : Bool) : (pollFlags cue query drive).getLsbD 0 = cue ∧
    (pollFlags cue query drive).getLsbD 1 = query ∧ (pollFlags cue query drive).getLsbD 2 = drive := by
  revert cue query drive; decide

/-- The field of a poll that depends on the station's kind (11.5). -/
def pollTail (kind : StationKind) (x : Station) (sp : Setpoint) : List Byte :=
  match kind with
  | .panel => []
  | .beacon => [x.beacon.code]
  | .drive => longBytes sp.position

theorem pollPayload_eq (kind : StationKind) (x : Station) (query : Option Word) (sp : Setpoint) :
    pollPayload kind x query sp = wordBytes (lampWord x.lamps) ++
      [pollFlags x.cue.isSome query.isSome (decide (kind = .drive) && sp.enable)] ++ cueBytes x.cue ++
      [byteOf x.expected.toNat, (query.getD 0#16).extractLsb' 0 8] ++ pollTail kind x sp := by
  cases kind <;> rfl

/-- An OUTPUT that spells a lamp of a station writes it (R13). -/
theorem handleOutput_lamp (st : Fin 24) (out : Fin 8) (p : LampPattern) (s : Gx24) :
    handleOutput (byteOf st.val) 0#8 (byteOf out.val) p.code s = writeLamp st out p s := by
  unfold handleOutput
  rw [indexOf_byteOf_small (by decide) st, show (0#8 : Byte).toNat = 0 from rfl]
  rw [indexOf_byteOf_small (by decide) out, p.ofCode_code]; rfl

theorem handleOutput_lamp_range (h : 24 ≤ station.toNat ∨ 8 ≤ lamp.toNat ∨ 4 ≤ value.toNat) :
    handleOutput station 0#8 lamp value s = frameError s := by
  unfold handleOutput
  rw [show (0#8 : Byte).toNat = 0 from rfl]
  obtain far | far | far := h
  · rw [indexOf_of_le far]
  · rw [indexOf_of_le far]; cases indexOf 24 station <;> rfl
  · rw [LampPattern.ofCode_of_le far]; cases indexOf 24 station <;> cases indexOf 8 lamp <;> rfl

theorem handleOutput_cue_range (h : 24 ≤ station.toNat) : handleOutput station 1#8 lamp value s = frameError s := by
  unfold handleOutput; rw [indexOf_of_le h]

theorem handleOutput_cue (st : Fin 24) : handleOutput (byteOf st.val) 1#8 lamp value s = (writeCue st value s).2 := by
  unfold handleOutput; rw [indexOf_byteOf_small (by decide) st]; rfl

theorem writeCue_of_absent {n : Byte} (absent : (stationOf st s).state = .absent) : writeCue st n s = (none, s) := if_pos absent

/-- A cue written where no chain waits for one is the image's alone (R14). -/
theorem writeCue_of_unserved {n : Byte} (present : (stationOf st s).state ≠ .absent) (alone : s.Unserved st) :
    writeCue st n s = (some ((stationOf st s).runningCue + 1#4), s.withStation st (fun x => { x with
      runningCue := x.runningCue + 1#4, latestCue := x.runningCue + 1#4, cue := some ⟨n, x.runningCue + 1#4⟩ })) := by
  unfold writeCue; rw [if_neg present]; dsimp only
  refine congrArg _ (Eq.trans (Gx24.Unserved.supersedeCues (alone.congr rfl rfl)) ?_)
  exact modStation_congr rfl

end Sys2Proof.Machine

open Sys2Proof Sys2Proof.Machine

/-- Settles O16: field by field. -/
theorem pollCarriesTheWholeImage : Obligations.PollCarriesTheWholeImage := by
  intro kind x query sp
  obtain ⟨number, serial, cue, given, absent⟩ : ∃ number serial, cueBytes x.cue = [number, serial] ∧
      (∀ c, x.cue = some c → number = c.number ∧ serial = byteOf c.serial.toNat) ∧
      (x.cue = none → number = 0#8 ∧ serial = 0#8) := by
    cases x.cue with
    | none => exact ⟨_, _, rfl, nofun, fun _ => ⟨rfl, rfl⟩⟩
    | some c => exact ⟨_, _, rfl, fun _ h => by cases h; exact ⟨rfl, rfl⟩, nofun⟩
  obtain ⟨cueFlag, queryFlag, driveFlag⟩ := pollFlags_bits x.cue.isSome query.isSome (decide (kind = .drive) && sp.enable)
  refine ⟨(lampWord x.lamps).extractLsb' 8 8, (lampWord x.lamps).extractLsb' 0 8, _, number, serial, pollTail kind x sp, ?_,
    fun n => by rw [wordOf_extract]; exact lampWord_digit x.lamps n, cueFlag, queryFlag, driveFlag, given, absent,
    fun panel => by rw [panel]; rfl, fun beacon => by rw [beacon]; rfl, fun drive => by rw [drive]; rfl⟩
  rw [pollPayload_eq, cue]; rfl

/-- Settles O21: by the selector and the range of each field. -/
theorem outputWritesTheStationImage : Obligations.OutputWritesTheStationImage := by
  intro p q station lamp value quiet own s
  refine ⟨fun st out pat hst hout hpat => ?_, fun range => ?_, fun range => ?_, fun st hst => ⟨fun absent => ?_, fun present alone => ?_⟩⟩
  · subst hst hout hpat
    exact quiet.takes_still_as own q (handleOutput_lamp st out pat _) quiet.2
  · exact quiet.takes_still_as own q (handleOutput_lamp_range range) quiet.2
  · exact quiet.takes_still_as own q (handleOutput_cue_range range) quiet.2
  · subst hst
    refine quiet.takes_still_as own q ((handleOutput_cue st).trans ?_) quiet.2
    rw [writeCue_of_absent (s := growTrunk .framesTaken p) absent]
  · subst hst
    refine quiet.takes_still_as own q ((handleOutput_cue st).trans ?_) quiet.2
    rw [writeCue_of_unserved (s := growTrunk .framesTaken p) present (alone.unserved.congr rfl rfl)]

end

section
/-! How a slot ends (R3, R5, R17): discarded, missed, or with a good reply. -/

namespace Sys2Proof.Machine

variable {s t : Gx24} {st : Fin 24} {w : Awaiting} {reply : Option (List Byte)} {line : List Byte}

/-- The part with the reply no longer awaited. -/
def Gx24.answered (s : Gx24) : Gx24 := { s with bs := { s.bs with awaiting := none } }

theorem endSlot_of_idle (h : s.bs.awaiting = none) : endSlot reply s = s := by unfold endSlot; rw [h]

theorem endSlot_of_awaited (h : s.bs.awaiting = some w) : endSlot reply s = classify w reply s.answered := by
  unfold endSlot; rw [h]; rfl

theorem classify_of_discard (h : w.discard = true) : classify w reply s = s := if_pos h

theorem classify_none (h : w.discard = false) : classify w none s = takeMiss w false s := if_neg (by simp [h])

theorem classify_bad (h : w.discard = false) (bad : goodReply w.station (rowOf w.station s).kind line = none) :
    classify w (some line) s = takeMiss w true s := by
  unfold classify; rw [if_neg (by simp [h])]; dsimp only; rw [bad]

theorem classify_good {r : Reply} (h : w.discard = false) (good : goodReply w.station (rowOf w.station s).kind line = some r) :
    classify w (some line) s = takeReply w r s := by
  unfold classify; rw [if_neg (by simp [h])]; dsimp only; rw [good]

/-! ### Queries (R11, R17) -/

theorem endQuery_of_pending {c : PendingQuery} {r : QueryResult} {a : Option Word} (h : s.bs.query = some c) :
    endQuery r a s = sendUp (.queryReply (byteOf c.station.val) c.parameter r a) (dropQuery s) := by
  unfold endQuery; rw [h]; rfl

theorem queryUnanswered_of_left {c : PendingQuery} (h : s.bs.query = some c) (left : 0 < c.polls) : queryUnanswered s = s := by
  unfold queryUnanswered; rw [h]; exact if_neg (by omega)

theorem queryUnanswered_of_used {c : PendingQuery} (h : s.bs.query = some c) (used : c.polls = 0) :
    queryUnanswered s = sendUp (.queryReply (byteOf c.station.val) c.parameter .timeout none) (dropQuery s) := by
  unfold queryUnanswered; rw [h]; exact (if_pos used).trans (endQuery_of_pending h)

/-! ### Misses (R3, R5) -/

theorem countStationMiss_eq (st : Fin 24) (crc : Bool) (s : Gx24) : countStationMiss st crc s =
    if (stationOf st (s.missedBy st crc)).missCount = missLimit ∧
        ((stationOf st (s.missedBy st crc)).state = .joining ∨ (stationOf st (s.missedBy st crc)).state = .present)
    then loseStation st (s.missedBy st crc) else s.missedBy st crc := by
  cases crc <;> rfl

theorem stationOf_missedBy (st : Fin 24) (crc : Bool) (s : Gx24) : stationOf st (s.missedBy st crc) =
    { stationOf st s with
      missCount := if (stationOf st s).missCount = 3 then 3 else (stationOf st s).missCount + 1 } := by
  cases crc <;> exact tget_tmod_same ..

/-- A miss before the third in a row, or of a LOST station, is counted alone. -/
theorem countStationMiss_counted (crc : Bool) (h : (stationOf st s).missCount < 2 ∨ (stationOf st s).state = .lost) :
    countStationMiss st crc s = s.missedBy st crc := by
  have below : ∀ m : Fin 4, m < 2 → (if m = 3 then 3 else m + 1) ≠ 3 := by decide
  rw [countStationMiss_eq, stationOf_missedBy]
  refine if_neg fun ⟨third, state⟩ => ?_
  obtain few | lost := h
  · exact below _ few third
  · rw [show (stationOf st s).state = _ from lost] at state; simp at state

/-- The third miss in a row loses the station. -/
theorem countStationMiss_third (crc : Bool) (h : (stationOf st s).missCount = 2)
    (state : (stationOf st s).state = .joining ∨ (stationOf st s).state = .present) :
    countStationMiss st crc s = loseStation st (s.missedBy st crc) := by
  rw [countStationMiss_eq, stationOf_missedBy]
  exact if_pos ⟨by dsimp only; rw [h]; rfl, state⟩

/-- A station is lost: where nothing hangs on it STATION-LOST is raised, and that is all (R5, R6). -/
theorem loseStation_of_unattached (alone : s.Unattached st) : loseStation st s =
    raise (keyStationLost st s) (s.withStation st (fun x => { x with
      state := .lost, lostKey := some (keyStationLost st s) })) := by
  have raised : raiseLost st (modStation st (fun x => { x with state := .lost }) s) = raise (keyStationLost st s)
      (s.withStation st (fun x => { x with state := .lost, lostKey := some (keyStationLost st s) })) := by
    unfold raiseLost; dsimp only
    rw [modStation_modStation]; rfl
  unfold loseStation; dsimp only
  rw [raised]
  generalize hu : s.withStation st (fun x => { x with state := .lost, lostKey := some (keyStationLost st s) }) = u
  have rest := (alertsOnlyBlind u).raise (keyStationLost st s) (.refl u)
  have query : (raise (keyStationLost st s) u).bs.query = s.bs.query := by rw [rest.bs, ← hu]
  have told : (raise (keyStationLost st s) u).Unattached st :=
    have served := alone.unserved.congr (rest.mu.trans (by rw [← hu])) (rest.cr.trans (by rw [← hu]))
    ⟨served.1, served.2.1, by rw [query]; exact alone.2.2⟩
  rw [told.unserved.decideGuardsOf, told.unserved.faultDriveAxis, told.unserved.endStationWaits, told.endQueryOf]

theorem takeMiss_unasked (crc : Bool) (step : w.stepAxis = none) (asked : w.query = false) :
    takeMiss w crc s = countStationMiss w.station crc s := by
  unfold takeMiss; rw [step]; dsimp only; rw [asked]; rfl

theorem takeMiss_stepped {a : Fin 8} (crc : Bool) (step : w.stepAxis = some a) (asked : w.query = false) :
    takeMiss w crc s = countStationMiss w.station crc (modAxis a (fun x => { x with stepGood := false }) s) := by
  unfold takeMiss; rw [step]; dsimp only; rw [asked]; rfl

theorem takeMiss_asked (crc : Bool) (step : w.stepAxis = none) (asked : w.query = true) :
    takeMiss w crc s = queryUnanswered (countStationMiss w.station crc s) := by
  unfold takeMiss; rw [step]; dsimp only; rw [asked]; rfl

/-- STATION_LOST with the third miss to come is that miss (assumption 5). -/
theorem eventStationLost_eq (h : s.bs.awaiting = some w) (second : (stationOf w.station s).missCount = 2)
    (state : (stationOf w.station s).state = .joining ∨ (stationOf w.station s).state = .present) :
    eventStationLost w.station s = endSlot none s := by
  unfold eventStationLost; dsimp only
  rw [if_pos state, if_neg (by rw [second]; decide), if_pos second]
  unfold missAwaited; rw [h]; exact if_pos rfl

end Sys2Proof.Machine

open Sys2Proof Sys2Proof.Machine

/-- Settles O17: the slot's reply is classified, and a miss is its three parts one after another. -/
theorem slotEndCountsAMiss : Obligations.SlotEndCountsAMiss := by
  refine ⟨fun p q quiet => ⟨fun reply idle => quiet.unchanged q (endSlot_of_idle idle), fun w awaited => ?_⟩, ?_⟩
  · have ends {reply : Option (List Byte)} {t : Gx24} (ht : classify w reply p.answered = t) (work : t.work = []) :
        exec (.slotEnd reply) ⟨p, q⟩ = .next ⟨t, q⟩ := quiet.runs_still_as q ((endSlot_of_awaited awaited).trans ht) work
    have counted (crc : Bool) (few : (stationOf w.station p).missCount < 2 ∨ (stationOf w.station p).state = .lost) :
        countStationMiss w.station crc p.answered = p.answered.missedBy w.station crc :=
      countStationMiss_counted (s := p.answered) crc few
    have still (crc : Bool) : (p.answered.missedBy w.station crc).work = [] := by cases crc <;> exact quiet.2
    have missed (crc : Bool) (step : w.stepAxis = none) (asked : w.query = false)
        (few : (stationOf w.station p).missCount < 2 ∨ (stationOf w.station p).state = .lost) :
        takeMiss w crc p.answered = p.answered.missedBy w.station crc := by
      rw [takeMiss_unasked crc step asked, counted crc few]
    refine ⟨fun reply dropped => ends (classify_of_discard dropped) quiet.2, fun kept asked step few => ⟨?_, fun line bad => ?_⟩,
      fun a kept asked step few => ?_, ?_⟩
    · exact ends ((classify_none kept).trans (missed false step asked few)) (still false)
    · exact ends ((classify_bad (s := p.answered) kept bad).trans (missed true step asked few)) (still true)
    · refine ends ((classify_none kept).trans ?_) (still false)
      rw [takeMiss_stepped false step asked]
      exact countStationMiss_counted (s := modAxis a (fun x => { x with stepGood := false }) p.answered) false few
    · intro c kept asked step few pending m
      have missed : classify w none p.answered = queryUnanswered m := by
        rw [classify_none kept, takeMiss_asked false step asked, countStationMiss_counted (s := p.answered) false few]; rfl
      have pending' : m.bs.query = some c := pending
      refine ⟨fun left => ends (missed.trans (queryUnanswered_of_left pending' left)) (still false), fun used => ?_⟩
      exact ends (missed.trans (queryUnanswered_of_used pending' used)) ((sendUp_work ..).trans (still false))
  · intro p q w quiet awaited kept asked step second state alone key lost
    have taken : endSlot none p = raise key lost := by
      rw [endSlot_of_awaited awaited, classify_none kept, takeMiss_unasked false step asked,
        countStationMiss_third (s := p.answered) false second state]
      have named : keyStationLost w.station (p.answered.missedBy w.station false) = key := rfl
      have unattached : (p.answered.missedBy w.station false).Unattached w.station := alone.congr rfl rfl rfl
      rw [loseStation_of_unattached unattached, named]; rfl
    have outcome {f : Gx24 → Gx24} (h : f p = raise key lost) : State.act f ⟨p, q⟩ = .next ⟨settle (raise key lost), q⟩ := by
      rw [quiet.runs, h]
    exact ⟨outcome taken, outcome ((eventStationLost_eq awaited second state).trans taken)⟩

end

section
/-! Good replies (R4, R11, R12, R15, R17): what is stored, which events are taken, and how a station joins. -/

namespace Sys2Proof.Machine

variable {s t : Gx24} {st : Fin 24} {w : Awaiting} {r : Reply} {payload : List Byte} {kind : StationKind}

/-- A reply of a length that its length field can hold is read as its payload spells (R3, 11.5). -/
theorem goodReply_replyLine (h : payload.length ≤ 255) : goodReply st kind (replyLine st payload) = replyOf kind payload := by
  let body := byteOf st.val :: byteOf payload.length :: payload
  let crc := wordBytes (crc16 body)
  have whole : body.length = 2 + (byteOf payload.length).toNat := by
    rw [toNat_byteOf h]; exact Nat.add_comm payload.length 2
  have read : unescape (replyLine st payload) = body ++ crc := unescape_escaped _
  have complete : ¬(body ++ crc).length < 2 + (byteOf payload.length).toNat + 2 := by
    rw [List.length_append, whole]; exact Nat.lt_irrefl _
  have checks : ((body ++ crc).drop (2 + (byteOf payload.length).toNat)).take 2 = crc := by
    rw [List.drop_left' whole]; rfl
  have kept : (body ++ crc).take (2 + (byteOf payload.length).toNat) = body := List.take_left' whole
  have checked : checkedFrame 2 (body ++ crc) = some body := by
    unfold checkedFrame
    rw [show (body ++ crc)[2 - 1]? = some (byteOf payload.length) from rfl]; dsimp only
    rw [if_neg complete, checks, kept, if_pos rfl]
  unfold goodReply
  rw [read, checked]; exact if_pos rfl

/-! ### What is stored (R11) -/

/-- Giving a frame and changing a station do not meet. -/
theorem sendUp_modStation (u : UpFrame) (f : Station → Station) (s : Gx24) :
    sendUp u (modStation st f s) = modStation st f (sendUp u s) := by
  by_cases room : s.tp.upQueue.length < 64
  · rw [sendUp_room u room, sendUp_room (s := modStation st f s) u room]; rfl
  · rw [sendUp_full u room, sendUp_full (s := modStation st f s) u room]; rfl

theorem endQuery_modStation (q : QueryResult) (a : Option Word) (f : Station → Station) (s : Gx24) :
    endQuery q a (modStation st f s) = modStation st f (endQuery q a s) := by
  cases pending : s.bs.query with
  | none => unfold endQuery; rw [show (modStation st f s).bs.query = none from pending, pending]
  | some c =>
    rw [endQuery_of_pending pending, endQuery_of_pending (s := modStation st f s) pending, ← sendUp_modStation]; rfl

theorem queryUnanswered_modStation (f : Station → Station) (s : Gx24) :
    queryUnanswered (modStation st f s) = modStation st f (queryUnanswered s) := by
  unfold queryUnanswered
  rw [endQuery_modStation]
  cases pending : s.bs.query with
  | none => rw [show (modStation st f s).bs.query = none from pending]
  | some c =>
    rw [show (modStation st f s).bs.query = some c from pending]; dsimp only
    split <;> rfl

/-- An answer is taken the same whatever else the station reported. -/
theorem takeAnswer_modStation (asked : Bool) (a : Option Word) (f : Station → Station) (s : Gx24) :
    takeAnswer st asked a (modStation st f s) = modStation st f (takeAnswer st asked a s) := by
  cases a with
  | none =>
    cases asked
    · rfl
    · exact queryUnanswered_modStation f s
  | some a =>
    by_cases pends : queryPends st s = true
    · exact (if_pos pends).trans ((endQuery_modStation ..).trans (congrArg _ (if_pos pends).symm))
    · exact (if_neg pends).trans (congrArg _ (if_neg pends).symm)

/-- Taking an answer leaves the axes and the chains alone. -/
theorem takeAnswer_rest (asked : Bool) (a : Option Word) (s : Gx24) :
    (takeAnswer st asked a s).mu = s.mu ∧ (takeAnswer st asked a s).cr = s.cr := by
  have ended (q : QueryResult) (a : Option Word) : (endQuery q a s).mu = s.mu ∧ (endQuery q a s).cr = s.cr := by
    unfold endQuery; split
    · exact ⟨sendUp_mu .., sendUp_cr ..⟩
    · exact ⟨rfl, rfl⟩
  have unanswered : (queryUnanswered s).mu = s.mu ∧ (queryUnanswered s).cr = s.cr := by
    unfold queryUnanswered; repeat' split
    exacts [ended _ _, ⟨rfl, rfl⟩, ⟨rfl, rfl⟩]
  unfold takeAnswer; repeat' split
  exacts [ended _ _, ⟨rfl, rfl⟩, unanswered, ⟨rfl, rfl⟩]

/-- Drive data of a station that drives no axis are stored, and that is all (R9, R11). -/
theorem storeDrive_of_unserved (a : Option (Fin 8)) (d : Option DriveReport) (alone : s.Unserved st) :
    storeDrive st a d s = modStation st (fun x => { x with drive := d.getD x.drive }) s := by
  cases d with
  | none => exact (modStation_eq_self (f := fun x => { x with drive := x.drive }) rfl).symm
  | some d =>
    have none : axisOnDrive st (modStation st (fun x => { x with drive := d }) s) = none :=
      Gx24.Unserved.axisOnDrive (alone.congr rfl rfl)
    unfold storeDrive; dsimp only; rw [none]; rfl

/-- A station with its levels and its cue report stored (R11, R15). -/
def Station.reporting (r : Reply) (x : Station) : Station :=
  { x with levels := r.levels, lastStarted := r.lastStarted, cuePlaying := r.playing : Station }.delivered

theorem Station.reporting_heard (r : Reply) {x : Station} (zero : x.missCount = 0) :
    { x.reporting r with drive := r.drive.getD (x.reporting r).drive } = x.heard r := by
  unfold Station.reporting Station.delivered Station.heard
  cases pending : x.cue with
  | none => simp [zero]
  | some c => by_cases same : c.serial = r.lastStarted <;> simp [same, zero]

/-- Steps 1 to 4 of R11 for a station on which nothing but perhaps the query hangs. -/
theorem stored_of_unserved (alone : s.Unserved st) (f : Station → Station) (zero : (f (stationOf st s)).missCount = 0)
    (asked : Bool) (step : Option (Fin 8)) (r : Reply) :
    storeDrive st step r.drive (takeAnswer st asked r.answer (storeCueReport st r.lastStarted r.playing
      (storeLevels st r.levels (modStation st f s)))) =
    takeAnswer st asked r.answer (modStation st (fun x => (f x).heard r) s) := by
  have levels : storeLevels st r.levels (modStation st f s) = modStation st (fun x => { f x with levels := r.levels }) s := by
    unfold storeLevels
    rw [modStation_modStation]; exact Gx24.Unserved.decideGuardsOf (alone.congr rfl rfl)
  have cues : storeCueReport st r.lastStarted r.playing (modStation st (fun x => { f x with levels := r.levels }) s) =
      modStation st (fun x => (f x).reporting r) s := by
    unfold storeCueReport
    rw [modStation_modStation]
    exact Gx24.Unserved.cueReported (alone.congr rfl rfl)
  obtain ⟨mu, cr⟩ := takeAnswer_rest (st := st) asked r.answer (modStation st (fun x => (f x).reporting r) s)
  rw [levels, cues, storeDrive_of_unserved step r.drive (alone.congr mu cr), ← takeAnswer_modStation, modStation_modStation]
  exact congrArg _ (modStation_congr (Station.reporting_heard r zero))

/-- A good reply of a PRESENT station: what it reports is stored, the query seen to, and its events taken (R11, R12). -/
theorem takeReply_of_present (present : (stationOf w.station s).state = .present) (alone : s.Unserved w.station) :
    takeReply w r s = forList r.events (takeEvent w.station)
      (settle (takeAnswer w.station w.query r.answer (s.withStation w.station (·.heard r)))) := by
  unfold takeReply; dsimp only
  rw [decide_eq_true present, if_pos rfl, if_pos rfl, stored_of_unserved alone _ rfl]; rfl

/-! ### The join (R4) -/

/-- The serials and the state that a join gives a station. -/
def Station.joined (next started : Serial) (x : Station) : Station :=
  { x with
    state := .present, expected := next
    runningCue := if x.cue.isSome then started + 1#4 else started
    latestCue := if x.cue.isSome then started + 1#4 else x.latestCue
    cue := x.cue.map (fun c => { c with serial := started + 1#4 }) }

theorem joinSerials_of_unserved (next started : Serial) (alone : s.Unserved st) :
    modStation st (fun x => { x with state := .present }) (joinSerials st next started s) =
      modStation st (Station.joined next started) s := by
  unfold joinSerials; dsimp only
  rw [stationOf_modStation_same]; dsimp only
  cases pending : (stationOf st s).cue with
  | none =>
    dsimp only
    rw [modStation_modStation]
    exact modStation_congr (by simp [Station.joined, pending])
  | some c =>
    dsimp only
    rw [modStation_modStation]
    generalize moved : modStation st _ s = u
    have still : u.Unserved st := moved ▸ alone.congr rfl rfl
    rw [still.renumbered, ← moved, modStation_modStation]
    exact modStation_congr (by simp [Station.joined, pending])

theorem join_of_unserved (alone : s.Unserved st) (kept : (stationOf st s).lostKey = none) :
    join st r s = modStation st (Station.joined r.nextSerial r.lastStarted) (growStation st .stale r.events.length s) := by
  have key : (stationOf st (modStation st (Station.joined r.nextSerial r.lastStarted)
      (growStation st .stale r.events.length s))).lostKey = none := by
    rw [stationOf_modStation_same]; exact kept
  unfold join; dsimp only
  rw [joinSerials_of_unserved _ _ (Gx24.Unserved.congr (t := growStation st .stale r.events.length s) alone rfl rfl)]
  unfold endLost; dsimp only
  rw [key]
  exact modStation_eq_self (by rw [← key])

theorem takeReply_of_joining (joining : (stationOf w.station s).state = .joining) (alone : s.Unserved w.station)
    (kept : (stationOf w.station s).lostKey = none) : takeReply w r s =
      settle (takeAnswer w.station w.query r.answer (modStation w.station
        (fun x => (Station.joined r.nextSerial r.lastStarted { x with missCount := 0 }).heard r)
        (growStation w.station .stale r.events.length s))) := by
  have other : decide ((stationOf w.station s).state = .present) = false := by rw [joining]; rfl
  have still : (modStation w.station (fun x => { x with missCount := 0 }) s).Unserved w.station := alone.congr rfl rfl
  have kept' : (stationOf w.station (modStation w.station (fun x => { x with missCount := 0 }) s)).lostKey = none := by
    rw [stationOf_modStation_same]; exact kept
  have grown (f : Station → Station) (n : Nat) : growStation w.station .stale n (modStation w.station f s) =
      modStation w.station f (growStation w.station .stale n s) := rfl
  unfold takeReply; dsimp only
  rw [other]
  simp only [Bool.false_eq_true, if_false]
  rw [join_of_unserved still kept', grown, modStation_modStation,
    stored_of_unserved (Gx24.Unserved.congr (t := growStation w.station .stale r.events.length s) alone rfl rfl) _ rfl]

/-! ### The query (R16 to R18) -/

section TakeQuery

variable {station : Byte} {parameter : Word}

theorem takeQuery_range (h : 24 ≤ station.toNat ∨ 255 < parameter.toNat) :
    takeQuery station parameter s = sendUp (.queryReply station parameter .range none) s := by
  unfold takeQuery
  obtain far | far := h
  · rw [indexOf_of_le far]; rfl
  · cases indexOf 24 station
    · rfl
    · exact if_pos far

/-- A query in range, by what stands in its way. -/
theorem takeQuery_of_range (st : Fin 24) (h : parameter.toNat ≤ 255) : takeQuery (byteOf st.val) parameter s =
    if s.bs.query.isSome then sendUp (.queryReply (byteOf st.val) parameter .busy none) s
    else if (stationOf st s).state = .absent ∨ !hasSlot st s then sendUp (.queryReply (byteOf st.val) parameter .invalid none) s
    else { s with bs := { s.bs with query := some ⟨st, parameter, 4⟩ } } := by
  unfold takeQuery; rw [indexOf_byteOf_small (by decide) st]; exact if_neg (by omega)

end TakeQuery

theorem queryExhausted_iff {c : PendingQuery} : queryExhausted c s = true ↔
    c.polls = 0 ∨ (stationOf c.station s).state = .absent ∨ hasSlot c.station s = false := by
  simp [queryExhausted, or_assoc]

theorem takeAnswer_value {c : PendingQuery} {v : Word} (asked : Bool) (pending : s.bs.query = some c) (own : c.station = st) :
    takeAnswer st asked (some v) s = sendUp (.queryReply (byteOf c.station.val) c.parameter .value (some v)) (dropQuery s) := by
  have pends : queryPends st s = true := by unfold queryPends; rw [pending]; exact decide_eq_true own
  exact (if_pos pends).trans (endQuery_of_pending pending)

theorem takeAnswer_other {v : Word} (asked : Bool) (other : ∀ c, s.bs.query = some c → c.station ≠ st) :
    takeAnswer st asked (some v) s = s := by
  refine if_neg ?_
  unfold queryPends; split
  · next pending => simpa using other _ pending
  · exact Bool.false_ne_true

/-! ### Events (R12) -/

theorem takeEvent_duplicate {ev : ReplyEvent} (old : 8 ≤ (ev.serial - (stationOf st s).expected).toNat) :
    takeEvent st ev s = growStation st .duplicate 1 s := if_pos old

theorem takeEvent_new {ev : ReplyEvent} (new : (ev.serial - (stationOf st s).expected).toNat < 8) :
    takeEvent st ev s = settle (inputEvent st ev.input ev.edge
      ((growStation st .gap (ev.serial - (stationOf st s).expected).toNat s).withStation st
        (fun x => { x with expected := ev.serial + 1#4 }))) := if_neg (by omega)

/-- An event on an unmapped input is counted, and reported where the station's row says so (R23). -/
theorem inputEvent_unmapped {i : Fin 8} {edge : Edge} (h : tget s.pd.inputMap (mapIndex st i) = none) :
    inputEvent st i edge s = if (rowOf st s).forwardUnmapped
      then sendUp (.inputReport st i edge s.gc.tick) (growStation st .unmapped 1 s) else growStation st .unmapped 1 s := by
  unfold inputEvent; rw [h]; rfl

/-! ### Slots that bring a good reply -/

section Good

variable {p : Gx24} (awaited : p.bs.awaiting = some w) (kept : w.discard = false) (short : payload.length ≤ 255)
  (good : replyOf (rowOf w.station p).kind payload = some r)
include awaited kept short good

theorem endSlot_good : endSlot (some (replyLine w.station payload)) p = takeReply w r p.answered := by
  rw [endSlot_of_awaited awaited]
  exact classify_good (s := p.answered) kept ((goodReply_replyLine short).trans good)

theorem endSlot_present (present : (stationOf w.station p).state = .present)
    (alone : p.Unserved w.station) (ht : takeAnswer w.station w.query r.answer (p.answered.withStation w.station (·.heard r)) = t)
    (work : t.work = []) :
    endSlot (some (replyLine w.station payload)) p = forList r.events (takeEvent w.station) t := by
  rw [endSlot_good awaited kept short good, takeReply_of_present (s := p.answered) present (alone.congr rfl rfl), ht,
    settle_of_empty work]

end Good

theorem takeAnswer_unasked (other : ∀ c, s.bs.query = some c → c.station ≠ st) (a : Option Word) :
    takeAnswer st false a s = s := by
  cases a with
  | none => rfl
  | some v => exact takeAnswer_other false other

end Sys2Proof.Machine

open Sys2Proof Sys2Proof.Machine

/-- Settles O18: the reply is stored in one piece, then each event is a duplicate or a new one. -/
theorem goodReplyIsStoredAndItsEventTaken : Obligations.GoodReplyIsStoredAndItsEventTaken := by
  refine ⟨?_, fun s st ev => ⟨takeEvent_duplicate, takeEvent_new⟩⟩
  intro p q w payload r quiet awaited kept asked present alone short good st s done
  have still : s.work = [] := quiet.2
  have outcome : done = .next ⟨settle (forList r.events (takeEvent st) s), q⟩ := by
    refine (quiet.runs q _).trans ?_
    have stored : takeAnswer st w.query r.answer s = s := by
      rw [asked]; exact takeAnswer_unasked (s := s) alone.2.2 _
    rw [endSlot_present awaited kept short good present alone.unserved stored still]
  refine ⟨outcome, fun none => ?_, fun ev one => ?_⟩
  · rw [outcome, none, forList_nil, settle_of_empty still]
  · intro d taken
    have heard : (stationOf st s).expected = (stationOf st p).expected := by
      rw [show stationOf st s = (stationOf st p).heard r from stationOf_modStation_same (s := p.answered) _]; rfl
    have event : done = .next ⟨settle (takeEvent st ev s), q⟩ := by rw [outcome, one, forList_cons, forList_nil]
    have new (few : d < 8) : takeEvent st ev s = settle (inputEvent st ev.input ev.edge taken) := by
      have few' : (ev.serial - (stationOf st s).expected).toNat < 8 := by rw [heard]; exact few
      rw [takeEvent_new few', heard]
    refine ⟨fun old => ?_, fun few unmapped => ?_, fun few row mapped => ?_⟩
    · rw [event, takeEvent_duplicate (by rw [heard]; exact old), settle_of_empty (s := growStation st .duplicate 1 s) still]
    · intro counted
      have counts : inputEvent st ev.input ev.edge taken =
          if (rowOf st p).forwardUnmapped then sendUp (.inputReport st ev.input ev.edge p.gc.tick) counted else counted :=
        inputEvent_unmapped (s := taken) unmapped
      have counted_still : counted.work = [] := still
      have event_still : (inputEvent st ev.input ev.edge taken).work = [] := by
        rw [counts]; split
        exacts [(sendUp_work ..).trans counted_still, counted_still]
      rw [event, new few, settle_of_empty event_still, settle_of_empty event_still, counts]
    · rw [event, new few]

/-- Settles O19: the join gives the serials, and the reply is then stored as any other. -/
theorem firstGoodReplyJoinsTheStation : Obligations.FirstGoodReplyJoinsTheStation := by
  intro p q w payload r quiet awaited kept asked joining lost alone short good st s
  have taken : endSlot (some (replyLine st payload)) p =
      modStation st (fun x => (Station.joined r.nextSerial r.lastStarted { x with missCount := 0 }).heard r) s := by
    rw [endSlot_good awaited kept short good, takeReply_of_joining (s := p.answered) joining (alone.unserved.congr rfl rfl) lost,
      asked]
    exact (congrArg settle (takeAnswer_unasked (s := modStation st _ s) alone.2.2 _)).trans (settle_of_empty quiet.2)
  refine quiet.runs_still_as q (taken.trans (modStation_congr ?_)) quiet.2
  have later : ∀ n : Serial, n + 1#4 ≠ n := by decide
  unfold Station.joined Station.heard
  cases (stationOf st s).cue with
  | none => rfl
  | some c => simp [later]

/-- Settles O20: each command's checks in order, and the slot's reply with the query among what it brings. -/
theorem queryIsTakenAnsweredOrTimedOut : Obligations.QueryIsTakenAnsweredOrTimedOut := by
  refine ⟨?_, fun p q quiet => ⟨fun none => quiet.unchanged q (by unfold eventQueryTimeout; rw [none]), fun c pending => ⟨fun used => ?_,
    fun left => ?_⟩⟩, ?_⟩
  · intro p q station parameter quiet own s
    have sent (f : UpFrame) : (sendUp f s).work = [] := (sendUp_work ..).trans quiet.2
    refine ⟨fun range => quiet.takes_still_as own q (takeQuery_range range) (sent _), ?_⟩
    rintro st rfl short
    have taken := takeQuery_of_range (s := s) st short
    refine ⟨fun busy => quiet.takes_still_as own q (taken.trans (if_pos busy)) (sent _), fun none gone => ?_, fun none here slot => ?_⟩
    · have idle : ¬s.bs.query.isSome = true := by rw [show s.bs.query = .none from none]; exact Bool.false_ne_true
      refine quiet.takes_still_as own q (taken.trans ((if_neg idle).trans (if_pos ?_))) (sent _)
      exact gone.imp_right fun slot => by rw [show hasSlot st s = false from slot]; rfl
    · have idle : ¬s.bs.query.isSome = true := by rw [show s.bs.query = .none from none]; exact Bool.false_ne_true
      refine quiet.takes_still_as own q (taken.trans ((if_neg idle).trans (if_neg ?_))) quiet.2
      rintro (absent | slotless)
      · exact here absent
      · rw [show hasSlot st s = true from slot] at slotless; exact absurd slotless (by decide)
  · refine quiet.runs_still_as q ?_ ((sendUp_work ..).trans quiet.2)
    unfold eventQueryTimeout; rw [pending]
    exact (if_pos (queryExhausted_iff.mpr used)).trans (endQuery_of_pending pending)
  · refine quiet.unchanged q ?_
    unfold eventQueryTimeout; rw [pending]; exact if_neg fun used => left (queryExhausted_iff.mp used)
  · intro p q w payload r quiet awaited kept present alone short good events done s
    have still : s.work = [] := quiet.2
    have outcome {t : Gx24} (ht : takeAnswer w.station w.query r.answer s = t) (work : t.work = []) : done = .next ⟨t, q⟩ := by
      refine quiet.runs_still_as q ?_ work
      rw [endSlot_present awaited kept short good present alone ht work, events, forList_nil]
    have sent (f : UpFrame) : (sendUp f (dropQuery s)).work = [] := (sendUp_work ..).trans still
    refine ⟨fun v answer other => outcome ?_ still, fun answer asked => outcome ?_ still, fun c pending => ⟨fun v answer own => ?_,
      fun answer asked left => outcome ?_ still, fun answer asked used => ?_⟩⟩
    · rw [answer]; exact takeAnswer_other (s := s) _ other
    · rw [answer, asked]; rfl
    · refine outcome (t := sendUp _ (dropQuery s)) ?_ (sent _)
      rw [answer]; exact takeAnswer_value (s := s) _ pending own
    · rw [answer, asked]; exact queryUnanswered_of_left (s := s) pending left
    · refine outcome (t := sendUp _ (dropQuery s)) ?_ (sent _)
      rw [answer, asked]; exact queryUnanswered_of_used (s := s) pending used

end

section
/-! The sweep (R7 to R10, R17): a slot begins where the last one ended, and nothing but a poll has a reply awaited. -/

namespace Sys2Proof.Machine

variable {s t p : Gx24} {st : Fin 24} {q : List Instr}

/-- What a slot's end and the notices it gives leave of the sweep: its place, and no reply awaited. -/
def SlotDone (n : Fin 33) (s : Gx24) : Prop := s.bs.nextSlot = n ∧ s.bs.awaiting = none

theorem keptView_slotDone (n : Fin 33) : KeptView (SlotDone n) where
  frame _ same h := ⟨same.slot.trans h.1, same.awaited h.2⟩
  render {s} h := by
    obtain ⟨p, st, b, hf⟩ := render_frame s
    rw [hf]; exact h
  clearStories e h := by unfold SlotDone; rwa [clearStories_bs]
  storePause r l h := by unfold SlotDone; rwa [storePause_bs]
  startIndex r h := by unfold SlotDone; rwa [startIndex_bs]
  changeMode {s} e m h := by
    have drawn {u : Gx24} (h : SlotDone n u) : SlotDone n (render u) := by
      obtain ⟨p, st, b, hf⟩ := render_frame u
      rw [hf]; exact h
    have shown : SlotDone n (showMode e (clearStories e (modExhibit e (fun x => { x with mode := m }) s))) := by
      have cleared : SlotDone n (clearStories e (modExhibit e (fun x => { x with mode := m }) s)) := by
        unfold SlotDone; rw [clearStories_bs]; exact h
      unfold showMode; split
      exacts [cleared, cleared]
    unfold Machine.changeMode; dsimp only; split
    exacts [drawn shown, shown]

/-- A slot that ends without a reply is done, and so is what follows of it. -/
theorem slotDone_endSlot (reply : Option (List Byte)) (s : Gx24) : SlotDone s.bs.nextSlot (settle (endSlot reply s)) := by
  refine (keptView_slotDone _).settle ?_
  unfold endSlot; split
  · next idle => exact ⟨rfl, idle⟩
  · next w _ =>
    have k := keptView_slotDone s.bs.nextSlot
    have start : SlotDone s.bs.nextSlot s.answered := ⟨rfl, rfl⟩
    show SlotDone _ (classify w reply s.answered)
    unfold classify; repeat' split
    exacts [start, k.takeMiss _ _ start, k.takeReply _ _ start, k.takeMiss _ _ start]

theorem startSweep_eq (s : Gx24) : startSweep s = s.sweepStarted := by unfold startSweep Gx24.sweepStarted stationOf; rfl

theorem quiet_sweepStarted (h : s.Quiet) : s.sweepStarted.Quiet := by simp only [Gx24.sweepStarted]; exact h

theorem sweepStarted_slot (s : Gx24) :
    s.sweepStarted.bs.nextSlot = 0 ∧ s.sweepStarted.bs.awaiting = s.bs.awaiting := by simp only [Gx24.sweepStarted, and_self]

/-! ### Slots that begin (R7) -/

/-- A slot begins on a part on which the last one has ended. -/
theorem nextSlotStart_of_ended (h : settle (endSlot none s) = t) : nextSlotStart s =
    if h : t.bs.nextSlot.val < 32 then beginSlot ⟨t.bs.nextSlot.val, h⟩ t else beginSlot 0 (startSweep t) := by
  unfold nextSlotStart; dsimp only; rw [h]

theorem ended_of_idle (quiet : s.Quiet) (idle : s.bs.awaiting = none) : settle (endSlot none s) = s := by
  rw [endSlot_of_idle idle, settle_of_empty quiet.2]

theorem nextSlotStart_at {i : Fin 32} (quiet : s.Quiet) (idle : s.bs.awaiting = none) (at' : s.bs.nextSlot = i.castSucc) :
    nextSlotStart s = beginSlot i s := by
  have within : s.bs.nextSlot.val < 32 := by rw [at']; exact i.isLt
  have slot : (⟨s.bs.nextSlot.val, within⟩ : Fin 32) = i :=
    Fin.ext (show s.bs.nextSlot.val = i.val by rw [at']; rfl)
  rw [nextSlotStart_of_ended (ended_of_idle quiet idle), dif_pos within, slot]

theorem nextSlotStart_at_end (quiet : s.Quiet) (idle : s.bs.awaiting = none) (at' : s.bs.nextSlot = 32) :
    nextSlotStart s = beginSlot 0 (startSweep s) := by
  rw [nextSlotStart_of_ended (ended_of_idle quiet idle), dif_neg (by rw [at']; decide)]

/-- The part with the next slot's place kept and nothing on the branch. -/
def Gx24.slotBegun (i : Fin 32) (s : Gx24) : Gx24 := { s with branchOut := [], bs := { s.bs with nextSlot := i.succ } }

theorem beginSlot_empty {i : Fin 32} (h : tget s.bs.schedule i = none) : beginSlot i s = s.slotBegun i := by
  unfold beginSlot; dsimp only; rw [h]; rfl

theorem beginSlot_filled {i : Fin 32} (h : tget s.bs.schedule i = some st) :
    beginSlot i s = if (stationOf st s).state = .absent then s.slotBegun i else pollStation st (s.slotBegun i) := by
  unfold beginSlot; dsimp only; rw [h]; rfl

/-- A command has the same outcome on parts of which it makes the same. -/
theorem Gx24.Quiet.runs_same {f : Gx24 → Gx24} (h : s.Quiet) (h' : t.Quiet) (q : List Instr) (same : f s = f t) :
    State.act f ⟨s, q⟩ = State.act f ⟨t, q⟩ := by rw [h.runs, h'.runs, same]

/-! ### Polls (R9, R10, R17) -/

theorem askQuery_eq (st : Fin 24) (s : Gx24) :
    askQuery st s = (s.queryFor st, { s with bs := { s.bs with query := s.queryAsked st } }) := by
  unfold askQuery Gx24.queryFor Gx24.queryAsked
  cases pending : s.bs.query with
  | none => simp only [← pending]
  | some c => dsimp only; split <;> simp only [← pending]

/-- A poll is going out: its query is counted, and its reply awaited. -/
def Gx24.asking (st : Fin 24) (s : Gx24) : Gx24 :=
  { s with bs := { s.bs with query := s.queryAsked st, awaiting := some ⟨st, none, (s.queryFor st).isSome, false⟩ } }

/-- The poll of the part as it stands, with the image and the query parameter taken before the step point. -/
def Gx24.pollSent (st : Fin 24) (image : Station) (query : Option Word) (s : Gx24) : Gx24 :=
  { s with branchOut := pollLine st (pollPayload (rowOf st s).kind image query (pollSetpoint st s)) }

theorem pollStation_eq (st : Fin 24) (s : Gx24) : pollStation st s =
    (if atStepPoint st (s.asking st) then stepPoint st (s.asking st) else s.asking st).pollSent st (stationOf st s)
      (s.queryFor st) := by
  unfold pollStation; dsimp only; rw [askQuery_eq]; rfl

theorem stepPoint_of_driveless (h : axisOnDrive st s = none) :
    stepPoint st s = s.withStation st (fun x => { x with stepped := true }) := by
  unfold stepPoint; dsimp only
  rw [show axisOnDrive st (modStation st (fun x => { x with stepped := true }) s) = none from h]; rfl

/-- Marking a station stepped changes nothing of its poll. -/
theorem pollSent_stepped (h : axisOnDrive st s = none) (image : Station) (query : Option Word) :
    (s.withStation st (fun x => { x with stepped := true })).pollSent st image query =
      (s.pollSent st image query).withStation st (fun x => { x with stepped := true }) := by
  have drive : (stationOf st (s.withStation st (fun x => { x with stepped := true }))).drive = (stationOf st s).drive :=
    (congrArg Station.drive (stationOf_modStation_same (s := s) (st := st) fun x => { x with stepped := true }) :)
  have setpoint : pollSetpoint st (s.withStation st (fun x => { x with stepped := true })) = pollSetpoint st s := by
    unfold pollSetpoint reportedPosition
    rw [drive, show axisOnDrive st (s.withStation st (fun x => { x with stepped := true })) = none from h, h]
  unfold Gx24.pollSent; rw [setpoint]; rfl

/-- The step point of a drive: the axis steps, and the awaited reply answers that step (R9, R91). -/
theorem stepPoint_of_drive {a : Fin 8} (h : axisOnDrive st s = some a) : stepPoint st s =
    stepAxis a { s.withStation st (fun x => { x with stepped := true }) with
      bs := { (s.withStation st (fun x => { x with stepped := true })).bs with
        awaiting := s.bs.awaiting.map (fun w => { w with stepAxis := some a }) } } := by
  unfold stepPoint; dsimp only
  rw [show axisOnDrive st (modStation st (fun x => { x with stepped := true }) s) = some a from h]; rfl

end Sys2Proof.Machine

open Sys2Proof Sys2Proof.Machine

/-- Settles O15: where no reply is awaited a slot begins at once, and elsewhere as on the part its end leaves. -/
theorem slotStartPollsTheStation : Obligations.SlotStartPollsTheStation := by
  refine ⟨fun p q quiet idle => ⟨fun last => ?_, fun other => quiet.unchanged q (if_neg other)⟩, ?_, ?_, ?_⟩
  · refine quiet.runs_still_as q ?_ (quiet_sweepStarted quiet).2
    unfold eventSweepStart; rw [if_pos last, ended_of_idle quiet idle, startSweep_eq]
  · intro p q quiet idle
    refine ⟨fun last => ?_, fun i at' => ?_⟩
    · have quiet' : p.sweepStarted.Quiet := quiet_sweepStarted quiet
      have same : nextSlotStart p = nextSlotStart p.sweepStarted := by
        obtain ⟨slot, awaited⟩ := sweepStarted_slot p
        rw [nextSlotStart_at_end quiet idle last, startSweep_eq, nextSlotStart_at (i := 0) quiet' (awaited.trans idle) slot]
      exact quiet.runs_same quiet' q same
    · have begins {t : Gx24} (ht : beginSlot i p = t) (work : t.work = []) : exec .slotStart ⟨p, q⟩ = .next ⟨t, q⟩ :=
        quiet.runs_still_as q ((nextSlotStart_at quiet idle at').trans ht) work
      refine ⟨fun empty => begins (beginSlot_empty empty) quiet.2, fun st filled => ⟨fun absent => ?_, ?_⟩⟩
      · exact begins ((beginSlot_filled filled).trans (if_pos absent)) quiet.2
      · intro polled
        have polls (here : (stationOf st p).state ≠ .absent) : beginSlot i p = pollStation st (p.slotBegun i) :=
          (beginSlot_filled filled).trans (if_neg here)
        refine ⟨fun here notYet => begins ((polls here).trans ?_) quiet.2, fun here drive unstepped driveless =>
          begins ((polls here).trans ?_) quiet.2⟩
        · have no : atStepPoint st ((p.slotBegun i).asking st) = false := by
            show (decide ((rowOf st p).kind = .drive) && !(stationOf st p).stepped) = false
            obtain other | stepped := notYet
            · rw [decide_eq_false other, Bool.false_and]
            · rw [stepped, Bool.not_true, Bool.and_false]
          rw [pollStation_eq, no]; rfl
        · have yes : atStepPoint st ((p.slotBegun i).asking st) = true := by
            show (decide ((rowOf st p).kind = .drive) && !(stationOf st p).stepped) = true
            rw [decide_eq_true drive, unstepped]; rfl
          rw [pollStation_eq, yes, if_pos rfl, stepPoint_of_driveless (s := (p.slotBegun i).asking st) driveless]
          exact pollSent_stepped (s := (p.slotBegun i).asking st) driveless _ _
  · intro p q i st a quiet idle at' filled here drive unstepped driven t
    have yes : atStepPoint st ((p.slotBegun i).asking st) = true := by
      show (decide ((rowOf st p).kind = .drive) && !(stationOf st p).stepped) = true
      rw [decide_eq_true drive, unstepped]; rfl
    have polled : nextSlotStart p = t.pollSent st (stationOf st p) (p.queryFor st) := by
      rw [nextSlotStart_at quiet idle at', beginSlot_filled filled, if_neg here, pollStation_eq, yes, if_pos rfl,
        stepPoint_of_drive (s := (p.slotBegun i).asking st) driven]
      rfl
    refine (quiet.runs q _).trans ?_
    rw [polled]; rfl
  · intro p t q ended quiet quiet' awaited
    have settled : settle (endSlot none p) = t := by
      have := (quiet.runs q (endSlot none)).symm.trans ended
      injection this with this; injection this
    obtain ⟨slot, idle⟩ := slotDone_endSlot none p
    rw [settled] at slot idle
    have again : settle (endSlot none t) = t := ended_of_idle quiet' idle
    refine ⟨?_, fun last => ?_⟩
    · have same : nextSlotStart p = nextSlotStart t := by rw [nextSlotStart_of_ended settled, nextSlotStart_of_ended again]
      exact quiet.runs_same quiet' q same
    · have same : eventSweepStart p = eventSweepStart t := by
        unfold eventSweepStart; rw [slot, settled, again]
        rw [if_pos last, if_pos last]
      exact quiet.runs_same quiet' q same

end

section
/-! The tables of the branch and of presses (R1, R2, R7, R24, R25, R40, R41, R64): each write on a row that its bytes spell,
and the moves that a station's row gives the station. -/

namespace Sys2Proof.Machine

variable {s t : Gx24} {st : Fin 24} {e : Fin 16}

/-! ### Rows that are read -/

/-- The table with the station's row replaced. -/
def Gx24.rowStored (st : Fin 24) (r : StationRow) (s : Gx24) : Gx24 :=
  { s with bs := { s.bs with rows := tput s.bs.rows st r } }

theorem writeStationRow_of_row (st : Fin 24) (r : StationRow) (s : Gx24) :
    writeStationRow (BitVec.ofNat 16 st.val) r.bytes s =
      if (((rowOf st s).enabled && !r.enabled) || decide ((rowOf st s).kind ≠ r.kind)) && usedByMotion st s then (.live, s)
      else (.ok, beaconRowWritten st (rowOf st s) r (moveStation st (rowOf st s) r (s.rowStored st r))) := by
  unfold writeStationRow; rw [indexOfWord_ofNat (by decide), stationRowOf_bytes]; rfl

theorem usedByMotion_iff : usedByMotion st s = true ↔ ∃ a, usesStation a st s = true := anyRow_iff

theorem Gx24.Unattached.unused (h : s.Unattached st) : usedByMotion st s = false :=
  anyRow_false.mpr fun a => by
    obtain ⟨drive, guard⟩ := h.1 a
    unfold usesStation
    rw [decide_eq_false drive, Bool.false_or]
    cases named : (axisOf a s).params.guard with
    | none => exact Bool.and_false _
    | some g => dsimp only; rw [decide_eq_false (guard g named), Bool.and_false]

theorem writeStationRow_of_unused (r : StationRow) (h : (((rowOf st s).enabled && !r.enabled) ||
    decide ((rowOf st s).kind ≠ r.kind)) = false ∨ usedByMotion st s = false) :
    writeStationRow (BitVec.ofNat 16 st.val) r.bytes s =
      (.ok, beaconRowWritten st (rowOf st s) r (moveStation st (rowOf st s) r (s.rowStored st r))) := by
  rw [writeStationRow_of_row, if_neg]
  rw [Bool.and_eq_true]
  rintro ⟨changed, used⟩
  obtain h | h := h
  · rw [h] at changed; exact absurd changed Bool.false_ne_true
  · rw [h] at used; exact absurd used Bool.false_ne_true

/-- The table with the slot's entry replaced. -/
def Gx24.slotStored (i : Fin 32) (new : Option (Fin 24)) (s : Gx24) : Gx24 :=
  { s with bs := { s.bs with schedule := tput s.bs.schedule i new } }

/-- The write takes the last slot of a station that an axis drives (R7). -/
def baresDrive (i : Fin 32) (new : Option (Fin 24)) (s : Gx24) : Bool :=
  match tget s.bs.schedule i with
  | some st => !hasSlot st (s.slotStored i new) && (axisOnDrive st s).isSome
  | none => false

/-- The station that a slot is given to had one already. -/
def hadSlot (x : Option (Fin 24)) (s : Gx24) : Bool :=
  match x with
  | some st => hasSlot st s
  | none => false

theorem writeSchedule_of_slot (i : Fin 32) (new : Option (Fin 24)) (s : Gx24) :
    writeSchedule (BitVec.ofNat 16 i.val) [optByte (new.map (·.val))] s =
      if baresDrive i new s then (.live, s)
      else (.ok, slotsChanged new (hadSlot new s) (slotsChanged (tget s.bs.schedule i) true (s.slotStored i new))) := by
  unfold writeSchedule; rw [indexOfWord_ofNat (by decide)]; dsimp only
  rw [optIndexOf_optByte (by decide)]; rfl

theorem baresDrive_of_unattached {i : Fin 32} {new : Option (Fin 24)}
    (alone : ∀ st, tget s.bs.schedule i = some st → s.Unattached st) : baresDrive i new s = false := by
  unfold baresDrive
  cases named : tget s.bs.schedule i with
  | none => rfl
  | some st => dsimp only; rw [(alone st named).unserved.axisOnDrive]; exact Bool.and_false _

theorem writeInputMap_of_entry (i : Fin 192) (new : Option (Fin 128)) (s : Gx24) :
    writeInputMap (BitVec.ofNat 16 i.val) [optByte (new.map (·.val))] s =
      if inPublicUse (mappedExhibit (tget s.pd.inputMap i) s) s || inPublicUse (mappedExhibit new s) s then (.live, s)
      else (.ok, { s with pd := { s.pd with inputMap := tput s.pd.inputMap i new } }) := by
  unfold writeInputMap; rw [indexOfWord_ofNat (by decide)]; dsimp only
  rw [optIndexOf_optByte (by decide)]

theorem writeTriggerRow_of_row (i : Fin 128) (r : TriggerRow) (s : Gx24) :
    writeTriggerRow (BitVec.ofNat 16 i.val) r.bytes s =
      if inPublicUse (triggerOf i s).exhibit s || inPublicUse r.exhibit s then (.live, s)
      else (.ok, { s with pd := { s.pd with
        rows := tput s.pd.rows i r, continuation := tput s.pd.continuation i none } }) := by
  unfold writeTriggerRow; rw [indexOfWord_ofNat (by decide), triggerRowOf_bytes]

theorem writeAction_of_contents {c : List Byte} {x : ActionContents} (h : actionContentsOf c = some x) (i : Fin 512) (s : Gx24) :
    writeAction (BitVec.ofNat 16 i.val) c s =
      if runnerStandsAt i s then (.live, s)
      else match x with
        | .hardwareAlert => (.invalid, s)
        | .entry a => (.ok, { s with cr := { s.cr with actions := tput s.cr.actions i a } }) := by
  unfold writeAction; rw [indexOfWord_ofNat (by decide), h] <;> rfl

theorem runnerStandsAt_iff {i : Fin 512} :
    runnerStandsAt i s = true ↔ ∃ e, (runnerOf e s).state ≠ .free ∧ (runnerOf e s).index.val = i.val := by
  unfold runnerStandsAt
  rw [anyRow_iff]
  simp only [Bool.and_eq_true, decide_eq_true_eq]

theorem writeExhibitConfig_of_row {r : ExhibitRecord} (h : r.loadable = true) (e : Fin 16) (s : Gx24) :
    writeExhibitConfig (BitVec.ofNat 16 e.val) r.bytes s =
      if inPublicUse (some e) s || dropsHeldAxis e r.axes s then (.live, s)
      else if namesTwice r.axes || listedByThree e r.axes s then (.invalid, s)
      else (.ok, if r.lamp = (exhibitOf e s).record.lamp then modExhibit e (fun x => { x with record := r }) s
        else showMode e (modExhibit e (fun x => { x with record := r }) s)) := by
  unfold writeExhibitConfig; rw [indexOfWord_ofNat (by decide), exhibitRecordOf_bytes h]

theorem inPublicUse_iff : inPublicUse (some e) s = true ↔ (exhibitOf e s).mode = .pub ∨ (exhibitOf e s).mode = .held := by
  unfold inPublicUse
  rw [Bool.or_eq_true, decide_eq_true_eq, decide_eq_true_eq]

theorem namesTwice_iff {l : List (Fin 8)} : namesTwice l = true ↔ ∃ a, l = [a, a] := by
  unfold namesTwice
  split
  · next x y => rw [decide_eq_true_eq]; exact ⟨fun h => ⟨x, by rw [h]⟩, by rintro ⟨a, h⟩; cases h; rfl⟩
  · next other => exact ⟨nofun, fun ⟨a, h⟩ => (other a a h).elim⟩

/-- A mode closed to the public shows a dark lamp (R48). -/
theorem modePattern_off {m : Mode} (h : ¬(m = .pub ∨ m = .held)) : modePattern m = .off := by
  cases m with
  | pub => exact absurd (.inl rfl) h
  | held => exact absurd (.inr rfl) h
  | service => rfl
  | dark => rfl

/-- The lamp that a row of an exhibit closed to the public names is put off (R41). -/
theorem showMode_of_record {r : ExhibitRecord} (closed : ¬((exhibitOf e s).mode = .pub ∨ (exhibitOf e s).mode = .held)) :
    showMode e (modExhibit e (fun x => { x with record := r }) s) =
      match r.lamp with
      | some (st, out) => writeLamp st out .off (modExhibit e (fun x => { x with record := r }) s)
      | none => modExhibit e (fun x => { x with record := r }) s := by
  unfold showMode
  rw [exhibitOf_modExhibit_same]; dsimp only
  rw [modePattern_off closed] <;> rfl

/-! ### The station's moves (R2) -/

/-- A condition that a key was kept for ends (R2). -/
def endKept (k : Option AlertKey) (s : Gx24) : Gx24 :=
  match k with
  | some key => endCondition key s
  | none => s

theorem endLost_eq (st : Fin 24) (s : Gx24) :
    endLost st s = endKept (stationOf st s).lostKey (modStation st (fun x => { x with lostKey := none }) s) := rfl

theorem Gx24.Unattached.endKept (h : s.Unattached st) (k : Option AlertKey) : (endKept k s).Unattached st := by
  cases k with
  | none => exact h
  | some key =>
    have same := (alertsOnlyBlind s).endCondition key (.refl s)
    exact h.congr same.mu same.cr (by rw [show (Machine.endKept (some key) s).bs = _ from same.bs])

/-- What a station loses when it is withdrawn, where nothing else hangs on it. -/
theorem stationWithdrawn_of_unattached {f : Station → Station} (alone : s.Unattached st)
    (kept : (f (stationOf st s)).lostKey = (stationOf st s).lostKey) :
    stationWithdrawn st (modStation st f s) =
      (endKept (stationOf st s).lostKey ((discardAwaited st s).withStation st (fun x => { f x with lostKey := none }))).withStation st
        (fun x => { x with cue := none }) := by
  have key : (stationOf st (discardAwaited st (modStation st f s))).lostKey = (stationOf st s).lostKey :=
    (congrArg Station.lostKey (stationOf_modStation_same (s := s) f)).trans kept
  have moved : modStation st (fun x => { x with lostKey := none }) (discardAwaited st (modStation st f s)) =
      (discardAwaited st s).withStation st (fun x => { f x with lostKey := none }) :=
    modStation_modStation (s := discardAwaited st s) f _
  have ended : ((discardAwaited st s).withStation st (fun x => { f x with lostKey := none })).Unattached st :=
    alone.congr rfl rfl rfl
  have still := ended.endKept (stationOf st s).lostKey
  unfold stationWithdrawn
  rw [endLost_eq, key, moved]
  generalize endKept _ _ = u at still ⊢
  have still' : (modStation st (fun x => { x with cue := none }) u).Unattached st := still.congr rfl rfl rfl
  rw [still.unserved.decideGuardsOf]
  unfold discardCue
  rw [still'.unserved.endStationWaits, still'.endQueryOf]; rfl

theorem enableStation_of_unattached (alone : s.Unattached st) :
    enableStation st s = s.withStation st (fun x => { x with state := .joining, missCount := 0 }) :=
  Gx24.Unserved.decideGuardsOf (alone.unserved.congr rfl rfl)

section MoveStation

variable {old new : StationRow}

theorem moveStation_enabled (was : old.enabled = false) (now : new.enabled = true) :
    moveStation st old new s = enableStation st s := by
  unfold moveStation; rw [was, now]; exact if_pos rfl

theorem moveStation_disabled (was : old.enabled = true) (now : new.enabled = false) :
    moveStation st old new s = disableStation st s := by
  unfold moveStation; rw [was, now]; exact (if_neg Bool.false_ne_true).trans (if_pos rfl)

theorem moveStation_kind (was : old.enabled = true) (now : new.enabled = true) (kind : old.kind ≠ new.kind) :
    moveStation st old new s = changeStationKind st s := by
  unfold moveStation; rw [was, now, decide_eq_true kind]
  exact (if_neg Bool.false_ne_true).trans ((if_neg Bool.false_ne_true).trans (if_pos rfl))

theorem moveStation_same (same : old.enabled = new.enabled) (kind : old.kind = new.kind ∨ new.enabled = false) :
    moveStation st old new s = s := by
  have stays : (new.enabled && decide (old.kind ≠ new.kind)) = false :=
    kind.elim (fun h => by rw [decide_eq_false (not_not_intro h), Bool.and_false]) (fun h => by rw [h, Bool.false_and])
  unfold moveStation
  rw [same, Bool.not_and_self, Bool.and_not_self, stays]
  exact (if_neg Bool.false_ne_true).trans ((if_neg Bool.false_ne_true).trans (if_neg Bool.false_ne_true))

theorem beaconRowWritten_of_dark (h : ¬(new.kind = .beacon ∧ (old.kind ≠ .beacon ∨ old.zone ≠ new.zone))) :
    beaconRowWritten st old new s = s := if_neg h

end MoveStation

/-- A write taken, by where it moves the station. -/
theorem writeStationRow_taken {r : StationRow} {u : Gx24} (h : (((rowOf st s).enabled && !r.enabled) ||
    decide ((rowOf st s).kind ≠ r.kind)) = false ∨ usedByMotion st s = false)
    (moved : moveStation st (rowOf st s) r (s.rowStored st r) = u) :
    writeStationRow (BitVec.ofNat 16 st.val) r.bytes s = (.ok, beaconRowWritten st (rowOf st s) r u) := by
  rw [writeStationRow_of_unused r h, moved]

/-! ### The schedule's moves (R7) -/

theorem slotsChanged_of_unattached {x : Option (Fin 24)} (had : Bool) (alone : ∀ st, x = some st → s.Unattached st) :
    slotsChanged x had s = s := by
  cases x with
  | none => rfl
  | some st =>
    unfold slotsChanged; dsimp only
    rw [(alone st rfl).unserved.decideGuardsOf, (alone st rfl).endQueryOf, ite_self, ite_self]

end Sys2Proof.Machine

open Sys2Proof Sys2Proof.Machine

/-- Settles O50: each row is read back from its bytes, and each write is its checks in order and then the row replaced. -/
theorem pressPathTablesAreWritten : Obligations.PressPathTablesAreWritten := by
  intro p q tag quiet own t answer
  have still : t.work = [] := quiet.2
  refine ⟨fun st r => ?_, fun i new => ?_, fun i new => ?_, fun i r => ?_, fun i c x hx => ?_, fun e r load => ?_⟩
  · intro old done stored
    have writes {code : ReplyCode} {u : Gx24} (hu : writeStationRow (BitVec.ofNat 16 st.val) r.bytes t = (code, u))
        (hw : u.work = []) : done = .next ⟨answer 1 st.val code u, q⟩ := quiet.writes own q tag 1 _ hu hw
    have written {u : Gx24} (dark : ¬(r.kind = .beacon ∧ (old.kind ≠ .beacon ∨ old.zone ≠ r.zone))) (hw : u.work = [])
        (hu : writeStationRow (BitVec.ofNat 16 st.val) r.bytes t = (.ok, beaconRowWritten st old r u)) :
        done = .next ⟨answer 1 st.val .ok u, q⟩ :=
      writes (hu.trans (congrArg _ (beaconRowWritten_of_dark dark))) hw
    refine ⟨fun changed used => ?_, fun enabled kind zone => ?_, fun was now plain alone => ?_⟩
    · refine writes ((writeStationRow_of_row st r t).trans (if_pos ?_)) still
      rw [show usedByMotion st t = true from usedByMotion_iff.mpr used, Bool.and_true, Bool.or_eq_true]
      refine changed.imp (fun ⟨was, now⟩ => ?_) decide_eq_true
      rw [show (rowOf st t).enabled = true from was, now]; rfl
    · have same : (((rowOf st t).enabled && !r.enabled) || decide ((rowOf st t).kind ≠ r.kind)) = false := by
        rw [show (rowOf st t).enabled = r.enabled from enabled.symm, Bool.and_not_self,
          show decide ((rowOf st t).kind ≠ r.kind) = false from decide_eq_false (not_not_intro kind.symm)]; rfl
      refine written ?_ still (writeStationRow_taken (.inl same) (moveStation_same enabled.symm (.inl kind.symm)))
      rintro ⟨beacon, other | other⟩
      exacts [other (kind ▸ beacon), other zone.symm]
    · refine written (fun ⟨beacon, _⟩ => plain beacon) still (writeStationRow_taken
        (.inr (Gx24.Unattached.unused (s := t) (alone.congr rfl rfl rfl))) ?_)
      refine (moveStation_enabled was now).trans ?_
      exact enableStation_of_unattached (s := t.rowStored st r) (alone.congr rfl rfl rfl)
  · intro done stored
    have writes {code : ReplyCode} {u : Gx24}
        (hu : writeSchedule (BitVec.ofNat 16 i.val) [optByte (new.map (·.val))] t = (code, u))
        (hw : u.work = []) : done = .next ⟨answer 2 i.val code u, q⟩ := quiet.writes own q tag 2 _ hu hw
    have row := writeSchedule_of_slot i new t
    refine ⟨fun st named last drives => ?_, fun oldAlone newAlone => ?_⟩
    · refine writes (row.trans (if_pos ?_)) still
      unfold baresDrive
      rw [show tget t.bs.schedule i = some st from named]
      exact Bool.and_eq_true_iff.mpr ⟨congrArg Bool.not last, drives⟩
    · refine writes (row.trans ((if_neg ?_).trans (congrArg _ ?_))) still
      · rw [baresDrive_of_unattached (s := t) fun st h => (oldAlone st h).congr rfl rfl rfl]; exact Bool.false_ne_true
      · have left : ∀ st, tget t.bs.schedule i = some st → (t.slotStored i new).Unattached st :=
          fun st h => (oldAlone st h).congr rfl rfl rfl
        have given : ∀ st, new = some st → (t.slotStored i new).Unattached st := fun st h => (newAlone st h).congr rfl rfl rfl
        rw [slotsChanged_of_unattached true left, slotsChanged_of_unattached _ given]; rfl
  · intro done used
    have row := writeInputMap_of_entry i new t
    exact ⟨fun live => quiet.writes own q tag 3 _ (row.trans (if_pos live)) still, fun free =>
      quiet.writes own q tag 3 _ (row.trans (if_neg (Bool.eq_false_iff.mp free))) still⟩
  · intro done used
    have row := writeTriggerRow_of_row i r t
    exact ⟨fun live => quiet.writes own q tag 4 _ (row.trans (if_pos live)) still, fun free =>
      quiet.writes own q tag 4 _ (row.trans (if_neg (Bool.eq_false_iff.mp free))) still⟩
  · intro done used
    have row := writeAction_of_contents hx i t
    have stands : runnerStandsAt i t = true ↔ used := runnerStandsAt_iff
    refine ⟨fun live => quiet.writes own q tag 6 _ (row.trans (if_pos (stands.mpr live))) still, fun free kind => ?_,
      fun a free kind => ?_⟩
    · subst kind
      exact quiet.writes own q tag 6 _ (row.trans (if_neg fun h => free (stands.mp h))) still
    · subst kind
      exact quiet.writes own q tag 6 _ (row.trans (if_neg fun h => free (stands.mp h))) still
  · intro done x used senseless stored
    have writes {code : ReplyCode} {u : Gx24} (hu : writeExhibitConfig (BitVec.ofNat 16 e.val) r.bytes t = (code, u))
        (hw : u.work = []) : done = .next ⟨answer 7 e.val code u, q⟩ := quiet.writes own q tag 7 _ hu hw
    have row := writeExhibitConfig_of_row load e t
    have live : (inPublicUse (some e) t || dropsHeldAxis e r.axes t) = true ↔ used := by
      rw [Bool.or_eq_true, inPublicUse_iff, or_assoc]; rfl
    have invalid : (namesTwice r.axes || listedByThree e r.axes t) = true ↔ senseless := by
      rw [Bool.or_eq_true, namesTwice_iff]; rfl
    have taken (free : ¬used) (sense : ¬senseless) :=
      row.trans ((if_neg fun h => free (live.mp h)).trans (if_neg fun h => sense (invalid.mp h)))
    have closed (free : ¬used) : ¬((exhibitOf e t).mode = .pub ∨ (exhibitOf e t).mode = .held) :=
      fun h => free (or_assoc.mp (.inl h))
    refine ⟨fun h => writes (row.trans (if_pos (live.mpr h))) still, fun free h =>
      writes (row.trans ((if_neg fun h => free (live.mp h)).trans (if_pos (invalid.mpr h)))) still, fun free sense lamp => ?_,
      fun st out free sense changed lamp => ?_⟩
    · refine writes ((taken free sense).trans (congrArg _ ?_)) still
      by_cases same : r.lamp = (exhibitOf e t).record.lamp
      · exact if_pos same
      · rw [if_neg same, showMode_of_record (closed free), lamp.resolve_left same]; rfl
    · refine writes ((taken free sense).trans (congrArg _ ?_)) still
      refine (if_neg changed).trans ?_
      rw [showMode_of_record (closed free), lamp]; rfl

/-- Settles O51: the row's moves by whether the station was and is enabled, and its kind. -/
theorem stationRowWritesMoveTheStation : Obligations.StationRowWritesMoveTheStation := by
  intro p q tag st r quiet own alone t old done stored shown answer withdrawn
  have attached : stored.Unattached st := alone.congr rfl rfl rfl
  have writes {u : Gx24} (hu : moveStation st old r stored = u) : done = .next ⟨answer u, q⟩ := by
    refine quiet.takes_as own q ?_
    exact congrArg (replyWrite tag 1 (BitVec.ofNat 16 st.val))
      (writeStationRow_taken (.inr (Gx24.Unattached.unused (s := t) (alone.congr rfl rfl rfl))) hu)
  have withdraws (f : Station → Station) (kept : (f (stationOf st stored)).lostKey = (stationOf st stored).lostKey) :
      stationWithdrawn st (modStation st f stored) = withdrawn f :=
    (stationWithdrawn_of_unattached attached kept).trans rfl
  refine ⟨fun was now => writes ?_, fun was now => writes ?_, fun was now kind => writes ?_, fun same kind => writes ?_⟩
  · rw [moveStation_enabled was now, enableStation_of_unattached attached]
  · rw [moveStation_disabled was now]; exact withdraws _ rfl
  · rw [moveStation_kind was now kind]; exact withdraws _ rfl
  · exact moveStation_same same kind

end

section
/-! The head-end opens and closes an exhibit (R38, R42 to R45, R48, R145). -/

namespace Sys2Proof.Machine

variable {s : Gx24} {e : Fin 16} {m : Mode}

/-! ### Changes of mode -/

/-- What a change of mode leaves, the beacons and SUPERVISOR rendered into and out of DARK (R38, R48, R145). -/
theorem changeMode_eq (e : Fin 16) (m : Mode) (s : Gx24) : changeMode e m s =
    if (exhibitOf e s).mode = .dark ∨ m = .dark then render (s.modeShown e m) else s.modeShown e m := by
  have shown : showMode e (clearStories e (modExhibit e (fun x => { x with mode := m }) s)) = s.modeShown e m := by
    unfold showMode Gx24.modeShown
    rw [exhibitOf_clearStories, exhibitOf_modExhibit_same, clearStories_eq]; dsimp only
    rw [show modExhibit e (fun x => { x with mode := m }) s = s.withExhibit e (fun x => { x with mode := m }) from rfl]
    generalize Gx24.storiesCleared e (s.withExhibit e _) = u
    cases (exhibitOf e s).record.lamp with
    | none => rfl
    | some x => unfold writeLamp modStation modePattern; cases m <;> rfl
  unfold changeMode; dsimp only; rw [shown]

theorem changeMode_work (e : Fin 16) (m : Mode) (s : Gx24) : (changeMode e m s).work = s.work := by
  have shown (u : Gx24) : (showMode e u).work = u.work := by unfold showMode; split <;> rfl
  unfold changeMode; dsimp only; split
  · rw [render_work, shown, clearStories_work]; rfl
  · rw [shown, clearStories_work]; rfl

/-- An exhibit that opens: HELD while the held set names it (R44). -/
theorem goPublic_eq (e : Fin 16) (s : Gx24) : goPublic e s = Gx24.idleReloaded e
    (changeMode e (if tget (currentHeld s) e then .held else .pub)
      (s.withExhibit e (fun x => { x with flood := 0, activity := .idle }))) := by
  unfold goPublic; dsimp only; rw [reloadIdle_eq]; rfl

theorem mode_withExhibit (f : Exhibit → Exhibit) (kept : ∀ x, (f x).mode = x.mode) (s : Gx24) :
    (exhibitOf e (s.withExhibit e f)).mode = (exhibitOf e s).mode :=
  (congrArg Exhibit.mode (exhibitOf_modExhibit_same e f s)).trans (kept _)

/-! ### Leaving PUBLIC and HELD (R45) -/

theorem dropEnded_of_still (still : s.work = []) : dropEnded e s = s := by
  unfold dropEnded; rw [still, List.filter_nil, ← still]

theorem vacate_of_free (still : s.work = []) (free : (runnerOf e s).state = .free) :
    vacate e s = s.withExhibit e (fun x => { x with grant := none, activity := .idle }) := by
  unfold vacate; rw [abortChain_of_free free, dropEnded_of_still still]; rfl

theorem vacate_of_movesNothing (still : s.work = []) (busy : (runnerOf e s).state ≠ .free) (moves : s.MovesNothing e) :
    vacate e s = growExhibit e .aborted 1
      ((s.withExhibit e (fun x => { x with grant := none, activity := .idle })).withRunner e Runner.emptied) := by
  unfold vacate
  rw [abortChain_of_movesNothing busy moves, dropEnded_of_still (s := growExhibit e .aborted 1 (modRunner e Runner.freed s)) still]
  rfl

/-- Of the exhibit that closes only its tables and counters stay. -/
def Exhibit.vacated (x : Exhibit) : Exhibit := { x with queue := [], cooldown := 0, activity := .idle, grant := none }

/-- The queue is emptied and COOLDOWN ends. -/
theorem endCooldown_clearQueue (e : Fin 16) (s : Gx24) : endCooldown e (clearQueue e s) =
    modExhibit e (fun x => { x with
      queue := [], cooldown := 0, activity := if x.activity = .cooldown then .idle else x.activity })
      (growExhibit e .cleared (exhibitOf e s).queue.length s) := by
  unfold endCooldown clearQueue; dsimp only
  rw [modExhibit_modExhibit]

theorem leavePublic_of_free (still : s.work = []) (free : (runnerOf e s).state = .free) :
    leavePublic e m s = Gx24.idleReloaded e
      (changeMode e m ((growExhibit e .cleared (exhibitOf e s).queue.length s).withExhibit e Exhibit.vacated)) := by
  unfold leavePublic; dsimp only
  rw [reloadIdle_eq, endCooldown_clearQueue,
    vacate_of_free (s := modExhibit e _ (growExhibit e .cleared (exhibitOf e s).queue.length s)) still free]
  exact congrArg (fun u => Gx24.idleReloaded e (changeMode e m u)) (modExhibit_modExhibit e _ _ _)

theorem leavePublic_of_movesNothing (still : s.work = []) (busy : (runnerOf e s).state ≠ .free) (moves : s.MovesNothing e) :
    leavePublic e m s = Gx24.idleReloaded e (changeMode e m (((growExhibit e .aborted 1
      (growExhibit e .cleared (exhibitOf e s).queue.length s)).withRunner e Runner.emptied).withExhibit e Exhibit.vacated)) := by
  unfold leavePublic; dsimp only
  rw [reloadIdle_eq, endCooldown_clearQueue,
    vacate_of_movesNothing (s := modExhibit e _ (growExhibit e .cleared (exhibitOf e s).queue.length s)) still busy moves]
  exact congrArg (fun u : Gx24 => Gx24.idleReloaded e (changeMode e m (growExhibit e .aborted 1 (u.withRunner e Runner.emptied))))
    (modExhibit_modExhibit e _ _ _)

/-! ### The request (R42) -/

theorem setMode_closed (h : m = .service ∨ m = .dark) : setMode e m s = modeClosed e m s := by
  obtain rfl | rfl := h <;> rfl

theorem modeClosed_same (h : (exhibitOf e s).mode = m) : modeClosed e m s = (.ok, [], s) := if_pos h

/-- Between SERVICE and DARK the mode alone changes. -/
theorem modeClosed_between (other : (exhibitOf e s).mode ≠ m) (closed : ¬((exhibitOf e s).mode = .pub ∨ (exhibitOf e s).mode = .held)) :
    modeClosed e m s = (.ok, [], changeMode e m s) := (if_neg other).trans (if_neg closed)

theorem modeClosed_leaves (other : (exhibitOf e s).mode ≠ m) (opened : (exhibitOf e s).mode = .pub ∨ (exhibitOf e s).mode = .held) :
    modeClosed e m s = (.ok, [], leavePublic e m s) := (if_neg other).trans (if_pos opened)

theorem modePublic_same (h : (exhibitOf e s).mode = .pub ∨ (exhibitOf e s).mode = .held) : modePublic e s = (.ok, [], s) :=
  if_pos h.symm

theorem modePublic_checks (closed : (exhibitOf e s).mode = .dark ∨ (exhibitOf e s).mode = .service) : modePublic e s =
    match publicCheck e s with
    | some b => (.invalid, [b], s)
    | none => (.ok, [], goPublic e s) := by
  refine if_neg ?_
  obtain dark | service := closed
  · rw [dark]; decide
  · rw [service]; decide

theorem Mode.ofCode_code (m : Mode) : Mode.ofCode m.code = some m := by cases m <;> rfl

theorem Mode.ofCode_of_le {b : Byte} (h : 4 ≤ b.toNat) : Mode.ofCode b = none := by
  obtain ⟨k, hk⟩ := Nat.exists_eq_add_of_le' h
  unfold Mode.ofCode; rw [hk]; rfl

theorem manageMode_of_codes (tag : Byte) (e : Fin 16) (m : Mode) (s : Gx24) : manageMode tag [byteOf e.val, m.code] s =
    sendUp (.mgmtReply tag 3#8 (setMode e m s).1 0#8 0#16 (setMode e m s).2.1) (setMode e m s).2.2 := by
  unfold manageMode; dsimp only
  rw [indexOf_byteOf_small (by decide) e, m.ofCode_code]; rfl

theorem manageMode_range {body : List Byte} (tag : Byte) (h : ∀ x m, body = [x, m] → 16 ≤ x.toNat ∨ 4 ≤ m.toNat) (s : Gx24) :
    manageMode tag body s = sendUp (.mgmtReply tag 3#8 .range 0#8 0#16 []) s := by
  unfold manageMode
  split
  · next x m =>
    obtain far | far := h x m rfl
    · rw [indexOf_of_le far]; rfl
    · rw [Mode.ofCode_of_le far]; cases indexOf 16 x <;> rfl
  · rfl

end Sys2Proof.Machine

open Sys2Proof Sys2Proof.Machine

/-- Settles O55: by the mode asked for and the mode the exhibit has; an exhibit that leaves PUBLIC or HELD by whether a chain
runs. -/
theorem exhibitModeOpensAndCloses : Obligations.ExhibitModeOpensAndCloses := by
  intro p q tag quiet own t answer
  have still : t.work = [] := quiet.2
  have answered {code : ReplyCode} {c : List Byte} {u : Gx24} (hw : u.work = []) : (answer code c u).work = [] :=
    (sendUp_work ..).trans hw
  refine ⟨fun body far => quiet.takes_still_as own q (manageMode_range tag far t) (answered still), fun e => ?_⟩
  intro x set shown idle aborted
  have sets {m : Mode} {code : ReplyCode} {c : List Byte} {u : Gx24} (h : setMode e m t = (code, c, u)) (hw : u.work = []) :
      set m = .next ⟨answer code c u, q⟩ :=
    quiet.takes_still_as own q ((manageMode_of_codes tag e m t).trans (by rw [h])) (answered hw)
  have changed {m : Mode} {u : Gx24} (same : (exhibitOf e u).mode = x.mode) : changeMode e m u = shown m u := by
    rw [changeMode_eq, same]
  have closed (m : Mode) : m = .dark ∨ m = .service → ¬(m = .pub ∨ m = .held) := by rintro (rfl | rfl) <;> decide
  have between {m : Mode} (target : m = .service ∨ m = .dark) (other : x.mode ≠ m) (shut : x.mode = .dark ∨ x.mode = .service) :
      set m = .next ⟨answer .ok [] (shown m t), q⟩ := by
    rw [← changed (u := t) rfl]
    exact sets ((setMode_closed target).trans (modeClosed_between other (closed _ shut))) ((changeMode_work ..).trans still)
  refine ⟨sets rfl still, fun same => sets (modePublic_same same) still,
    fun same => sets (modeClosed_same same) still, fun same => sets (modeClosed_same same) still,
    fun dark => between (.inl rfl) (by rw [dark]; decide) (.inl dark),
    fun service => between (.inr rfl) (by rw [service]; decide) (.inr service), fun b shut fails => ?_, fun shut passes => ?_,
    fun m target opened moves => ?_⟩
  · refine sets ((modePublic_checks (s := t) shut).trans ?_) still
    rw [show publicCheck e t = some b from fails]
  · have opens : setMode e .pub t = (.ok, [], goPublic e t) := by
      refine (modePublic_checks (s := t) shut).trans ?_
      rw [show publicCheck e t = none from passes]
    have same : (exhibitOf e (t.withExhibit e (fun x => { x with flood := 0, activity := .idle }))).mode = x.mode :=
      mode_withExhibit (fun x => { x with flood := 0, activity := .idle }) (fun _ => rfl) t
    rw [goPublic_eq, changed same] at opens
    refine sets opens ?_
    rw [idleReloaded_work, ← changed same, changeMode_work]; exact still
  · have other : x.mode ≠ m := by
      obtain rfl | rfl := target <;> obtain h | h := opened <;> rw [h] <;> decide
    have leaves := (setMode_closed target).trans (modeClosed_leaves (s := t) other opened)
    have same (u : Gx24) (hu : u.exhibits = t.exhibits) : (exhibitOf e (u.withExhibit e Exhibit.vacated)).mode = x.mode :=
      (mode_withExhibit Exhibit.vacated (fun _ => rfl) u).trans (congrArg Exhibit.mode (exhibitOf_congr hu e))
    have cleared {u : Gx24} (hw : u.work = []) (hu : u.exhibits = t.exhibits)
        (left : leavePublic e m t = Gx24.idleReloaded e (changeMode e m (u.withExhibit e Exhibit.vacated))) :
        set m = .next ⟨answer .ok [] (Gx24.idleReloaded e (shown m (u.withExhibit e Exhibit.vacated))), q⟩ := by
      rw [← changed (same u hu), ← left]
      refine sets leaves ?_
      rw [left, idleReloaded_work, changeMode_work]; exact hw
    by_cases free : idle
    · rw [show aborted (growExhibit e .cleared x.queue.length t) = growExhibit e .cleared x.queue.length t from if_pos free]
      exact cleared still rfl (leavePublic_of_free still free)
    · rw [show aborted (growExhibit e .cleared x.queue.length t) = _ from if_neg free]
      exact cleared still rfl (leavePublic_of_movesNothing still free (moves.resolve_left free))

end

section
/-! A runner's turn (R37, R66 to R75, R79, R83, R85): one entry whole, of a chain whose exhibit owns and claims no axis. -/

namespace Sys2Proof.Machine

variable {p s t : Gx24} {e : Fin 16} {a : Fin 8} {l : Link}

/-- The runner has used up a step of its chain (R67). -/
def Gx24.stepCounted (e : Fin 16) (s : Gx24) : Gx24 := s.withRunner e (fun r => { r with steps := r.steps + 1 })

/-- A runner within its steps counts one and does what its entry says (R66, R67). -/
theorem runStep_performs (steps : (runnerOf e s).state = .stepping) (few : (runnerOf e s).steps < 32)
    (taken : actionAt (runnerOf e s).index s ≠ .free) :
    runStep e s = perform e (actionAt (runnerOf e s).index s) (s.stepCounted e) := by
  unfold runStep; dsimp only
  rw [if_neg (not_not_intro steps), if_neg (Nat.not_le.mpr few : ¬stepLimit ≤ (runnerOf e s).steps)]
  cases h : actionAt (runnerOf e s).index s with
  | free => exact absurd h taken
  | _ => rfl

theorem runStep_free (steps : (runnerOf e s).state = .stepping) (few : (runnerOf e s).steps < 32)
    (free : actionAt (runnerOf e s).index s = .free) : runStep e s = chainFault e .freeEntry s := by
  unfold runStep; dsimp only
  rw [if_neg (not_not_intro steps), if_neg (Nat.not_le.mpr few : ¬stepLimit ≤ (runnerOf e s).steps), free]

theorem modRunner_modRunner (f g : Runner → Runner) : modRunner e g (modRunner e f s) = modRunner e (fun r => g (f r)) s := by
  unfold modRunner; rw [tmod_tmod]

/-! ### Claims of a chain (R75, R110, R111) -/

theorem refusal_exhibit (a : Fin 8) (e : Fin 16) (s : Gx24) : refusal a (.exhibit e) s =
    if (axisOf a s).state = .off then some .off else if (axisOf a s).state = .fault then some .fault
    else if (axisOf a s).disabling then some .disabling else if lists e a s then none else some .none := by
  unfold refusal; exact if_neg fun h => nomatch h.1

theorem refusal_exhibit_listed (listed : lists e a s = true) (ready : (axisOf a s).Claimable) :
    refusal a (.exhibit e) s = none := by
  rw [refusal_exhibit, if_neg ready.on, if_neg ready.well, if_neg (Bool.eq_false_iff.mp ready.staying), if_pos listed]

/-- The only claim of a free axis is granted, and its claimant told (R92, R93, R111). -/
theorem claimAxis_sole {d : Claim} {g : Segment} (hr : refusal a d.claimant s = none) (unclaimed : (axisOf a s).claims = [])
    (unowned : (axisOf a s).owner = none) (hg : jobSegment d.job 0 s = g) :
    claimAxis a d s = claimResult a { d with timeLeft := (axisOf a s).params.claimTimeout } .granted .none
      (Gx24.claimGranted a d.claimant d.origin d.job d.mode g s) := by
  have sole : (axisOf a (modAxis a (Axis.joinedBy d) s)).claims =
      [{ d with timeLeft := (axisOf a s).params.claimTimeout }] := by
    rw [Kept.axisOf_modAxis_same]; unfold Axis.joinedBy; rw [unclaimed]; rfl
  have left : ((axisOf a s).claims ++ [{ d with timeLeft := (axisOf a s).params.claimTimeout }]).filter
      (fun b : Claim => decide (b.claimant ≠ d.claimant)) = [] := by simp [unclaimed]
  rw [claimAxis_free hr unclaimed unowned]
  unfold grantAxis
  rw [winner_of_cons sole]; dsimp only [List.foldl_nil]
  rw [modAxis_modAxis, growAxis_modAxis, startProgram_modAxis (g := g) (by cases h : d.job <;> rw [← hg, h] <;> rfl)]
  refine congrArg _ (modAxis_congr ?_)
  rw [axisOf_clampCounted]
  exact congrArg (fun l => { (axisOf a s).begun d.job d.mode g with
    claims := l, owner := some ⟨d.claimant, d.origin⟩, lastOwner := some d.claimant }) left

theorem claimGranted_modRunner (c : Claimant) (o : Origin) (j : Job) (m : RunMode) (g : Segment) (f : Runner → Runner) :
    Gx24.claimGranted a c o j m g (modRunner e f s) = modRunner e f (Gx24.claimGranted a c o j m g s) := by
  have rest : axisOf a (modRunner e f s) = axisOf a s := rfl
  unfold Gx24.claimGranted; rw [rest]; dsimp only
  split <;> rfl

theorem claimGranted_cr (c : Claimant) (o : Origin) (j : Job) (m : RunMode) (g : Segment) :
    (Gx24.claimGranted a c o j m g s).cr = s.cr := by unfold Gx24.claimGranted; dsimp only; split <;> rfl

theorem awaitsClaim_claiming : awaitsClaim e a (modRunner e (fun r => r.claiming a) s) = true := by
  unfold awaitsClaim; rw [runnerOf_modRunner_same]; simp [Runner.claiming]

theorem awaitsClaim_false (h : (runnerOf e s).state ≠ .waitClaim) : awaitsClaim e a s = false := by
  unfold awaitsClaim; rw [decide_eq_false h, Bool.false_and]

theorem entryOf_claiming : entryOf e (modRunner e (fun r => r.claiming a) s) = entryOf e s := by
  unfold entryOf; rw [runnerOf_modRunner_same]; rfl

/-- A runner that has left its entry waits for nothing. -/
theorem awaitsClaim_linkTaken : awaitsClaim e a (s.linkTaken e l) = false := by
  refine awaitsClaim_false ?_
  rcases l with i | _
  · rw [show (runnerOf e (s.linkTaken e (.to i))).state = .stepping from
      congrArg Runner.state (runnerOf_modRunner_same e (·.goesOn i) s)]; decide
  · rw [show (runnerOf e (s.linkTaken e .endOfChain)).state = .free from
      congrArg Runner.state (runnerOf_modRunner_same e Runner.emptied s)]; decide

/-- What a claim made of the runner goes as it leaves its entry. -/
theorem linkTaken_claiming : (modRunner e (fun r => r.claiming a) s).linkTaken e l = s.linkTaken e l := by
  have forget (g : Runner → Runner) (hg : ∀ r : Runner, g (r.claiming a) = g r) :
      tmod (tmod s.cr.runners e (fun r => r.claiming a)) e g = tmod s.cr.runners e g := by
    rw [tmod_tmod]; exact congrArg _ (funext hg)
  have origin : (runnerOf e (modRunner e (fun r => r.claiming a) s)).origin = (runnerOf e s).origin := by
    rw [runnerOf_modRunner_same]; rfl
  rcases l with i | _
  · exact congrArg (fun x => ({ s with cr := { s.cr with runners := x }, work := s.work ++ [.run e] } : Gx24))
      (forget (·.goesOn i) fun _ => rfl)
  · unfold Gx24.linkTaken Gx24.chainCompleted; dsimp only
    rw [origin]
    exact congrArg (fun x => ({ growExhibit e .completed 1 s with
      cr := { s.cr with runners := x }
      ac := if (exhibitOf e s).record.mask.chainEnd then
        { s.ac with idle := tput s.ac.idle e (exhibitOf e s).record.idleReload } else s.ac
      work := s.work ++ [.ended e (runnerOf e s).origin] } : Gx24)) (forget Runner.emptied fun _ => rfl)

/-! ### Entries -/

section Entries

variable (still : ∀ a, ownsAxis e a s = false)
include still

theorem doCue_absent {st : Fin 24} {n : Byte} {w : Bool} (absent : (stationOf st s).state = .absent) :
    doCue e st n w l s = s.linkTaken e l := by
  unfold doCue; rw [writeCue_of_absent absent]
  exact follow_of_ownsNothing l still

theorem doHaltAxis_unowned (a : Fin 8) (m : Manner) : doHaltAxis e a m l s = s.linkTaken e l := by
  unfold doHaltAxis; rw [still a]; exact follow_of_ownsNothing l still

theorem doAlert_unowned (cls : Fin 16) : doAlert e cls l s = (raise ⟨cls, .none, some e, none, none⟩ s).linkTaken e l :=
  follow_of_ownsNothing l fun a => (ownsAxis_congr ((alertsOnlyBlind s).raise _ (.refl s)).mu e a).trans (still a)

/-- A refusal sends the runner past its MOVE, counted (R75, R76). -/
theorem runnerSkipped_claiming {i : Fin 64} {m : RunMode} {w : Bool} (entry : entryOf e s = .move a i m w l) :
    runnerSkipped e a (modRunner e (fun r => r.claiming a) s) = (growExhibit e .movesSkipped 1 s).linkTaken e l := by
  have counted : growExhibit e .movesSkipped 1 (modRunner e (fun r => r.claiming a) s) =
      modRunner e (fun r => r.claiming a) (growExhibit e .movesSkipped 1 s) := rfl
  have entry' : entryOf e (growExhibit e .movesSkipped 1 s) = .move a i m w l := entry
  unfold runnerSkipped leave
  rw [awaitsClaim_claiming, if_pos rfl, counted, entryOf_claiming, entry', follow_of_ownsNothing, linkTaken_claiming]
  · rfl
  · exact still

/-- A MOVE on an axis that is OFF is skipped and counted (R75, R86). -/
theorem doMove_off {i : Fin 64} {m : RunMode} {w : Bool} (entry : entryOf e s = .move a i m w l)
    (off : (axisOf a s).state = .off) : doMove e a i m s =
      (growExhibit e .movesSkipped 1 (growAxis a .claimsRefused s)).linkTaken e l := by
  have refused : claimAxis a ⟨.exhibit e, (runnerOf e s).origin, .program i, m, 0⟩ (modRunner e (fun r => r.claiming a) s) =
      (growExhibit e .movesSkipped 1 (growAxis a .claimsRefused s)).linkTaken e l := by
    have why : refusal a (.exhibit e) (modRunner e (fun r => r.claiming a) s) = some .off :=
      (refusal_exhibit ..).trans (if_pos off)
    unfold claimAxis; dsimp only
    rw [why]
    exact runnerSkipped_claiming (s := growAxis a .claimsRefused s) still entry
  unfold doMove; dsimp only
  rw [refused, awaitsClaim_linkTaken]; rfl

end Entries

/-- What a granted MOVE leaves the runner: on at the link, or waiting for the end of its program (R75, R76). -/
theorem doMove_granted {i : Fin 64} {m : RunMode} {w : Bool} {n : Fin 1023} (entry : entryOf e s = .move a i m w (.to n))
    (listed : lists e a s = true) (ready : (axisOf a s).Claimable) (unclaimed : (axisOf a s).claims = [])
    (unowned : (axisOf a s).owner = none) : doMove e a i m s =
      let granted := Gx24.claimGranted a (.exhibit e) (runnerOf e s).origin (.program i) m
        (tget s.mu.segments (tget s.mu.programs i).first) s
      if w then granted.withRunner e (fun r => { r with state := .waitDone, awaitedAxis := some a, steps := 0 })
      else granted.linkTaken e (.to n) := by
  have segment : jobSegment (.program i) 0 s = tget s.mu.segments (tget s.mu.programs i).first :=
    congrArg (tget s.mu.segments) (segmentNumber_zero _)
  dsimp only
  generalize hg : tget s.mu.segments (tget s.mu.programs i).first = g at segment ⊢
  generalize ho : (runnerOf e s).origin = o
  have claimed : claimAxis a ⟨.exhibit e, o, .program i, m, 0⟩ (modRunner e (fun r => r.claiming a) s) =
      runnerGranted e a (modRunner e (fun r => r.claiming a) (Gx24.claimGranted a (.exhibit e) o (.program i) m g s)) := by
    rw [← claimGranted_modRunner]
    exact claimAxis_sole (s := modRunner e (fun r => r.claiming a) s) (d := ⟨.exhibit e, o, .program i, m, 0⟩)
      (refusal_exhibit_listed (s := modRunner e (fun r => r.claiming a) s) listed ready) unclaimed unowned segment
  have same : entryOf e (modRunner e (fun r => r.claiming a) (Gx24.claimGranted a (.exhibit e) o (.program i) m g s)) =
      .move a i m w (.to n) := by
    rw [entryOf_claiming, ← entry]
    unfold entryOf actionAt runnerOf; rw [claimGranted_cr]
  unfold doMove; dsimp only
  rw [ho, claimed]
  generalize Gx24.claimGranted a (.exhibit e) o (.program i) m g s = u at same ⊢
  unfold runnerGranted leave
  rw [awaitsClaim_claiming, if_pos rfl, same]
  cases w with
  | true =>
    have waits : suspend e .waitDone (modRunner e (fun r => r.claiming a) u) =
        u.withRunner e (fun r => { r with state := .waitDone, awaitedAxis := some a, steps := 0 }) := modRunner_modRunner _ _
    rw [show (Action.move a i m true (.to n)).waitsDone = true from rfl, if_pos rfl, waits, awaitsClaim_false]
    · rfl
    · rw [show runnerOf e (u.withRunner e _) = _ from runnerOf_modRunner_same e _ u]; exact nofun
  | false =>
    have goes : follow e (.to n) (modRunner e (fun r => r.claiming a) u) = u.linkTaken e (.to n) :=
      linkTaken_claiming (s := u) (l := .to n)
    rw [show (Action.move a i m false (.to n)).waitsDone = false from rfl, if_neg Bool.false_ne_true,
      show (Action.move a i m false (.to n)).link = .to n from rfl, goes, awaitsClaim_linkTaken]
    rfl

/-! ### Suspensions (R67) -/

theorem Gx24.Unserved.modRunner {st : Fin 24} {f : Runner → Runner} (h : s.Unserved st)
    (kept : ∀ r, (f r).awaitedCue = r.awaitedCue) : (modRunner e f s).Unserved st := by
  refine ⟨h.1, fun x serial => ?_, nofun⟩
  have same : (runnerOf x (Machine.modRunner e f s)).awaitedCue = (runnerOf x s).awaitedCue := by
    by_cases own : e = x
    · subst own; rw [runnerOf_modRunner_same]; exact kept _
    · exact congrArg Runner.awaitedCue (tget_tmod_other s.cr.runners own f)
  exact fun awaited => h.2.1 x serial (same.symm.trans awaited)

/-- A cue written where nothing hangs on the station (R70). -/
theorem doCue_written {st : Fin 24} {n : Byte} {w : Bool} (still : ∀ a, ownsAxis e a s = false)
    (present : (stationOf st s).state ≠ .absent) (alone : s.Unserved st) : doCue e st n w l s =
      let c := (stationOf st s).runningCue + 1#4
      if w then suspend e .waitCue (modRunner e (fun r => { r with awaitedCue := some (st, c) })
        (s.withStation st (fun x => { x with runningCue := c, latestCue := c, cue := some ⟨n, c⟩ })))
      else (s.withStation st (fun x => { x with runningCue := c, latestCue := c, cue := some ⟨n, c⟩ })).linkTaken e l := by
  have written : s.withStation st (fun x => { x with
      runningCue := x.runningCue + 1#4, latestCue := x.runningCue + 1#4, cue := some ⟨n, x.runningCue + 1#4⟩ }) =
      s.withStation st (fun x => { x with
        runningCue := (stationOf st s).runningCue + 1#4, latestCue := (stationOf st s).runningCue + 1#4
        cue := some ⟨n, (stationOf st s).runningCue + 1#4⟩ }) := modStation_congr rfl
  unfold doCue; rw [writeCue_of_unserved present alone, written]; dsimp only
  exact ite_congr rfl (fun _ => rfl) fun _ => follow_of_ownsNothing l still

theorem sendUp_modRunner (u : UpFrame) (f : Runner → Runner) : sendUp u (modRunner e f s) = modRunner e f (sendUp u s) := by
  unfold sendUp; rw [show (modRunner e f s).tp = s.tp from rfl]; split <;> rfl

/-- A REFER outside ISLAND gives its referral and waits (R79). -/
theorem doRefer_sends {tag : Byte} {n : Nat} (clock : s.gc.state ≠ .island) : doRefer e tag n s =
    growExhibit e .referralsSent 1 (sendUp (.referral e (nextReferral (runnerOf e s).lastReferral) tag (runnerOf e s).row
      (runnerOf e s).input (runnerOf e s).requestTick) (s.withRunner e (fun r => { r with
        state := .waitVerdict, wait := n, steps := 0
        lastReferral := some (nextReferral (runnerOf e s).lastReferral) }))) := by
  unfold doRefer; rw [if_neg clock]
  unfold sendReferral suspend; dsimp only
  rw [sendUp_modRunner, show sendUp _ (s.withRunner e _) = _ from sendUp_modRunner _ _]
  exact congrArg (growExhibit e .referralsSent 1) (modRunner_modRunner _ _)

/-! ### A PAUSE (R37, R83) -/

theorem chainPause_unowned (still : ∀ a, ownsAxis e a s = false) : chainPause e l s =
    (storePause (runnerOf e s).row l s).chainCompleted e := by
  refine chainEnd_of_ownsNothing fun a => (ownsAxis_congr ?_ e a).trans (still a)
  unfold storePause; repeat' split
  all_goals rfl

theorem storePause_stored {r : Fin 128} {i : Fin 1023} {x : Fin 16} (named : (triggerOf r s).exhibit = some x)
    (stepped : (triggerOf r s).style = .stepped) (opened : (exhibitOf x s).mode = .pub) :
    storePause (some r) (.to i) s = { s with pd := { s.pd with continuation := tput s.pd.continuation r (some i) } } := by
  unfold storePause; dsimp only; rw [named]; exact if_pos ⟨stepped, opened⟩

theorem storePause_dropped {row : Option (Fin 128)} (h : l = .endOfChain ∨ row = none ∨
    ∃ r, row = some r ∧ ((triggerOf r s).style = .fresh ∨ (triggerOf r s).exhibit = none ∨
      ∃ x, (triggerOf r s).exhibit = some x ∧ (exhibitOf x s).mode ≠ .pub)) : storePause row l s = s := by
  unfold storePause
  obtain rfl | rfl | ⟨r, rfl, h⟩ := h
  · cases row <;> rfl
  · rfl
  · rcases l with i | _
    · dsimp only
      obtain fresh | none | ⟨x, named, closed⟩ := h
      · split
        · exact if_neg fun h => by rw [fresh] at h; exact nomatch h.1
        · rfl
      · rw [none]
      · rw [named]; exact if_neg fun h => closed h.2
    · rfl

end Sys2Proof.Machine

open Sys2Proof Sys2Proof.Machine

/-- Settles O32: the runner counts its step, and each kind of entry is the lemma of its action. -/
theorem runnerExecutesOneEntryWhole : Obligations.RunnerExecutesOneEntryWhole := by
  intro p e quiet steps few moves clock s act done
  have still : ∀ a, ownsAxis e a s = false := moves.ownsNothing
  have performs {x : Action} (h : act = x) (taken : x ≠ .free) : done = perform e x s := by
    rw [← h]; exact runStep_performs steps few (by rw [show actionAt _ p = x from h]; exact taken)
  have runner : runnerOf e s = { runnerOf e p with steps := (runnerOf e p).steps + 1 } := runnerOf_modRunner_same e _ p
  have entry {x : Action} (h : act = x) : entryOf e s = x := by unfold entryOf; rw [runner]; exact h
  refine ⟨fun st out pat l h => (performs h nofun).trans ?_, fun c n l h => (performs h nofun).trans ?_,
    fun c l h => (performs h nofun).trans ?_, fun n l h => (performs h nofun).trans ?_,
    fun tag n d go stop h => ?_, fun st n w l h => ⟨fun absent => (performs h nofun).trans ?_, fun present alone => ?_⟩,
    fun a i m wait l h off => (performs h nofun).trans ?_, fun a i m wait l h listed idle staying unowned unclaimed => ?_,
    fun a m l h => (performs h nofun).trans ?_, fun r i x h row named stepped opened => (performs h nofun).trans ?_,
    fun l h none => (performs h nofun).trans ?_, fun free => ?_⟩
  · exact follow_of_ownsNothing l still
  · exact follow_of_ownsNothing l still
  · exact doAlert_unowned still c
  · exact (modRunner_modRunner (s := s) _ _).trans (modRunner_modRunner (s := p) _ _)
  · intro r serial
    refine (performs h nofun).trans ((doRefer_sends (s := s) clock).trans ?_)
    rw [runner]
    exact congrArg (fun u => growExhibit e .referralsSent 1 (sendUp _ u)) (modRunner_modRunner (s := p) _ _)
  · exact doCue_absent still absent
  · intro c written
    have cue := doCue_written (l := l) (n := n) (w := w) (s := s) still present (alone.unserved.modRunner fun _ => rfl)
    refine ⟨fun go => ?_, fun waits => ?_⟩
    · subst go; exact (performs h nofun).trans cue
    · subst waits
      refine (performs h nofun).trans (cue.trans ?_)
      exact (modRunner_modRunner (s := written s) _ _).trans (modRunner_modRunner (s := written p) _ _)
  · exact doMove_off still (entry h) off
  · intro granted
    have move := doMove_granted (s := s) (entry h) listed (.of_idle idle staying) unclaimed unowned
    rw [show (runnerOf e s).origin = (runnerOf e p).origin by rw [runner]] at move
    refine ⟨fun go => ?_, fun waits => ?_⟩
    · subst go; exact (performs h nofun).trans move
    · subst waits; exact (performs h nofun).trans move
  · exact doHaltAxis_unowned still a m
  · refine (chainPause_unowned (s := s) still).trans ?_
    rw [show (runnerOf e s).row = some r by rw [runner]; exact row]
    exact congrArg _ (storePause_stored (s := s) named stepped opened)
  · refine (chainPause_unowned (s := s) still).trans (congrArg _ (storePause_dropped (s := s) ?_))
    rw [runner]; exact none
  · exact (runStep_free steps few free).trans (chainFault_of_movesNothing .freeEntry (by rw [steps]; decide) moves)

end
